-- ==== Sys2Proof/Word.lean ====
section
/-! DEFINITION. Word.lean: the bit-vector types of the W640.
Positions, values and words of items are 32 bits wide (00, Lengths and positions; 03, Table 3-1), cycle
numbers and tags 16 bits, and the bytes of a frame 8 bits. Counts, indices and lengths are plain numbers. -/

namespace Sys2Proof

/-- A byte of a frame. -/
abbrev Byte := BitVec 8

/-- A cycle number, a tag or a detection count. -/
abbrev Half := BitVec 16

/-- A position, a counter reading, an item's value or one of its words. -/
abbrev Word := BitVec 32

end Sys2Proof
end

