-- ==== Sys2Proof/Syntax.lean ====
section
/-! DEFINITION. Syntax.lean: the commands of the W640, one constructor per row of spec/opcode_table.json.
Frames are the bytes above the physical layer (03, Table 3-1). A timer's firing carries `now`, the reading of
FR's free-running microsecond clock (R45, R53, R57, R58; log 1). A management request carries its request
tag, its access level word and its argument words (11, Table 11-1); a table write with a row of its own
carries the words after the table id: index, field group and the group's fields (Table 11-2). -/

namespace Sys2Proof

/-- The commands. -/
inductive Instr where
  /-- Reset with the levels of ADDR5 to ADDR0 (R43, R172). -/
  | powerOnReset (pins : BitVec 6)
  /-- A frame arriving on the cell port (R45, R46). -/
  | outboundFrame (bytes : List Byte) (now : Word)
  /-- A frame arriving on the field port (R51, R52). -/
  | returnFrame (bytes : List Byte)
  /-- The return window's timer (R53). -/
  | returnWindowExpiry (now : Word)
  /-- The staleness of one watch slot (R54). -/
  | slotStale (slot : Nat)
  /-- The loss of one station (R55). -/
  | stationSuspect (station : Nat)
  /-- The accept timeout of one command (R69). -/
  | cmdTimeout (channel : Nat) (tag : Half)
  /-- The complete timeout of one command (R70). -/
  | cmdOverdue (channel : Nat) (tag : Half)
  /-- The splice found from a web's splice count (R112). -/
  | spliceCountTaken (web : Nat)
  /-- The cell-loss timer (R57). -/
  | cellLost (now : Word)
  /-- The origination timer in LOST_CELL (R58). -/
  | originateFrame (now : Word)
  | sectionWrite (tag : Half) (level : Word) (words : List Word)
  | linkWrite (tag : Half) (level : Word) (words : List Word)
  | relayRecordWrite (tag : Half) (level : Word) (words : List Word)
  | channelTableWrite (tag : Half) (level : Word) (words : List Word)
  | watchTableWrite (tag : Half) (level : Word) (words : List Word)
  | stationThresholdWrite (tag : Half) (level : Word) (words : List Word)
  | commandChannelWrite (tag : Half) (level : Word) (words : List Word)
  | gradeWrite (tag : Half) (level : Word) (words : List Word)
  | patternWrite (tag : Half) (level : Word) (words : List Word)
  | plannerRecordWrite (tag : Half) (level : Word) (words : List Word)
  | spliceRecordWrite (tag : Half) (level : Word) (words : List Word)
  | slitterStationWrite (tag : Half) (level : Word) (words : List Word)
  | pairRecordWrite (tag : Half) (level : Word) (words : List Word)
  | cutPlannerRecordWrite (tag : Half) (level : Word) (words : List Word)
  | sgRecordWrite (tag : Half) (level : Word) (words : List Word)
  | curveWrite (tag : Half) (level : Word) (words : List Word)
  | generatorWrite (tag : Half) (level : Word) (words : List Word)
  /-- TABLE_WRITE with its whole word list, table id first (R167). -/
  | tableWrite (tag : Half) (level : Word) (words : List Word)
  /-- TABLE_READ with its whole word list (R166). -/
  | tableRead (tag : Half) (level : Word) (words : List Word)
  | orderAdd (tag : Half) (level : Word) (words : List Word)
  | orderEdit (tag : Half) (level : Word) (words : List Word)
  | orderCancel (tag : Half) (level : Word) (words : List Word)
  | orderRush (tag : Half) (level : Word) (words : List Word)
  | orderRead (tag : Half) (level : Word) (words : List Word)
  | historyRead (tag : Half) (level : Word) (words : List Word)
  | anchorLink (tag : Half) (level : Word) (words : List Word)
  | spliceNow (tag : Half) (level : Word) (words : List Word)
  | zoneAdd (tag : Half) (level : Word) (words : List Word)
  | stationClear (tag : Half) (level : Word) (words : List Word)
  /-- MODE with argument 0 (R168). -/
  | modeSetup (tag : Half) (level : Word)
  /-- MODE with argument 1 (R169). -/
  | modeRun (tag : Half) (level : Word)
  | resetTracking (tag : Half) (level : Word) (words : List Word)
  | clear (tag : Half) (level : Word) (words : List Word)
  | statusRead (tag : Half) (level : Word) (words : List Word)
  deriving DecidableEq, Repr

end Sys2Proof
end

