-- ==== Sys2Proof/Decode.lean ====
section
/-! DEFINITION. Decode.lean: the command a word spells by the bits of spec/opcode_table.json. No row of the
table gives bits (98_reader.md: n_rows_with_fixed 0, n_rows_with_fields 0), so no word spells a command. The
block's frames, which do carry requests as bits, are read in Machine/Frame.lean. -/

namespace Sys2Proof

/-- The command that a word of `nbits` bits spells: none, for every word. -/
def decodeTableWord (_nbits _w : Nat) : Option Instr := none

end Sys2Proof
end

