-- ==== Sys2Proof/Config.lean ====
section
/-! DEFINITION. Config.lean: the fixed capacities and limits of the part (00, Table 0-6), and the free
values: constants without a body, standing for numbers the spec does not state (log 11 to 14, 42, 52, 54, 65, 67). -/

namespace Sys2Proof

/-- Mark records in the pool (00, Table 0-6; R22). -/
def Config.markSlots : Nat := 192

/-- BOUNDARY marks the map may hold, and the records kept in reserve for them (R22, R23). -/
def Config.boundaryLimit : Nat := 16

/-- Events held by the queue (R173). -/
def Config.eventCapacity : Nat := 32

/-- MREPLY items held by the reply queue (R165). -/
def Config.replyCapacity : Nat := 64

/-- Items of an outbound frame, of a station's return frame and of the W640's own (00, Table 0-6). -/
def Config.outboundItems : Nat := 96
def Config.returnItems : Nat := 32
def Config.ownReturnItems : Nat := 24

/-- Order records, completion records, cut plan entries and pieces (00, Table 0-6). -/
def Config.queueCapacity : Nat := 32
def Config.historyCapacity : Nat := 8
def Config.planCapacity : Nat := 16

/-- Pending switches of a generator (R155). -/
def Config.switchCapacity : Nat := 16

/-- The longest piece (08, Table 8-1, max_piece, fixed). -/
def Config.maxPiece : Nat := 80000

/-- The largest lead, trail or widening of a mark (02, Table 2-1). -/
def Config.lengthLimit : Nat := 16777216

/-- The largest tally of an order (05, Table 5-3). -/
def Config.tallyLimit : Nat := 1000000

/-- FREE VALUE (log 11): which of the free mark records a creation takes, counted modulo their number. R22 says
any. It may differ from one creation to the next, by the serial given. -/
opaque Config.recordChoice : Nat → Nat

/-- FREE VALUE (log 12): what a mark's lead, trail or widening holds when the length asked for does not fit
the 24 bits of Table 2-1. The spec states no value. -/
opaque Config.lengthBeyond : Nat → BitVec 24

/-- FREE VALUE (log 13): what a 32-bit word of an event or a reply holds when the number it is to carry does
not fit in it. The spec states no value. -/
opaque Config.wordBeyond : Int → Word

/-- FREE VALUE (log 14): what a tally of Table 5-3 holds when it would pass 1,000,000. The spec states a range
and, unlike for unassigned scrap, no saturation. -/
opaque Config.tallyBeyond : Nat → Fin 1000001

/-- FREE VALUE (log 42): what ANCHOR_LINK takes as the cycle snapshot of a section that is free. A free section
has no track state, and the spec states no value. -/
opaque Config.absentSnapshot : Nat → Word

/-- FREE VALUE (log 65): the offset at which a position is translated for a section that is free. A free section
has no track state, and the spec states no value. By the section. -/
opaque Config.absentOffset : Nat → Word

/-- FREE VALUE (log 67): what the sheets required of an order divided by a rush hold when the figure R92 gives falls
outside 0 to 1,000,000. The spec states no value. -/
opaque Config.sheetsBeyond : Int → Fin 1000001

/-- FREE VALUE (log 52): where a splice lies that a splicer reports without words while the web has no plan.
The spec states no position. It may depend on the web's track counter. -/
opaque Config.unreportedSplice : Word → Word

/-- FREE VALUE (log 54): a position or value word of an event that no rule gives, by the event's kind code, the
word's place (1 position, 2 value), the event's subject and the cycle number. -/
opaque Config.unstatedWord : Nat → Nat → Word → Half → Word

end Sys2Proof
end

