-- ==== Sys2Proof/Machine/State.lean ====
section
/-! DEFINITION. Machine/State.lean: the state of the W640 as plain data, block by block (00, Table 0-1), the
reset state, and the reasons a step could stop. Each field cites the table of spec/ that names it; fields of
the model's own say so. -/

namespace Sys2Proof.Machine

/-! ### Frames and items (03, Table 3-1) -/

/-- One item of a frame. The kind stays a code, since an item of unknown kind is forwarded as it stands (R44). -/
structure Item where
  station : Byte
  channel : Byte
  kind : Byte
  tag : Half
  value : Word
  words : List Word
  deriving DecidableEq, Repr

/-- The item kinds of Table 3-1. -/
inductive ItemKind where
  | set | cmd | accept | done | refuse | report | mreq | mreply | event | status
  deriving DecidableEq, Repr

/-- A frame of either kind: header fields and items. -/
structure Frame where
  kind : Byte
  flags : Byte
  source : Byte
  cycle : Half
  sample : Word
  items : List Item
  deriving DecidableEq, Repr

/-- A station and one of its channels (00, Table 0-4, Channel). -/
structure Key where
  station : Byte
  channel : Byte
  deriving DecidableEq, Repr

/-! ### Events (11, Table 11-6) -/

inductive EventKind where
  | sourceSwitch | linkRange
  | mapFull | jointMatched | correctionClamped | jointUnexpected | jointMissed
  | stationSuspect | stationRestored | cellLost | cellRestored
  | cmdNotTaken | cmdTimeout | cmdOverdue | channelRecovered
  | commitBlocked | commit | orderCancelled | orderSplit
  | spliceBlocked | paperMismatch | gradeSpliceEarly | prepareFailed | spliceDone | spliceRefused
  | gradeSpliceFailed | spliceUnplanned
  | lateSwap | swapDone | slitterFault
  | cutOffTol | cutMissed | sheetRange
  | laneMissing | gateWithdrawn | dropFailed | laneFailed | orderDone
  | switchLate | switchForced | curveAbsent
  | modeChanged
  deriving DecidableEq, Repr

/-- One queued event (R173). -/
structure Event where
  kind : EventKind
  subject : Word
  position : Word
  value : Word
  cycle : Half
  deriving DecidableEq, Repr

/-- One MREPLY item waiting in the reply queue (R165, Table 11-1). -/
structure Reply where
  tag : Half
  part : Nat
  value : Word
  words : List Word
  deriving DecidableEq, Repr

/-! ### Field Relay (03) -/

inductive FrState where | normal | lostCell
  deriving DecidableEq, Repr

inductive WatchKind where | report | set
  deriving DecidableEq, Repr

inductive Owner where | pt | wm | sc | sp | sg | ss
  deriving DecidableEq, Repr

/-- A loaded watch table entry with its input slot (Table 3-6). -/
structure WatchEntry where
  key : Key
  kind : WatchKind
  owner : Owner
  limit : Nat
  value : Word
  aux : Word
  lastCycle : Option Half
  lastSample : Word
  fresh : Bool
  missRun : Nat
  deriving DecidableEq, Repr

inductive ChannelMode where | pass | replace | clamp | own
  deriving DecidableEq, Repr

inductive Source where
  | generator (index : Nat)
  | command (index : Nat)
  | gate
  deriving DecidableEq, Repr

/-- A loaded channel table entry (Table 3-3). -/
structure ChannelEntry where
  key : Key
  mode : ChannelMode
  source : Option Source
  band : Option Nat
  deriving DecidableEq, Repr

/-- A station health record (Table 3-7). `heard` says whether an in-time good frame of the station came in
the current cycle, which R55 asks. -/
structure Health where
  threshold : Nat
  bad : Nat
  late : Nat
  missRun : Nat
  suspect : Bool
  heard : Bool
  deriving DecidableEq, Repr

/-- The relay record (Table 3-2), the tables of FR, its clock and timers, and the two ports. -/
structure FieldRelay where
  /-- Levels of ADDR5 to ADDR0 (00, Table 0-7). -/
  addrPins : BitVec 6
  ownAddr : BitVec 6
  /-- The free-running microsecond clock as last read (R45; log 1). -/
  clock : Word
  nominal : Nat
  window : Nat
  state : FrState
  cycle : Half
  begun : Bool
  sample : Word
  windowOpen : Bool
  /-- Length of the window that is open: a written value waits for the next window (R53). -/
  windowLen : Nat
  badOutbound : Nat
  frameFull : Bool
  /-- Start and period of the cell-loss timer (R57). -/
  timerStart : Word
  timerPeriod : Nat
  /-- When the last frame was originated, and how many since CELL_LOST (R58, R59). -/
  lastOriginated : Word
  originated : Nat
  channels : List (Option ChannelEntry)
  watch : List (Option WatchEntry)
  /-- Stations 1 to 62, station k at place k - 1. -/
  health : List Health
  /-- Frames handed to each port, oldest first (R44; log 16). -/
  cellPort : List (List Byte)
  fieldPort : List (List Byte)
  deriving DecidableEq, Repr

/-! ### Path Tracker (01) -/

inductive SectionKind where | web | combined | board
  deriving DecidableEq, Repr

inductive SourceState where | primary | backup | reckoned | held
  deriving DecidableEq, Repr

inductive Role where | primary | backup
  deriving DecidableEq, Repr

/-- What stands at a point, with the fields Table 1-2 gives that kind. -/
inductive PointUse where
  | preheat (generator : Nat)
  | glue (generator : Nat)
  | jointSensor (slot window verified lead trail : Nat)
  | slitterA
  | slitterB
  | knife
  | gate
  | stacker
  deriving DecidableEq, Repr

structure Point where
  use : PointUse
  dist : Int
  deriving DecidableEq, Repr

/-- A loaded section record (Table 1-1). -/
structure SectionCfg where
  kind : SectionKind
  primarySlot : Nat
  backupSlot : Option Nat
  reckon : Bool
  refSlot : Option Nat
  margin : Nat
  exitDist : Nat
  down : Option Nat
  points : List Point
  deriving DecidableEq, Repr

/-- The track state of a section (Table 1-3). -/
structure TrackState where
  count : Word
  source : SourceState
  primaryOffset : Word
  backupOffset : Word
  shadow : Bool
  base : Word
  remainder : Nat
  lastUpdate : Word
  /-- Pairs of track counter and sample time, oldest first. -/
  history : List (Word × Word)
  speed : Nat
  snapshot : Word
  deriving DecidableEq, Repr

structure Section where
  cfg : SectionCfg
  trk : TrackState
  deriving DecidableEq, Repr

/-- A loaded link record (R2). -/
structure Link where
  up : Nat
  down : Nat
  ratio : Nat
  store : Bool
  storeWiden : Nat
  maxCorr : Nat
  aUp : Word
  aDown : Word
  anchored : Bool
  deriving DecidableEq, Repr

structure PathTracker where
  sections : List (Option Section)
  links : List (Option Link)
  deriving DecidableEq, Repr

/-! ### Web Map (02) -/

inductive MarkKind where | splice | boundary | zone
  deriving DecidableEq, Repr

inductive ZoneCause where | defect | lateSwap | jointUnknown | spliceFail | slitterFault
  deriving DecidableEq, Repr

inductive Confirmation where | provisional | confirmed | carried | verified
  deriving DecidableEq, Repr

/-- An order's key (05, Table 5-3). -/
structure OrderKey where
  number : Word
  part : Nat
  deriving DecidableEq, Repr

/-- A mark record in use (Table 2-1). -/
structure Mark where
  slot : Nat
  serial : Nat
  kind : MarkKind
  cause : Option ZoneCause
  sec : Nat
  pos : Word
  lead : Nat
  trail : Nat
  widening : Nat
  conf : Confirmation
  reckoned : Bool
  via : Option Nat
  verifiedAt : Option Nat
  origin : Option Nat
  order : Option OrderKey
  patternChange : Bool
  deriving DecidableEq, Repr

/-- A closed span of positions, front downstream and rear upstream (00, Zones and spans). -/
structure Span where
  front : Word
  rear : Word
  deriving DecidableEq, Repr

/-- The map state of one section (Table 2-4): the ordered list, head most downstream. -/
structure SectionMap where
  marks : List Mark
  lastSeen : Word
  /-- Last detection count of the JOINT_SENSOR point of each index. -/
  baselines : List (Option Half)
  deriving DecidableEq, Repr

/-- The pool lives in the lists: a record on no list is free, so the free count and the boundary count of
Table 2-2 are read from them. `boardChange` is the model's own: the board map change noted and not yet
announced (R28; log 10). -/
structure WebMap where
  maps : List SectionMap
  nextSerial : Nat
  boardChange : Option Span
  deriving DecidableEq, Repr

/-! ### Command Channel Unit (04) -/

inductive CmdClass where | splicer | slitter | knife | stacker
  deriving DecidableEq, Repr

/-- The verbs of Table 4-4 (ABORT is an item CCU sends, not a verb a job issues). -/
inductive Verb where
  | prepare | spliceAt | preset | lift | slitterDrop | cutAt | lane | stackDrop
  deriving DecidableEq, Repr

/-- A section and the role of the counter a station counts by. -/
structure PosRole where
  sec : Nat
  role : Role
  deriving DecidableEq, Repr

/-- A command record (Table 4-2). A pending command still holds its track position; it is translated when it
enters the outstanding list (R62). -/
structure Command where
  tag : Half
  verb : Verb
  args : List Word
  role : Option PosRole
  accepted : Bool
  abort : Bool
  sendTime : Option Word
  acceptTime : Option Word
  overdue : Bool
  deriving DecidableEq, Repr

/-- The last DONE with tag 0 taken (R67). -/
structure Unsolicited where
  value : Word
  words : List Word
  cycle : Half
  deriving DecidableEq, Repr

/-- A command channel record (Table 4-1); class none marks a free record. -/
structure Channel where
  cls : Option CmdClass
  key : Option Key
  depth : Nat
  acceptTimeout : Nat
  completeTimeout : Nat
  outstanding : List Command
  pend : Option Command
  nextTag : Half
  recent : List Half
  lastUnsol : Option Unsolicited
  fault : Bool
  deriving DecidableEq, Repr

inductive Gate where | pass | divert
  deriving DecidableEq, Repr

structure Channels where
  records : List Channel
  gate : Option Gate
  deriving DecidableEq, Repr

/-! ### Order Planner (05) -/

structure GradeGen where
  curve : Option Nat
  target : Int
  trim : Bool
  deriving DecidableEq, Repr

/-- A loaded grade entry (Table 5-1). -/
structure Grade where
  released : Bool
  width : Nat
  papers : List (Option Nat)
  gens : List GradeGen
  deriving DecidableEq, Repr

/-- A loaded pattern entry (Table 5-2). -/
structure Pattern where
  released : Bool
  width : Nat
  outs : Nat
  slits : List Nat
  scores : List Nat
  deriving DecidableEq, Repr

inductive OrderState where | queued | next | committed | cutting | stacking | done | cancelled
  deriving DecidableEq, Repr

/-- A BOUNDARY mark as an order names it (Table 5-3). -/
structure BoundaryRef where
  slot : Nat
  serial : Nat
  pos : Word
  deriving DecidableEq, Repr

/-- The scrap breakdown of an order (09, Table 9-3). -/
structure Breakdown where
  zone : Nat
  tail : Nat
  gap : Nat
  overrun : Nat
  cancelled : Nat
  range : Nat
  gateZone : Nat
  cutFault : Nat
  noLane : Nat
  stackerBehind : Nat
  deriving DecidableEq, Repr

/-- An order record (Table 5-3) with its scrap breakdown. -/
structure Order where
  key : OrderKey
  grade : Nat
  pattern : Nat
  length : Nat
  sheets : Nat
  cuts : Nat
  stackCount : Nat
  lane : Nat
  overrun : Nat
  state : OrderState
  start : Option BoundaryRef
  fin : Option BoundaryRef
  good : Nat
  scrap : Nat
  dropped : Nat
  split : Bool
  cancelled : Bool
  breakdown : Breakdown
  deriving DecidableEq, Repr

/-- A completion record (09, Table 9-4). -/
structure Completion where
  key : OrderKey
  cancelled : Bool
  split : Bool
  boundary : Word
  good : Nat
  sheets : Nat
  scrap : Nat
  breakdown : Breakdown
  dropped : Nat
  short : Nat
  excess : Nat
  cycle : Half
  deriving DecidableEq, Repr

/-- The projected boundary B_proj (R81). -/
inductive Projection where
  | none
  | at (pos : Word)
  | far
  deriving DecidableEq, Repr

/-- The block causes of R84 other than none. -/
inductive BlockCause where | ref | pair | standby | late | map
  deriving DecidableEq, Repr

structure Planner where
  grades : List Grade
  patterns : List Pattern
  queue : List Order
  history : List Completion
  presetDist : Nat
  minCommit : Nat
  gradeMargin : Nat
  bproj : Projection
  block : Option BlockCause
  runningGrade : Option Nat
  runningPattern : Option Nat
  deriving DecidableEq, Repr

/-! ### Splice Controller (06) -/

/-- The configuration of a web in use (Table 6-1). -/
structure WebCfg where
  sec : Nat
  role : Role
  channel : Nat
  diamSlot : Nat
  standbySlot : Nat
  countSlot : Option Nat
  core : Nat
  k0 : Nat
  dMin : Nat
  tol : Nat
  baseReserve : Nat
  spliceLead : Nat
  issueMargin : Nat
  zoneLead : Nat
  zoneTrail : Nat
  widen : Nat
  failZone : Nat
  deriving DecidableEq, Repr

inductive PlanKind where | runout | grade | operator
  deriving DecidableEq, Repr

inductive PlanState where | planned | issued | accepted
  deriving DecidableEq, Repr

/-- A splice plan (Table 6-2); no plan is the plan kind NONE. -/
structure SplicePlan where
  kind : PlanKind
  state : PlanState
  target : Word
  boundary : Option Word
  early : Bool
  paper : Option Nat
  deriving DecidableEq, Repr

/-- The SPLICE mark SC keeps: slot, serial, and whether it was CREATED. -/
structure KeptMark where
  slot : Nat
  serial : Nat
  created : Bool
  deriving DecidableEq, Repr

/-- The state of a web in use (Table 6-2). `countSeen` is the count of the last splice count arrival SC took
(R112; log 29); `lastLength` and `lastReserve` are the readback of R100. -/
structure WebState where
  plan : Option SplicePlan
  spliceTag : Option Half
  prepareTag : Option Half
  settledTag : Option Half
  mark : Option KeptMark
  blocked : Bool
  samples : List (Word × Nat)
  k : Nat
  confidence : Nat
  reelKnown : Bool
  holdCycle : Option Half
  diameter : Nat
  cD : Word
  accounted : Option Half
  countWait : Nat
  countSeen : Option Half
  lastLength : Nat
  lastReserve : Nat
  deriving DecidableEq, Repr

structure Web where
  cfg : WebCfg
  st : WebState
  deriving DecidableEq, Repr

/-! ### Slitter Pair Controller (07) -/

/-- The configuration of a slitter station in use (Table 7-1). -/
structure SlitterCfg where
  channel : Nat
  slot : Nat
  leadTime : Nat
  faultZone : Nat
  deriving DecidableEq, Repr

inductive StationState where | idle | presetting | preset | engaged | fault
  deriving DecidableEq, Repr

/-- The one SP command a station is following (Table 7-2). -/
structure LiveCommand where
  verb : Verb
  tag : Half
  deriving DecidableEq, Repr

/-- A slitter station in use (Tables 7-1 and 7-2), with the lead distance last computed (R127). -/
structure Slitter where
  cfg : SlitterCfg
  state : StationState
  pattern : Option Nat
  atRisk : Bool
  live : Option LiveCommand
  settled : Option Half
  lastLead : Nat
  deriving DecidableEq, Repr

inductive SwapKind where | boundary | recovery
  deriving DecidableEq, Repr

inductive SwapStage where | waiting | moving | late
  deriving DecidableEq, Repr

inductive DropProgress where | notSent | sent | done
  deriving DecidableEq, Repr

inductive LiftProgress where | notSent | sent | done | failed | notNeeded
  deriving DecidableEq, Repr

/-- The swap record (Table 7-3); station 0 is A and 1 is B. -/
structure Swap where
  kind : SwapKind
  boundary : Option BoundaryRef
  pattern : Nat
  newStation : Nat
  oldStation : Option Nat
  stage : SwapStage
  drop : DropProgress
  lift : LiftProgress
  lateStart : Option Word
  deriving DecidableEq, Repr

/-- The cover run (Table 7-4). -/
structure Cover where
  active : Bool
  rear : Word
  start : Word
  deriving DecidableEq, Repr

structure SlitterPair where
  stations : List (Option Slitter)
  lateStep : Nat
  swap : Option Swap
  cover : Cover
  deriving DecidableEq, Repr

/-! ### Cut Planner (08) -/

inductive PieceCause where | zone | tail | gap | overrun | noOrder | cancelled | range
  deriving DecidableEq, Repr

/-- A cut plan entry (Table 8-2); a tag marks it SENT. -/
structure CutEntry where
  target : Word
  good : Bool
  cause : Option PieceCause
  order : Option OrderKey
  sent : Option Half
  deriving DecidableEq, Repr

/-- The divert reasons in the order of R144's table. -/
inductive DivertReason where | scrap | cutFault | zone | noLane | stackerBehind
  deriving DecidableEq, Repr

inductive Route where
  | pass
  | divert (reason : DivertReason)
  deriving DecidableEq, Repr

/-- A piece record (Table 8-7), with the mark R150 puts on a piece tallied at a close. -/
structure Piece where
  lead : Word
  trail : Word
  good : Bool
  cause : Option PieceCause
  order : Option OrderKey
  cutFault : Bool
  route : Option Route
  tallied : Bool
  deriving DecidableEq, Repr

/-- The Cut Planner record (Table 8-1) and state (Table 8-3). -/
structure CutPlanner where
  knife : Option Nat
  role : Role
  minPiece : Nat
  swapGap : Nat
  scrapLen : Nat
  horizon : Nat
  cutTol : Nat
  missDist : Nat
  plan : List CutEntry
  base : Option Word
  lastCut : Option Word
  frontFault : Bool
  rangeOrder : Option OrderKey
  pieces : List Piece
  deriving DecidableEq, Repr

/-! ### Stack and Gate Unit (09) -/

structure Forward where
  lead : Word
  route : Route
  deriving DecidableEq, Repr

structure StackRun where
  order : Option OrderKey
  count : Nat
  deriving DecidableEq, Repr

structure OwedDrop where
  order : OrderKey
  count : Nat
  deriving DecidableEq, Repr

structure StackerCommand where
  tag : Half
  verb : Verb
  order : OrderKey
  arg : Nat
  deriving DecidableEq, Repr

structure LaneSent where
  order : OrderKey
  lane : Nat
  deriving DecidableEq, Repr

/-- The Stack and Gate Unit record (Table 9-1) and state (Table 9-2). -/
structure StackGate where
  channel : Option Nat
  slot : Option Nat
  gateLead : Nat
  laneLead : Nat
  published : Option Gate
  forward : Option Forward
  run : StackRun
  owed : Option OwedDrop
  closeDrop : Option OwedDrop
  cmds : List StackerCommand
  laneSent : Option LaneSent
  laneMissing : Option OrderKey
  unassigned : Nat
  deriving DecidableEq, Repr

/-! ### Setpoint Scheduler (10) -/

/-- A breakpoint of a curve: speed and value (Table 10-1). -/
structure Breakpoint where
  v : Nat
  y : Nat
  deriving DecidableEq, Repr

/-- The configuration of a generator in use (Table 10-2). -/
structure GenCfg where
  sec : Nat
  point : Nat
  tempSlot : Option Nat
  gain : Int
  trimMax : Nat
  slew : Nat
  outMin : Nat
  outMax : Nat
  liftEnable : Bool
  liftValue : Nat
  liftLead : Nat
  switchLead : Nat
  idle : Nat
  deriving DecidableEq, Repr

structure Switch where
  pos : Word
  grade : Nat
  deriving DecidableEq, Repr

/-- The state of a generator in use (Table 10-3). -/
structure GenState where
  inForce : Option Nat
  pending : List Switch
  lastOutput : Option Nat
  inLift : Bool
  lastTrim : Int
  curveAbsent : Bool
  lastBase : Nat
  lastSpeed : Nat
  deriving DecidableEq, Repr

structure Generator where
  cfg : GenCfg
  st : GenState
  deriving DecidableEq, Repr

structure Setpoints where
  curves : List (List Breakpoint)
  generators : List (Option Generator)
  deriving DecidableEq, Repr

/-! ### Management Unit (11) -/

inductive Mode where | setup | run
  deriving DecidableEq, Repr

structure Management where
  mode : Mode
  events : List Event
  replies : List Reply
  eventsDropped : Bool
  replyLost : Bool
  deriving DecidableEq, Repr

/-! ### The whole state -/

/-- The W640: the queue of waiting commands (the model's own) and the blocks. -/
structure State where
  pending : List Instr
  fr : FieldRelay
  pt : PathTracker
  wm : WebMap
  ccu : Channels
  op : Planner
  sc : List (Option Web)
  sp : SlitterPair
  cp : CutPlanner
  sg : StackGate
  ss : Setpoints
  mu : Management
  deriving DecidableEq, Repr

/-- Reasons a step stops in a fault: none. The spec gives every command an effect on the state (bad frames,
refused requests and station faults are effects), so no meaning raises a fault; safe. -/
inductive Fault
  deriving DecidableEq, Repr

/-- Reasons a step is refused. -/
inductive Refusal where
  /-- Raised by `exec` alone, for a command that has no meaning yet; safe. No arm raises it. -/
  | notModelled (mnemonic : String)
  deriving DecidableEq, Repr

/-! ### Replacing one block -/

def State.withPending (s : State) (x : List Instr) : State := { s with pending := x }
def State.withFr (s : State) (x : FieldRelay) : State := { s with fr := x }
def State.withPt (s : State) (x : PathTracker) : State := { s with pt := x }
def State.withWm (s : State) (x : WebMap) : State := { s with wm := x }
def State.withCcu (s : State) (x : Channels) : State := { s with ccu := x }
def State.withOp (s : State) (x : Planner) : State := { s with op := x }
def State.withSc (s : State) (x : List (Option Web)) : State := { s with sc := x }
def State.withSp (s : State) (x : SlitterPair) : State := { s with sp := x }
def State.withCp (s : State) (x : CutPlanner) : State := { s with cp := x }
def State.withSg (s : State) (x : StackGate) : State := { s with sg := x }
def State.withSs (s : State) (x : Setpoints) : State := { s with ss := x }
def State.withMu (s : State) (x : Management) : State := { s with mu := x }

/-! ### Reset (R60, R19, R42, R74, R94, R113, R126, R142, R151, R163, R172) -/

/-- Table 3-7 after power-on reset. -/
def Health.initial : Health :=
  { threshold := 0, bad := 0, late := 0, missRun := 0, suspect := false, heard := false }

/-- The relay record after reset with the given address pins (Table 3-2). -/
def FieldRelay.initial (pins : BitVec 6) : FieldRelay :=
  { addrPins := pins, ownAddr := pins, clock := 0, nominal := 1000, window := 600, state := .normal
    cycle := 0, begun := false, sample := 0, windowOpen := false, windowLen := 600, badOutbound := 0
    frameFull := false, timerStart := 0, timerPeriod := 1000, lastOriginated := 0, originated := 0
    channels := List.replicate 128 none, watch := List.replicate 96 none
    health := List.replicate 62 Health.initial, cellPort := [], fieldPort := [] }

/-- R19: every section and link record is free. -/
def PathTracker.initial : PathTracker :=
  { sections := List.replicate 12 none, links := List.replicate 11 none }

/-- Table 2-4 for a section newly loaded with the given track counter. -/
def SectionMap.initial (count : Word) : SectionMap :=
  { marks := [], lastSeen := count, baselines := List.replicate 8 none }

/-- R42: every record is free, the next serial is 1. -/
def WebMap.initial : WebMap :=
  { maps := List.replicate 12 (SectionMap.initial 0), nextSerial := 1, boardChange := none }

/-- Table 4-1 after power-on reset. -/
def Channel.initial : Channel :=
  { cls := none, key := none, depth := 1, acceptTimeout := 50, completeTimeout := 5000, outstanding := []
    pend := none, nextTag := 1, recent := [], lastUnsol := none, fault := false }

/-- R74. -/
def Channels.initial : Channels :=
  { records := List.replicate 24 Channel.initial, gate := none }

/-- R94, Table 5-4. -/
def Planner.initial : Planner :=
  { grades := [], patterns := [], queue := [], history := [], presetDist := 60000, minCommit := 50000
    gradeMargin := 30000, bproj := .none, block := none, runningGrade := none, runningPattern := none }

/-- Table 6-2 after a load or a reset, for a web whose K0 is `k0`. -/
def WebState.initial (k0 : Nat) : WebState :=
  { plan := none, spliceTag := none, prepareTag := none, settledTag := none, mark := none, blocked := false
    samples := [], k := k0, confidence := 0, reelKnown := false, holdCycle := none, diameter := 0, cD := 0
    accounted := none, countWait := 0, countSeen := none, lastLength := 0, lastReserve := 0 }

/-- Table 7-4 after reset. -/
def Cover.initial : Cover := { active := false, rear := 0, start := 0 }

/-- R126. -/
def SlitterPair.initial : SlitterPair :=
  { stations := [none, none], lateStep := 20000, swap := none, cover := Cover.initial }

/-- R142, Tables 8-1 and 8-3. -/
def CutPlanner.initial : CutPlanner :=
  { knife := none, role := .primary, minPiece := 2500, swapGap := 3000, scrapLen := 20000, horizon := 300000
    cutTol := 50, missDist := 2000, plan := [], base := none, lastCut := none, frontFault := true
    rangeOrder := none, pieces := [] }

/-- R151, Tables 9-1 and 9-2. -/
def StackGate.initial : StackGate :=
  { channel := none, slot := none, gateLead := 5000, laneLead := 40000, published := none, forward := none
    run := { order := none, count := 0 }, owed := none, closeDrop := none, cmds := [], laneSent := none
    laneMissing := none, unassigned := 0 }

/-- Table 10-3 after load, power-on reset or RESET_TRACKING. -/
def GenState.initial : GenState :=
  { inForce := none, pending := [], lastOutput := none, inLift := false, lastTrim := 0, curveAbsent := false
    lastBase := 0, lastSpeed := 0 }

/-- R163. -/
def Setpoints.initial : Setpoints :=
  { curves := List.replicate 64 [], generators := List.replicate 24 none }

/-- R172. -/
def Management.initial : Management :=
  { mode := .setup, events := [], replies := [], eventsDropped := false, replyLost := false }

/-- The state a reset leaves when the pins read `pins` and the given commands wait. -/
def State.afterReset (pins : BitVec 6) (pending : List Instr) : State :=
  { pending := pending, fr := FieldRelay.initial pins, pt := PathTracker.initial, wm := WebMap.initial
    ccu := Channels.initial, op := Planner.initial, sc := List.replicate 6 none, sp := SlitterPair.initial
    cp := CutPlanner.initial, sg := StackGate.initial, ss := Setpoints.initial, mu := Management.initial }

/-- The machine right after reset: the pins at the level of their internal pull-downs (00, Table 0-7; log 3),
no command waiting. -/
def State.reset : State := State.afterReset 0 []

end Sys2Proof.Machine
end

