-- ==== Sys2Proof/Machine/Ops.lean ====
section
/-! DEFINITION. Machine/Ops.lean: the operations every block shares: signed distance and rounding
(00, Conventions), access to the tables, raising an event (R173), the link arithmetic of the Path Tracker
(R13 to R16), and where material stands. -/

namespace Sys2Proof.Machine

/-! ### Positions and arithmetic (00, Conventions) -/

/-- The signed distance from `a` to `b`: the 32-bit difference read as a signed number. -/
def sdist (a b : Word) : Int := (b - a).toInt

/-- The position `d` ahead of `p` (behind it when negative), modulo 2^32. -/
def shiftBy (p : Word) (d : Int) : Word := p + BitVec.ofInt 32 d

/-- Round `n / d` to the nearest integer, ties away from zero. -/
def roundDiv (n : Int) (d : Nat) : Int :=
  if n < 0 then -(((2 * n.natAbs + d) / (2 * d) : Nat) : Int) else (((2 * n.natAbs + d) / (2 * d) : Nat) : Int)

/-- Clamp `x` to `lo` to `hi`. -/
def clampInt (lo hi x : Int) : Int := if x < lo then lo else if hi < x then hi else x

/-- A number as a 32-bit word. One that does not fit has no stated word: a free value (log 13). -/
def wordOf (n : Int) : Word :=
  if -2147483648 ≤ n ∧ n < 4294967296 then BitVec.ofInt 32 n else Config.wordBeyond n

/-- A count or index as a word. -/
def natWord (n : Nat) : Word := wordOf n

/-- A length as a mark holds it. One beyond 24 bits has no stated value: a free value (log 12). -/
def fitLength (n : Nat) : Nat := if n < Config.lengthLimit then n else (Config.lengthBeyond n).toNat

/-- A tally as an order holds it. One beyond 1,000,000 has no stated value: a free value (log 14). -/
def fitTally (n : Nat) : Nat := if n ≤ Config.tallyLimit then n else (Config.tallyBeyond n).val

/-- A figure of R92 as the sheets required hold it. One outside 0 to 1,000,000 has no stated value: a free value
(log 67). -/
def fitSheets (n : Int) : Nat :=
  if 0 ≤ n ∧ n ≤ Config.tallyLimit then n.toNat else (Config.sheetsBeyond n).val

/-- Add 1 to a count that saturates at `limit`. -/
def bump (limit n : Nat) : Nat := if n < limit then n + 1 else limit

/-- Division rounded up. -/
def ceilDiv (n d : Nat) : Nat := (n + d - 1) / d

/-! ### Table access -/

/-- The loaded record at an index. -/
def lookup {α : Type} (l : List (Option α)) (i : Nat) : Option α := (l[i]?).join

/-- Change the loaded record at an index; nothing changes when none is loaded there. -/
def adjust {α : Type} (l : List (Option α)) (i : Nat) (f : α → α) : List (Option α) :=
  match lookup l i with
  | some a => l.set i (some (f a))
  | none => l

/-- The first index below `n` that meets a test. -/
def firstIndex (n : Nat) (p : Nat → Bool) : Option Nat := (List.range n).find? p

def State.sectionAt (s : State) (i : Nat) : Option Section := lookup s.pt.sections i
def State.linkAt (s : State) (i : Nat) : Option Link := lookup s.pt.links i
def State.slotAt (s : State) (i : Nat) : Option WatchEntry := lookup s.fr.watch i
def State.entryAt (s : State) (i : Nat) : Option ChannelEntry := lookup s.fr.channels i
def State.channelAt (s : State) (i : Nat) : Option Channel := s.ccu.records[i]?
def State.webAt (s : State) (i : Nat) : Option Web := lookup s.sc i
def State.stationAt (s : State) (i : Nat) : Option Slitter := lookup s.sp.stations i
def State.generatorAt (s : State) (i : Nat) : Option Generator := lookup s.ss.generators i
def State.gradeAt (s : State) (i : Nat) : Option Grade := s.op.grades[i]?
def State.patternAt (s : State) (i : Nat) : Option Pattern := s.op.patterns[i]?
def State.mapAt (s : State) (i : Nat) : SectionMap := (s.wm.maps[i]?).getD (SectionMap.initial 0)
def State.healthAt (s : State) (station : Nat) : Option Health := s.fr.health[station - 1]?

def State.setSection (s : State) (i : Nat) (x : Option Section) : State :=
  s.withPt { s.pt with sections := s.pt.sections.set i x }
def State.adjustTrack (s : State) (i : Nat) (f : TrackState → TrackState) : State :=
  s.withPt { s.pt with sections := adjust s.pt.sections i (fun c => { c with trk := f c.trk }) }
def State.setLink (s : State) (i : Nat) (x : Option Link) : State :=
  s.withPt { s.pt with links := s.pt.links.set i x }
def State.adjustLink (s : State) (i : Nat) (f : Link → Link) : State :=
  s.withPt { s.pt with links := adjust s.pt.links i f }
def State.adjustSlot (s : State) (i : Nat) (f : WatchEntry → WatchEntry) : State :=
  s.withFr { s.fr with watch := adjust s.fr.watch i f }
def State.adjustHealth (s : State) (station : Nat) (f : Health → Health) : State :=
  match s.healthAt station with
  | some h => s.withFr { s.fr with health := s.fr.health.set (station - 1) (f h) }
  | none => s
def State.adjustMap (s : State) (i : Nat) (f : SectionMap → SectionMap) : State :=
  s.withWm { s.wm with maps := s.wm.maps.set i (f (s.mapAt i)) }
def State.adjustChannel (s : State) (i : Nat) (f : Channel → Channel) : State :=
  match s.channelAt i with
  | some c => s.withCcu { s.ccu with records := s.ccu.records.set i (f c) }
  | none => s
def State.adjustWeb (s : State) (i : Nat) (f : WebState → WebState) : State :=
  s.withSc (adjust s.sc i (fun w => { w with st := f w.st }))
def State.adjustStation (s : State) (i : Nat) (f : Slitter → Slitter) : State :=
  s.withSp { s.sp with stations := adjust s.sp.stations i f }
def State.adjustGen (s : State) (i : Nat) (f : GenState → GenState) : State :=
  s.withSs { s.ss with generators := adjust s.ss.generators i (fun g => { g with st := f g.st }) }

/-- The part is in RUN. -/
def State.running (s : State) : Bool := s.mu.mode == .run

/-- R43: an address from 1 to 62 is a working address. -/
def State.workingAddress (s : State) : Bool := 1 ≤ s.fr.ownAddr.toNat && s.fr.ownAddr.toNat ≤ 62

/-- The own address as a station byte. -/
def State.ownByte (s : State) : Byte := BitVec.ofNat 8 s.fr.ownAddr.toNat

/-! ### Codes of names (R173, Tables 3-1, 4-4, 11-6, 11-7) -/

/-- Table 3-1. -/
def ItemKind.code : ItemKind → Byte
  | .set => 1 | .cmd => 2 | .accept => 3 | .done => 4 | .refuse => 5
  | .report => 6 | .mreq => 7 | .mreply => 8 | .event => 9 | .status => 10

/-- The kind a code names, none for a code that is not in Table 3-1. -/
def ItemKind.ofCode (b : Byte) : Option ItemKind :=
  match b.toNat with
  | 1 => some .set | 2 => some .cmd | 3 => some .accept | 4 => some .done | 5 => some .refuse
  | 6 => some .report | 7 => some .mreq | 8 => some .mreply | 9 => some .event | 10 => some .status
  | _ => none

/-- Table 11-6. -/
def EventKind.code : EventKind → Nat
  | .sourceSwitch => 1 | .linkRange => 2
  | .mapFull => 3 | .jointMatched => 4 | .correctionClamped => 5 | .jointUnexpected => 6 | .jointMissed => 7
  | .stationSuspect => 8 | .stationRestored => 9 | .cellLost => 10 | .cellRestored => 11
  | .cmdNotTaken => 12 | .cmdTimeout => 13 | .cmdOverdue => 14 | .channelRecovered => 15
  | .commitBlocked => 16 | .commit => 17 | .orderCancelled => 18 | .orderSplit => 19
  | .spliceBlocked => 20 | .paperMismatch => 21 | .gradeSpliceEarly => 22 | .prepareFailed => 23
  | .spliceDone => 24 | .spliceRefused => 25 | .gradeSpliceFailed => 26 | .spliceUnplanned => 27
  | .lateSwap => 28 | .swapDone => 29 | .slitterFault => 30
  | .cutOffTol => 31 | .cutMissed => 32 | .sheetRange => 33
  | .laneMissing => 34 | .gateWithdrawn => 35 | .dropFailed => 36 | .laneFailed => 37 | .orderDone => 38
  | .switchLate => 39 | .switchForced => 40 | .curveAbsent => 41
  | .modeChanged => 42

/-- Table 4-4, counted per class: the code a CMD item carries (R72). -/
def Verb.code : Verb → Nat
  | .prepare => 1 | .spliceAt => 2 | .preset => 1 | .lift => 2 | .slitterDrop => 3
  | .cutAt => 1 | .lane => 1 | .stackDrop => 2

/-- A verb's place among the verbs of its class in Table 4-4, counting from 0: how R166 and R173 send the name of
a verb, which has no code in Table 11-7 (log 70). -/
def Verb.place : Verb → Nat
  | .prepare => 0 | .spliceAt => 1 | .preset => 0 | .lift => 1 | .slitterDrop => 2
  | .cutAt => 0 | .lane => 0 | .stackDrop => 1

/-- The class a verb belongs to (Table 4-4). -/
def Verb.cls : Verb → CmdClass
  | .prepare | .spliceAt => .splicer
  | .preset | .lift | .slitterDrop => .slitter
  | .cutAt => .knife
  | .lane | .stackDrop => .stacker

/-- Table 11-7, words 11 to 22, for a loaded section. -/
def SourceState.code : SourceState → Nat
  | .primary => 1 | .backup => 2 | .reckoned => 3 | .held => 4

/-- The place in Table 2-1. -/
def MarkKind.code : MarkKind → Nat
  | .splice => 0 | .boundary => 1 | .zone => 2

/-- Table 11-7, word 6. -/
def BlockCause.code : BlockCause → Nat
  | .ref => 1 | .pair => 2 | .standby => 3 | .late => 4 | .map => 5

/-- The place in Table 6-2 (NONE is 0). -/
def PlanKind.code : PlanKind → Nat
  | .runout => 1 | .grade => 2 | .operator => 3

/-- The order of R144's table (R173). -/
def DivertReason.code : DivertReason → Nat
  | .scrap => 0 | .cutFault => 1 | .zone => 2 | .noLane => 3 | .stackerBehind => 4

/-- The place in Table 7-2. -/
def StationState.code : StationState → Nat
  | .idle => 0 | .presetting => 1 | .preset => 2 | .engaged => 3 | .fault => 4

/-- The place in Table 5-3. -/
def OrderState.code : OrderState → Nat
  | .queued => 0 | .next => 1 | .committed => 2 | .cutting => 3 | .stacking => 4 | .done => 5 | .cancelled => 6

/-! ### Events (R173) -/

/-- Raise an event: appended at the tail, or discarded with EVENTS_DROPPED set when 32 are held. -/
def raise (kind : EventKind) (subject position value : Word) (s : State) : State :=
  if s.mu.events.length < Config.eventCapacity then
    s.withMu { s.mu with events := s.mu.events ++ [⟨kind, subject, position, value, s.fr.cycle⟩] }
  else s.withMu { s.mu with eventsDropped := true }

/-- Raise an event whose value word no rule gives (log 54). -/
def raiseNoValue (kind : EventKind) (subject position : Word) (s : State) : State :=
  raise kind subject position (Config.unstatedWord kind.code 2 subject s.fr.cycle) s

/-- Raise an event whose position word no rule gives (log 54). -/
def raiseNoPosition (kind : EventKind) (subject value : Word) (s : State) : State :=
  raise kind subject (Config.unstatedWord kind.code 1 subject s.fr.cycle) value s

/-- Raise an event of which the rules give the subject alone (log 54). -/
def raiseSubject (kind : EventKind) (subject : Word) (s : State) : State :=
  raiseNoValue kind subject (Config.unstatedWord kind.code 1 subject s.fr.cycle) s

/-! ### Link arithmetic (R13 to R16) -/

/-- The limit of a carry, 2^30. -/
def rangeLimit : Int := 1073741824

/-- R14: carry a position downstream over a link; the flag is the range indication. -/
def carryPos (l : Link) (p : Word) : Word × Bool :=
  let d := sdist l.aUp p
  let d' := clampInt (-rangeLimit) rangeLimit d
  (shiftBy l.aDown (roundDiv (d' * 4096) l.ratio), d' != d)

/-- R15: carry a position upstream over a link. -/
def inversePos (l : Link) (q : Word) : Word × Bool :=
  let d := sdist l.aDown q
  let d' := clampInt (-rangeLimit) rangeLimit d
  (shiftBy l.aUp (roundDiv (d' * l.ratio) 4096), d' != d)

/-- R16: carry a length downstream. -/
def carryLength (l : Link) (n : Nat) : Nat := (roundDiv ((n : Int) * 4096) l.ratio).toNat

/-- R16: carry a length back upstream. No other rule of the spec carries a length that way. -/
def carryLengthUp (l : Link) (n : Nat) : Nat := (roundDiv ((n : Int) * l.ratio) 4096).toNat

/-- R14: carry with LINK_RANGE raised; none over a free or UNANCHORED link. -/
def carryOver (link : Nat) (p : Word) (s : State) : State × Option (Word × Bool) :=
  match s.linkAt link with
  | none => (s, none)
  | some l =>
    if l.anchored then
      let r := carryPos l p
      (if r.2 then raiseNoValue .linkRange (natWord link) p s else s, some r)
    else (s, none)

/-- R15: inverse carry with LINK_RANGE raised; none over a free or UNANCHORED link. -/
def inverseOver (link : Nat) (q : Word) (s : State) : State × Option Word :=
  match s.linkAt link with
  | none => (s, none)
  | some l =>
    if l.anchored then
      let r := inversePos l q
      (if r.2 then raiseNoValue .linkRange (natWord link) q s else s, some r.1)
    else (s, none)

/-- The links from a section down to another, in order; none when the path does not lead there. The fuel
bounds the sections of a path. -/
def pathLinks (s : State) : Nat → Nat → Nat → Option (List Nat)
  | 0, _, _ => none
  | fuel + 1, sec, target =>
    if sec = target then some []
    else
      match s.sectionAt sec with
      | none => none
      | some c =>
        match c.cfg.down with
        | none => none
        | some l =>
          match s.linkAt l with
          | none => none
          | some k => (pathLinks s fuel k.down target).map (l :: ·)

/-- The path between two sections: at most 12 sections stand on it. -/
def State.path (s : State) (sec target : Nat) : Option (List Nat) := pathLinks s 13 sec target

/-- Inverse carry over a chain of links, the most downstream first (R15). -/
def inverseChain (links : List Nat) (q : Word) (s : State) : State × Option Word :=
  links.foldl
    (fun acc l =>
      match acc.2 with
      | none => acc
      | some p => inverseOver l p acc.1)
    (s, some q)

/-- A length carried down a chain of links (R16). -/
def lengthDown (s : State) (links : List Nat) (n : Nat) : Nat :=
  links.foldl
    (fun acc l =>
      match s.linkAt l with
      | some k => carryLength k acc
      | none => acc)
    n

/-- The offset a section holds for a counter role (R13). A free section holds none: a free value (log 65). -/
def offsetOf (s : State) (r : PosRole) : Word :=
  match s.sectionAt r.sec with
  | none => Config.absentOffset r.sec
  | some c =>
    match r.role with
    | .primary => c.trk.primaryOffset
    | .backup => c.trk.backupOffset

/-- R13: a track position in a station's raw coordinate. -/
def toRaw (s : State) (r : PosRole) (p : Word) : Word := p - offsetOf s r

/-- R13: a raw report as a track position. -/
def toTrack (s : State) (r : PosRole) (a : Word) : Word := a + offsetOf s r

/-! ### Sections, points and material -/

/-- A section's track counter. -/
def State.count (s : State) (i : Nat) : Word :=
  match s.sectionAt i with
  | some c => c.trk.count
  | none => 0

/-- A section whose source state is RECKONED or HELD (R11, R27). -/
def State.uncertain (s : State) (i : Nat) : Bool :=
  match s.sectionAt i with
  | some c => c.trk.source == .reckoned || c.trk.source == .held
  | none => false

/-- A section whose source state is HELD. -/
def State.held (s : State) (i : Nat) : Bool :=
  match s.sectionAt i with
  | some c => c.trk.source == .held
  | none => false

/-- A section's reckon_margin. -/
def State.margin (s : State) (i : Nat) : Nat :=
  match s.sectionAt i with
  | some c => c.cfg.margin
  | none => 0

/-- The index of the BOARD section: the first loaded one of that kind (in RUN there is exactly one, R169). -/
def State.boardIndex (s : State) : Option Nat :=
  firstIndex 12 (fun i =>
    match s.sectionAt i with
    | some c => c.cfg.kind == .board
    | none => false)

def State.isBoard (s : State) (i : Nat) : Bool := s.boardIndex == some i

def State.board (s : State) : Option Section := s.boardIndex.bind s.sectionAt

/-- The BOARD track counter. -/
def State.boardCount (s : State) : Option Word := s.board.map (·.trk.count)

/-- The distance of the BOARD point of a kind. -/
def State.boardPoint (s : State) (u : PointUse) : Option Int :=
  s.board.bind (fun c => (c.cfg.points.find? (fun p => p.use == u)).map (·.dist))

/-- The material now at the BOARD point of a kind: the track counter less the point's distance. -/
def State.materialAt (s : State) (u : PointUse) : Option Word :=
  match s.boardCount, s.boardPoint u with
  | some t, some x => some (shiftBy t (-x))
  | _, _ => none

/-- The marks on the BOARD list. -/
def State.boardMarks (s : State) : List Mark :=
  match s.boardIndex with
  | some b => (s.mapAt b).marks
  | none => []

/-- A slot is FRESH. -/
def State.fresh (s : State) (slot : Nat) : Bool :=
  match s.slotAt slot with
  | some w => w.fresh
  | none => false

/-- A value arrived in the slot in the current cycle. -/
def State.arrivedNow (s : State) (slot : Nat) : Bool :=
  match s.slotAt slot with
  | some w => w.lastCycle == some s.fr.cycle
  | none => false

/-- A slot's held value, and 0 for a free slot (log 101 says where a free slot's value is asked for). -/
def State.slotValue (s : State) (slot : Nat) : Word :=
  match s.slotAt slot with
  | some w => w.value
  | none => 0

/-- A slot's held auxiliary value. -/
def State.slotAux (s : State) (slot : Nat) : Word :=
  match s.slotAt slot with
  | some w => w.aux
  | none => 0

/-! ### Orders -/

/-- The order of a key, when it is in the queue. -/
def State.orderAt (s : State) (k : OrderKey) : Option Order := s.op.queue.find? (fun o => o.key == k)

/-- Change the order of a key. -/
def State.adjustOrder (s : State) (k : OrderKey) (f : Order → Order) : State :=
  s.withOp { s.op with queue := s.op.queue.map (fun o => if o.key == k then f o else o) }

/-- The open order: committed, without an end boundary (R78). -/
def State.openOrder (s : State) : Option Order :=
  s.op.queue.find? (fun o => o.start.isSome && o.fin.isNone)

/-- The first order without a start boundary, which R78 makes NEXT. -/
def State.nextOrder (s : State) : Option Order := s.op.queue.find? (fun o => o.start.isNone)

end Sys2Proof.Machine
end

