-- ==== Sys2Proof/Machine/Operands.lean ====
section
/-! DEFINITION. Machine/Operands.lean: how the words of a request and of a reply carry fields (R166): a
number in one word, signed where its range has negative values; a name as its place in its values column;
an absent field or none as 4,294,967,295. Log 20 lists the codings the spec leaves to prose. -/

namespace Sys2Proof.Machine

/-- R166: an absent field, or none. -/
def absentWord : Word := 4294967295#32

/-! ### Writing fields -/

/-- A field that may be absent. -/
def optWord (n : Option Nat) : Word :=
  match n with
  | some k => natWord k
  | none => absentWord

/-- A tag, cycle number or count that may be absent. -/
def optHalf (h : Option Half) : Word := optWord (h.map BitVec.toNat)

/-- A position that may be absent. -/
def optPos (p : Option Word) : Word := p.getD absentWord

/-- The values column "yes, no": yes is place 0 and no is place 1. -/
def yesNo (b : Bool) : Word := if b then 0 else 1

/-- Table 1-1's role column and Table 6-1's: PRIMARY 0, BACKUP 1. -/
def Role.word : Role → Word
  | .primary => 0
  | .backup => 1

def byteWord (b : Byte) : Word := natWord b.toNat
def halfWord (h : Half) : Word := natWord h.toNat

/-- The two words of an order key that may be absent. -/
def optOrder (k : Option OrderKey) : List Word :=
  match k with
  | some k => [k.number, natWord k.part]
  | none => [absentWord, absentWord]

/-- The three words of a boundary that may be absent (Table 5-3), each then absent (log 93). -/
def optBoundary (b : Option BoundaryRef) : List Word :=
  match b with
  | some b => [natWord b.slot, natWord b.serial, b.pos]
  | none => [absentWord, absentWord, absentWord]

/-- A list: its count followed by its members. -/
def listWords (ws : List Word) : List Word := natWord ws.length :: ws

/-! ### Reading fields -/

/-- A number within a range. -/
def readNat (lo hi : Nat) (w : Word) : Option Nat :=
  if lo ≤ w.toNat ∧ w.toNat ≤ hi then some w.toNat else none

/-- A signed number within a range. -/
def readInt (lo hi : Int) (w : Word) : Option Int :=
  if lo ≤ w.toInt ∧ w.toInt ≤ hi then some w.toInt else none

/-- A number within a range, or absent. -/
def readOpt (lo hi : Nat) (w : Word) : Option (Option Nat) :=
  if w = absentWord then some none else (readNat lo hi w).map some

/-- The values column "yes, no". -/
def readYesNo (w : Word) : Option Bool :=
  match w.toNat with
  | 0 => some true
  | 1 => some false
  | _ => none

/-- PRIMARY 0, BACKUP 1. -/
def readRole (w : Word) : Option Role :=
  match w.toNat with
  | 0 => some .primary
  | 1 => some .backup
  | _ => none

/-- The two words of a key: station 1 to 62, channel 0 to 255. -/
def readKey (st ch : Word) : Option Key :=
  match readNat 1 62 st, readNat 0 255 ch with
  | some a, some b => some ⟨BitVec.ofNat 8 a, BitVec.ofNat 8 b⟩
  | _, _ => none

/-- Read a list of numbers, each within a range. -/
def readAll (lo hi : Nat) : List Word → Option (List Nat)
  | [] => some []
  | w :: ws =>
    match readNat lo hi w, readAll lo hi ws with
    | some n, some ns => some (n :: ns)
    | _, _ => none

/-- A list of numbers strictly ascends. -/
def ascending : List Nat → Bool
  | a :: b :: rest => a < b && ascending (b :: rest)
  | _ => true

/-- The kinds of a section record: NONE 0, WEB 1, COMBINED 2, BOARD 3 (Table 1-1). -/
def readSectionKind (w : Word) : Option (Option SectionKind) :=
  match w.toNat with
  | 0 => some none
  | 1 => some (some .web)
  | 2 => some (some .combined)
  | 3 => some (some .board)
  | _ => none

def SectionKind.word : SectionKind → Word
  | .web => 1
  | .combined => 2
  | .board => 3

/-- The place of a point kind in Table 1-2. -/
def PointUse.word : PointUse → Word
  | .preheat _ => 0
  | .glue _ => 1
  | .jointSensor .. => 2
  | .slitterA => 3
  | .slitterB => 4
  | .knife => 5
  | .gate => 6
  | .stacker => 7

/-- One point of a section's list: kind, distance, then the fields Table 1-2 gives that kind. A field the kind does not
have is left out, not sent as 4,294,967,295 (R1, R166; log 110, DESIGN CHOICE). -/
def readPoint : List Word → Option (Point × List Word)
  | k :: d :: rest =>
    match readInt (-1000000) 10000000 d with
    | none => none
    | some x =>
      match k.toNat, rest with
      | 0, g :: more => (readNat 0 23 g).map (fun g => (⟨.preheat g, x⟩, more))
      | 1, g :: more => (readNat 0 23 g).map (fun g => (⟨.glue g, x⟩, more))
      | 2, sl :: w :: v :: l :: t :: more =>
        match readNat 0 95 sl, readNat 0 100000 w, readNat 0 10 v, readNat 0 1000000 l, readNat 0 1000000 t with
        | some sl, some w, some v, some l, some t => some (⟨.jointSensor sl w v l t, x⟩, more)
        | _, _, _, _, _ => none
      | 3, more => some (⟨.slitterA, x⟩, more)
      | 4, more => some (⟨.slitterB, x⟩, more)
      | 5, more => some (⟨.knife, x⟩, more)
      | 6, more => some (⟨.gate, x⟩, more)
      | 7, more => some (⟨.stacker, x⟩, more)
      | _, _ => none
  | _ => none

/-- A point list of the given length that takes all the words. -/
def readPoints : Nat → List Word → Option (List Point)
  | 0, [] => some []
  | 0, _ :: _ => none
  | n + 1, ws =>
    match readPoint ws with
    | some (p, rest) => (readPoints n rest).map (p :: ·)
    | none => none

/-- The words of one point: 2, 3 or 7, without those of a field its kind does not have (log 110, DESIGN CHOICE). -/
def Point.words (p : Point) : List Word :=
  [p.use.word, wordOf p.dist] ++
    match p.use with
    | .preheat g | .glue g => [natWord g]
    | .jointSensor sl w v l t => [natWord sl, natWord w, natWord v, natWord l, natWord t]
    | _ => []

/-- Breakpoint pairs: speed 0 to 6,000 and value 0 to 65,535 (Table 10-1). -/
def readBreakpoints : List Word → Option (List Breakpoint)
  | [] => some []
  | [_] => none
  | v :: y :: rest =>
    match readNat 0 6000 v, readNat 0 65535 y, readBreakpoints rest with
    | some v, some y, some bs => some (⟨v, y⟩ :: bs)
    | _, _, _ => none

end Sys2Proof.Machine
end

