-- ==== Sys2Proof/Machine/Frame.lean ====
section
/-! DEFINITION. Machine/Frame.lean: the layout of frames and items as bytes, most significant byte first
(03, Table 3-1), the frame check, and which frames are good (R44). -/

namespace Sys2Proof.Machine

/-! ### Bytes of a frame -/

/-- The two bytes of a 16-bit field. -/
def halfBytes (h : Half) : List Byte := [(h >>> 8).truncate 8, h.truncate 8]

/-- The four bytes of a 32-bit field. -/
def wordBytes (w : Word) : List Byte :=
  [(w >>> 24).truncate 8, (w >>> 16).truncate 8, (w >>> 8).truncate 8, w.truncate 8]

/-- Two bytes read as a 16-bit field. -/
def joinHalf (a b : Byte) : Half := BitVec.ofNat 16 (a.toNat * 256 + b.toNat)

/-- Four bytes read as a 32-bit field. -/
def joinWord (a b c d : Byte) : Word :=
  BitVec.ofNat 32 (((a.toNat * 256 + b.toNat) * 256 + c.toNat) * 256 + d.toNat)

/-- One item as it stands in a frame. -/
def Item.bytes (i : Item) : List Byte :=
  [i.station, i.channel, i.kind, BitVec.ofNat 8 i.words.length] ++ halfBytes i.tag ++ wordBytes i.value
    ++ i.words.flatMap wordBytes

/-- The item area of a frame. -/
def itemArea (items : List Item) : List Byte := items.flatMap Item.bytes

/-! ### The frame check (R44) -/

/-- One shift of the check register: generator polynomial 0x04C11DB7. -/
def crcShift (r : Word) : Word := if r.msb then (r <<< 1) ^^^ 0x04C11DB7#32 else r <<< 1

/-- One byte, most significant bit first. -/
def crcByte (r : Word) (b : Byte) : Word :=
  crcShift (crcShift (crcShift (crcShift (crcShift (crcShift (crcShift (crcShift
    (r ^^^ ((b.zeroExtend 32) <<< 24)))))))))

/-- The check over header and items: the register starts at all ones and is complemented at the end. -/
def frameCheck (bytes : List Byte) : Word := ~~~ (bytes.foldl crcByte 0xFFFFFFFF#32)

/-! ### Composing a frame -/

/-- Header and items, before the check. -/
def Frame.body (f : Frame) : List Byte :=
  let area := itemArea f.items
  [f.kind, f.flags, f.source, BitVec.ofNat 8 f.items.length] ++ halfBytes f.cycle
    ++ halfBytes (BitVec.ofNat 16 area.length) ++ wordBytes f.sample ++ area

/-- A frame as sent: item count and item area length set to its contents, and a new frame check (R44). -/
def Frame.compose (f : Frame) : List Byte := f.body ++ wordBytes (frameCheck f.body)

/-! ### Reading a frame -/

/-- Read `n` words. -/
def readWords : Nat → List Byte → Option (List Word × List Byte)
  | 0, rest => some ([], rest)
  | n + 1, a :: b :: c :: d :: rest =>
    match readWords n rest with
    | some (ws, rest') => some (joinWord a b c d :: ws, rest')
    | none => none
  | _ + 1, _ => none

/-- Read one item; none when its bytes are short or its word count exceeds 24. -/
def readItem : List Byte → Option (Item × List Byte)
  | st :: ch :: kd :: wc :: t1 :: t0 :: v3 :: v2 :: v1 :: v0 :: rest =>
    if wc.toNat ≤ 24 then
      match readWords wc.toNat rest with
      | some (ws, rest') => some (⟨st, ch, kd, joinHalf t1 t0, joinWord v3 v2 v1 v0, ws⟩, rest')
      | none => none
    else none
  | _ => none

/-- Read `n` items that fill exactly the bytes given. -/
def readItems : Nat → List Byte → Option (List Item)
  | 0, [] => some []
  | 0, _ :: _ => none
  | n + 1, bytes =>
    match readItem bytes with
    | some (i, rest) => (readItems n rest).map (i :: ·)
    | none => none

/-- Read header, items and check. None when the lengths disagree, the items do not fill the item area, or the
check does not match (R44). -/
def readFrame : List Byte → Option Frame
  | kd :: fl :: src :: cnt :: c1 :: c0 :: l1 :: l0 :: s3 :: s2 :: s1 :: s0 :: rest =>
    let area := (joinHalf l1 l0).toNat
    if rest.length = area + 4 then
      let header := [kd, fl, src, cnt, c1, c0, l1, l0, s3, s2, s1, s0]
      if rest.drop area = wordBytes (frameCheck (header ++ rest.take area)) then
        match readItems cnt.toNat (rest.take area) with
        | some items => some ⟨kd, fl, src, joinHalf c1 c0, joinWord s3 s2 s1 s0, items⟩
        | none => none
      else none
    else none
  | _ => none

/-- R44: the good OUTBOUND frame the bytes are, if they are one. -/
def goodOutbound (bytes : List Byte) : Option Frame :=
  match readFrame bytes with
  | some f => if f.kind = 1 ∧ f.items.length ≤ Config.outboundItems then some f else none
  | none => none

/-- R44: the good RETURN frame the bytes are, if they are one. -/
def goodReturn (bytes : List Byte) : Option Frame :=
  match readFrame bytes with
  | some f =>
    if f.kind = 2 ∧ f.items.length ≤ Config.returnItems ∧ 1 ≤ f.source.toNat ∧ f.source.toNat ≤ 62 then some f
    else none
  | none => none

/-- The originator flag, the one flag bit that is kept (Table 3-1). -/
def originatorFlag (flags : Byte) : Byte := flags &&& 1

/-- The kind of an item that is read: none for an unknown kind code and for station 0 or 63, which are
forwarded as they stand and not otherwise read (R44). -/
def Item.readKind (i : Item) : Option ItemKind :=
  if i.station = 0 ∨ i.station = 63 then none else ItemKind.ofCode i.kind

def Item.key (i : Item) : Key := ⟨i.station, i.channel⟩

/-- The first word of an item, or 0 when it has none (Table 3-6, auxiliary value). -/
def Item.aux (i : Item) : Word := i.words.headD 0

end Sys2Proof.Machine
end

