-- ==== Sys2Proof/Machine/Channels.lean ====
section
/-! DEFINITION. Machine/Channels.lean: the Command Channel Unit (04): issuing, repetition, answers, cancel,
timeouts and the gate value. What a job is told is answered to the caller, which hands it to the job. -/

namespace Sys2Proof.Machine

/-! ### What a job is told (R63, R65 to R69) -/

/-- What a job is told of a command, or of an action of a station's own. COMPLETE carries the words of the outcome
and the first word the DONE itself carried, which is what R103, R108, R138 and R149 read (log 28). -/
inductive Told where
  | accepted (tag : Half)
  | complete (tag : Half) (verb : Verb) (words : List Word) (first : Option Word)
  | aborted (tag : Half)
  | missed (tag : Half)
  | refused (tag : Half) (reason : Word)
  | timeout (tag : Half)
  | superseded (tag : Half)
  | cancelled (tag : Half)
  | gone (tag : Half)
  | unsolicited (tag : Half) (result : Word) (words : List Word)
  deriving DecidableEq, Repr

/-! ### Issuing (R62, R63, R72) -/

/-- What the issuing job is told of a command that was taken: its tag, and the tag of a pending command it
superseded. -/
structure Issued where
  tag : Half
  superseded : Option Half
  deriving DecidableEq, Repr

/-- In all tag steps 65,535 is followed by 1 (R62). -/
def tagAfter (t : Half) : Half := if t = 65535#16 then 1#16 else t + 1#16

/-- A tag of the outstanding list, the pending command or the recent tags. -/
def Channel.tagInUse (c : Channel) (t : Half) : Bool :=
  c.outstanding.any (·.tag == t) || (c.pend.map (·.tag)) == some t || c.recent.contains t

/-- R62: the first value from the next tag on that is not in use. At most 2 + 1 + 4 values are in use. -/
def chooseTag (c : Channel) : Nat → Half → Half
  | 0, t => t
  | fuel + 1, t => if c.tagInUse t then chooseTag c fuel (tagAfter t) else t

/-- R72: the arguments lie within the ranges of Table 4-4. -/
def argsInRange (v : Verb) (args : List Word) : Bool :=
  let within (lo hi : Nat) (w : Word) : Bool := lo ≤ w.toNat && w.toNat ≤ hi
  match v, args with
  | .prepare, [p] => within 1 65535 p
  | .spliceAt, [_] => true
  | .preset, o :: n :: m :: rest =>
    within 1 7 o && within 0 6 n && within 0 10 m && rest.length == n.toNat + m.toNat
  | .lift, [] => true
  | .slitterDrop, [] => true
  | .cutAt, [_] => true
  | .lane, [l] => within 1 4 l
  | .stackDrop, [n] => within 1 65535 n
  | _, _ => false

/-- R62: a command entering the outstanding list has its track position translated to raw. -/
def translate (s : State) (c : Command) : Command :=
  match c.role, c.args with
  | some r, [p] => { c with args := [toRaw s r p] }
  | _, _ => c

/-- R62, R63, R72: issue a command. The position, when the verb has one, is the one argument. None is
NOT_TAKEN; a stacker command turned away by R63 has used its tag (log 55). -/
def issueCommand (ch : Nat) (v : Verb) (args : List Word) (role : Option PosRole) (s : State) :
    State × Option Issued :=
  match s.channelAt ch with
  | none => (s, none)
  | some c =>
    if c.cls != some v.cls || !argsInRange v args then (s, none)
    else
      let tag := chooseTag c 8 c.nextTag
      let cmd : Command :=
        { tag := tag, verb := v, args := args, role := role, accepted := false, abort := false, sendTime := none
          acceptTime := none, overdue := false }
      if c.outstanding.length < c.depth then
        (s.adjustChannel ch (fun c =>
          { c with outstanding := c.outstanding ++ [translate s cmd], nextTag := tagAfter tag }),
         some ⟨tag, none⟩)
      else if v.cls == .stacker && c.pend.isSome then
        (raiseNoPosition .cmdNotTaken (natWord ch) (natWord v.place)
          (s.adjustChannel ch (fun c => { c with nextTag := tagAfter tag })), none)
      else
        (s.adjustChannel ch (fun c => { c with pend := some cmd, nextTag := tagAfter tag }),
         some ⟨tag, c.pend.map (·.tag)⟩)

/-- The pending command, when there is one and the list has room, is appended as R62 gives. -/
def promote (ch : Nat) (s : State) : State :=
  s.adjustChannel ch (fun c =>
    match c.pend with
    | some p =>
      if c.outstanding.length < c.depth then
        { c with outstanding := c.outstanding ++ [translate s p], pend := none }
      else c
    | none => c)

/-- R63: whether a channel's pending slot is empty. -/
def pendingEmpty (ch : Nat) (s : State) : Bool :=
  match s.channelAt ch with
  | some c => c.pend.isNone
  | none => true

/-- R68: cancel a command, and what its job is told. A command marked for ABORT tells nothing yet. -/
def cancelCommand (ch : Nat) (tag : Half) (s : State) : State × Option Told :=
  match s.channelAt ch with
  | none => (s, some (.gone tag))
  | some c =>
    if (c.pend.map (·.tag)) == some tag then
      (s.adjustChannel ch (fun c => { c with pend := none }), some (.cancelled tag))
    else if c.outstanding.any (·.tag == tag) then
      (s.adjustChannel ch (fun c =>
        { c with outstanding := c.outstanding.map (fun x => if x.tag == tag then { x with abort := true } else x) }),
       none)
    else (s, some (.gone tag))

/-- R68: a job cancels a command of its own. CANCELLED and GONE are told to it, and no chapter gives a job a reaction
to either, so the state is that of the cancel. -/
def cancelOwn (ch : Nat) (tag : Half) (s : State) : State := (cancelCommand ch tag s).1

/-! ### Repetition (R64) -/

/-- The verb code of ABORT (Table 4-4). -/
def abortCode : Word := 15

/-- The item one outstanding command gives a frame. -/
def Command.item (k : Key) (c : Command) : Option Item :=
  if c.abort then some ⟨k.station, k.channel, ItemKind.cmd.code, c.tag, abortCode, []⟩
  else if c.accepted then none
  else some ⟨k.station, k.channel, ItemKind.cmd.code, c.tag, natWord c.verb.code, c.args⟩

/-- R64: the items of a command channel for a frame, oldest first. -/
def State.commandItems (s : State) (ch : Nat) : List Item :=
  match s.channelAt ch with
  | none => []
  | some c =>
    match c.key with
    | none => []
    | some k => c.outstanding.filterMap (Command.item k)

/-- R64: an item was placed in the frame that begins the current cycle. -/
def markSent (ch : Nat) (tag : Half) (s : State) : State :=
  s.adjustChannel ch (fun c =>
    { c with outstanding := c.outstanding.map (fun x =>
        if x.tag == tag && x.sendTime.isNone then { x with sendTime := some s.fr.sample } else x) })

/-! ### Answers (R65 to R67, R71) -/

/-- R71: an ACCEPT or a DONE on the key ends FAULT. -/
def recoverChannel (ch : Nat) (s : State) : State :=
  match s.channelAt ch with
  | some c =>
    if c.fault then raiseSubject .channelRecovered (natWord ch) (s.adjustChannel ch (fun c => { c with fault := false }))
    else s
  | none => s

/-- Append a tag to the recent tags, dropping the oldest beyond 4 (R66). -/
def rememberTag (tag : Half) (recent : List Half) : List Half :=
  if recent.length < 4 then recent ++ [tag] else recent.tail ++ [tag]

/-- R66: remove a command, remember its tag and promote the pending command. -/
def endCommand (ch : Nat) (tag : Half) (s : State) : State :=
  promote ch (s.adjustChannel ch (fun c =>
    { c with outstanding := c.outstanding.filter (·.tag != tag), recent := rememberTag tag c.recent }))

/-- R65: an ACCEPT. -/
def takeAccept (ch : Nat) (tag : Half) (s : State) : State × Option Told :=
  let s := recoverChannel ch s
  match (s.channelAt ch).bind (fun c => c.outstanding.find? (·.tag == tag)) with
  | none => (s, none)
  | some x =>
    if x.accepted then (s, none)
    else
      (s.adjustChannel ch (fun c =>
        { c with outstanding := c.outstanding.map (fun y =>
            if y.tag == tag then { y with accepted := true, acceptTime := some s.fr.sample } else y) }),
       some (.accepted tag))

/-- R66: the outcome of a DONE for a command of the outstanding list. A result code that is neither COMPLETE,
ABORTED nor, for a knife, MISSED is told as COMPLETE with the code as the last of its words (log 28). -/
def doneOutcome (cls : Option CmdClass) (c : Command) (value : Word) (words : List Word) : Told :=
  if value = 2 then .aborted c.tag
  else if value = 3 ∧ cls = some .knife then .missed c.tag
  else .complete c.tag c.verb (if value = 1 then words else words ++ [value]) words.head?

/-- R67: the repetition of an unsolicited DONE: same value and words, at most 3 cycles later. -/
def repeatsUnsolicited (c : Channel) (cycle : Half) (value : Word) (words : List Word) : Bool :=
  match c.lastUnsol with
  | some u => u.value == value && u.words == words && (cycle - u.cycle).toNat ≤ 3
  | none => false

/-- R66, R67: a DONE. -/
def takeDone (ch : Nat) (tag : Half) (value : Word) (words : List Word) (s : State) : State × Option Told :=
  let s := recoverChannel ch s
  match s.channelAt ch with
  | none => (s, none)
  | some c =>
    match c.outstanding.find? (·.tag == tag) with
    | some x => (endCommand ch tag s, some (doneOutcome c.cls x value words))
    | none =>
    if c.recent.contains tag then (s, none)
    else if tag = 0 then
      if repeatsUnsolicited c s.fr.cycle value words then (s, none)
      else
        (s.adjustChannel ch (fun c => { c with lastUnsol := some ⟨value, words, s.fr.cycle⟩ }),
         some (.unsolicited 0 value words))
    else
      (s.adjustChannel ch (fun c => { c with recent := rememberTag tag c.recent }),
       some (.unsolicited tag value words))

/-- R66, R67: a REFUSE. One that names no outstanding command is ignored, one with tag 0 too (log 77). -/
def takeRefuse (ch : Nat) (tag : Half) (value : Word) (s : State) : State × Option Told :=
  match s.channelAt ch with
  | none => (s, none)
  | some c =>
    if c.outstanding.any (·.tag == tag) then (endCommand ch tag s, some (.refused tag value)) else (s, none)

/-! ### Timeouts (R69, R70) -/

/-- R69: a command is past its accept timeout. -/
def Command.timedOut (c : Command) (limit : Nat) (sample : Word) : Bool :=
  match c.sendTime with
  | some t => !c.accepted && limit * 1000 ≤ (sample - t).toNat
  | none => false

/-- R70: a command is past its complete timeout and not yet overdue. -/
def Command.isOverdue (c : Command) (limit : Nat) (sample : Word) : Bool :=
  match c.acceptTime with
  | some t => c.accepted && !c.overdue && limit * 1000 ≤ (sample - t).toNat
  | none => false

/-- A command of a channel's outstanding list. -/
def State.commandAt (s : State) (ch : Nat) (tag : Half) : Option Command :=
  (s.channelAt ch).bind (fun c => c.outstanding.find? (·.tag == tag))

/-- R69: the command timed out, in RUN. -/
def timeoutDue (ch : Nat) (tag : Half) (s : State) : Option Command :=
  match s.channelAt ch with
  | some c =>
    (c.outstanding.find? (·.tag == tag)).filter (fun x => s.running && x.timedOut c.acceptTimeout s.fr.sample)
  | none => none

/-- R69, before the job is told: the command is removed and the pending one promoted. -/
def dropTimedOut (ch : Nat) (tag : Half) (s : State) : State :=
  promote ch (s.adjustChannel ch (fun c => { c with outstanding := c.outstanding.filter (·.tag != tag) }))

/-- R69, after the job is told: the event and the channel's FAULT. -/
def reportTimeout (ch : Nat) (tag : Half) (v : Verb) (s : State) : State :=
  (raise .cmdTimeout (natWord ch) (natWord tag.toNat) (natWord v.place) s).adjustChannel ch (fun c =>
    { c with fault := true })

/-- R70: a command past its complete timeout becomes overdue, in RUN. -/
def overdueStep (ch : Nat) (tag : Half) (s : State) : State :=
  match s.channelAt ch with
  | none => s
  | some c =>
    match c.outstanding.find? (·.tag == tag) with
    | none => s
    | some x =>
      if s.running && x.isOverdue c.completeTimeout s.fr.sample then
        raise .cmdOverdue (natWord ch) (natWord tag.toNat) (natWord x.verb.place)
          (s.adjustChannel ch (fun c =>
            { c with outstanding := c.outstanding.map (fun y =>
                if y.tag == tag then { y with overdue := true } else y) }))
      else s

/-! ### The gate value (R73) and the modes (R74) -/

/-- R73: SG publishes a gate value. -/
def publishGate (g : Gate) (s : State) : State := s.withCcu { s.ccu with gate := some g }

/-- R73: 1 for PASS, 0 for DIVERT. -/
def Gate.word : Gate → Word
  | .pass => 1
  | .divert => 0

/-- R74: one command on entry into RUN. -/
def Command.restart (sample : Word) (c : Command) : Command :=
  if c.accepted then { c with acceptTime := some sample } else { c with sendTime := none }

/-- R74: CCU on entry into RUN. -/
def channelsEnterRun (s : State) : State :=
  s.withCcu
    { records := s.ccu.records.map (fun c => { c with outstanding := c.outstanding.map (Command.restart s.fr.sample) })
      gate := none }

/-- R74: a record after RESET_TRACKING. -/
def Channel.resetTracking (c : Channel) : Channel :=
  { c with outstanding := [], pend := none, recent := [], lastUnsol := none, fault := false }

end Sys2Proof.Machine
end

