-- ==== Sys2Proof/Machine/WebMap.lean ====
section
/-! DEFINITION. Machine/WebMap.lean: the Web Map (02): the pool and its boundary reserve, the ordered lists,
the requests of other blocks, carrying over links, passages, queries and retirement. -/

namespace Sys2Proof.Machine

/-! ### Marks and spans -/

/-- The downstream end of a mark's span. -/
def Mark.front (m : Mark) : Word := shiftBy m.pos (-((m.lead + m.widening : Nat) : Int))

/-- The upstream end of a mark's span. -/
def Mark.rear (m : Mark) : Word := shiftBy m.pos ((m.trail + m.widening : Nat) : Int)

def Mark.span (m : Mark) : Span := ⟨m.front, m.rear⟩

/-- A SPLICE or ZONE mark, which has a zone span. -/
def Mark.hasZone (m : Mark) : Bool := m.kind != .boundary

/-- Two closed spans share a position, compared by signed distance. -/
def Span.meets (a b : Span) : Bool := 0 ≤ sdist a.front b.rear && 0 ≤ sdist b.front a.rear

/-- The least span that takes in both: lowest front, highest rear (R28). -/
def Span.join (a b : Span) : Span :=
  ⟨if 0 ≤ sdist a.front b.front then a.front else b.front, if 0 ≤ sdist a.rear b.rear then b.rear else a.rear⟩

/-! ### The pool (R22, R23) -/

/-- Every mark held, section by section. -/
def State.allMarks (s : State) : List Mark := s.wm.maps.flatMap (·.marks)

/-- Marks on all section lists (Table 11-7, word 3). -/
def State.markCount (s : State) : Nat := s.allMarks.length

/-- Table 2-2: records not on any list. -/
def State.freeCount (s : State) : Nat := Config.markSlots - s.markCount

/-- Table 2-2: BOUNDARY marks held. -/
def State.boundaryCount (s : State) : Nat := s.allMarks.countP (fun m => m.kind == .boundary)

/-- The records on no list. -/
def State.freeSlots (s : State) : List Nat :=
  let used := s.allMarks.map (·.slot)
  (List.range Config.markSlots).filter (fun k => !used.contains k)

/-- R22: the record a creation takes, any that is free: which one is a free value (log 11). -/
def State.freeSlot (s : State) : Nat :=
  (s.freeSlots[Config.recordChoice s.wm.nextSerial % s.freeSlots.length]?).getD 0

/-- R22: the serial after one, from 65,535 back to 1. -/
def serialAfter (n : Nat) : Nat := if n < 65535 then n + 1 else 1

/-- R25: insert after the last mark whose signed distance to the new position is zero or more, or at the
head. -/
def insertMark (m : Mark) : List Mark → List Mark
  | [] => [m]
  | x :: xs =>
    if (x :: xs).any (fun y => 0 ≤ sdist y.pos m.pos) then x :: insertMark m xs else m :: x :: xs

/-- Put a mark on the list of its section. -/
def listMark (m : Mark) (s : State) : State :=
  s.adjustMap m.sec (fun c => { c with marks := insertMark m c.marks })

/-- Take a mark off the list of a section. -/
def unlistMark (sec slot : Nat) (s : State) : State :=
  s.adjustMap sec (fun c => { c with marks := c.marks.filter (fun m => m.slot != slot) })

/-- Replace a mark in its place. -/
def replaceMark (m : Mark) (s : State) : State :=
  s.adjustMap m.sec (fun c => { c with marks := c.marks.map (fun x => if x.slot == m.slot then m else x) })

/-- The mark held in a slot, wherever it is listed. -/
def State.markInSlot (s : State) (slot : Nat) : Option Mark := s.allMarks.find? (fun m => m.slot == slot)

/-- R26: the mark of a slot and serial; none when the slot is free or the serial differs. -/
def State.findMark (s : State) (slot serial : Nat) : Option Mark :=
  s.allMarks.find? (fun m => m.slot == slot && m.serial == serial)

/-- R28: note a change of the BOARD list; a change in another section is not announced. -/
def noteChange (sec : Nat) (sp : Span) (s : State) : State :=
  if s.isBoard sec then
    s.withWm { s.wm with boardChange := some (match s.wm.boardChange with
      | some old => old.join sp
      | none => sp) }
  else s

/-! ### Creating and merging (R21 to R24, R27) -/

/-- What a CREATE request of a SPLICE or ZONE mark asks for (R26). -/
structure CreateRequest where
  kind : MarkKind
  cause : Option ZoneCause
  sec : Nat
  pos : Word
  lead : Nat
  trail : Nat
  widening : Nat
  conf : Confirmation
  origin : Option Nat
  deriving DecidableEq, Repr

/-- What the requester is told (R23). -/
inductive CreateResult where
  | created (slot serial : Nat)
  | merged (slot serial : Nat)
  | dropped
  deriving DecidableEq, Repr

/-- R24: the older mark extended over the newer mark's span. Lengths are taken about the older position. -/
def mergedMark (old new : Mark) : Mark :=
  let d := sdist old.pos new.pos
  let f := min (-((old.lead + old.widening : Nat) : Int)) (d - ((new.lead + new.widening : Nat) : Int))
  let e := max ((old.trail + old.widening : Nat) : Int) (d + ((new.trail + new.widening : Nat) : Int))
  { old with
    kind := .zone, cause := old.cause <|> new.cause, lead := fitLength (-f).toNat, trail := fitLength e.toNat
    widening := 0, conf := .confirmed, reckoned := old.reckoned || new.reckoned, verifiedAt := none
    origin := none }

/-- R24, with the change announced when the mark is in BOARD. -/
def mergeInto (old new : Mark) (s : State) : State :=
  let m := mergedMark old new
  noteChange old.sec (old.span.join m.span) (replaceMark m s)

/-- R23: the SPLICE or ZONE mark nearest to a position, the one nearer the head when two are as near. -/
def nearestZone (p : Word) (marks : List Mark) : Option Mark :=
  (marks.filter Mark.hasZone).foldl
    (fun best m =>
      match best with
      | none => some m
      | some b => if (sdist m.pos p).natAbs < (sdist b.pos p).natAbs then some m else best)
    none

/-- R27: the widening reckoned or held material adds. -/
def State.reckonWidening (s : State) (sec : Nat) : Nat := if s.uncertain sec then s.margin sec else 0

/-- The mark a request would make, with the RECKONED widening of R27 included. -/
def requestedMark (q : CreateRequest) (s : State) : Mark :=
  { slot := s.freeSlot, serial := s.wm.nextSerial, kind := q.kind, cause := q.cause, sec := q.sec, pos := q.pos
    lead := fitLength q.lead, trail := fitLength q.trail
    widening := fitLength (q.widening + s.reckonWidening q.sec), conf := q.conf, reckoned := s.uncertain q.sec
    via := none, verifiedAt := none, origin := q.origin, order := none, patternChange := false }

/-- Enter a mark on the list of its section and advance the serial (R22), announcing it in BOARD (R28). -/
def enterMark (m : Mark) (s : State) : State :=
  let s := listMark m s
  noteChange m.sec m.span (s.withWm { s.wm with nextSerial := serialAfter s.wm.nextSerial })

/-- R23: create a SPLICE or ZONE mark, merge it within the boundary reserve, or drop it. -/
def createMark (q : CreateRequest) (s : State) : State × CreateResult :=
  let m := requestedMark q s
  if Config.boundaryLimit - s.boundaryCount < s.freeCount then (enterMark m s, .created m.slot m.serial)
  else
    match nearestZone q.pos (s.mapAt q.sec).marks with
    | some old => (mergeInto old m s, .merged old.slot old.serial)
    | none => (raise .mapFull (natWord q.sec) q.pos (natWord q.kind.code) s, .dropped)

/-- Create a mark whose reply the requester does not keep. -/
def placeMark (q : CreateRequest) (s : State) : State := (createMark q s).1

/-- R22: create a BOUNDARY mark in BOARD; refused with BOUNDARY_LIMIT, and MAP_FULL raised, when 16 are
present. It takes the RECKONED flag as R11 and R27 have it, while its widening is 0 (R21; log 71). -/
def createBoundary (sec : Nat) (pos : Word) (order : Option OrderKey) (change : Bool) (s : State) :
    State × Option BoundaryRef :=
  if s.boundaryCount < Config.boundaryLimit then
    let m : Mark :=
      { slot := s.freeSlot, serial := s.wm.nextSerial, kind := .boundary, cause := none, sec := sec, pos := pos
        lead := 0, trail := 0, widening := 0, conf := .confirmed, reckoned := s.uncertain sec, via := none
        verifiedAt := none, origin := none, order := order, patternChange := change }
    (enterMark m s, some ⟨m.slot, m.serial, pos⟩)
  else (raise .mapFull (natWord sec) pos (natWord MarkKind.boundary.code) s, none)

/-! ### MOVE, NARROW, DELETE (R26, R27) -/

inductive ChangeResult where | done | merged | gone | fixed
  deriving DecidableEq, Repr

/-- The position of a MOVE carried from the section given into the mark's present section, with whether a
carry was limited (R31), and whether a store link was crossed (R30). The widening a crossing mark gains under R30
is no part of it: R26 gives a moved mark the widening of R27 (log 27). -/
structure CarriedMove where
  pos : Word
  limited : Bool
  crossed : Bool
  deriving DecidableEq, Repr

/-- R26: carry a moved position link by link. A link that gives no result leaves the position where it is. -/
def carryMove (links : List Nat) (p : Word) (s : State) : State × CarriedMove :=
  links.foldl
    (fun acc l =>
      let r := carryOver l acc.2.pos acc.1
      match r.2, s.linkAt l with
      | some (q, rng), some k =>
        (r.1, { pos := q, limited := acc.2.limited || rng, crossed := acc.2.crossed || k.store })
      | _, _ => (r.1, acc.2))
    (s, { pos := p, limited := false, crossed := false })

/-- The widening and RECKONED flag of a mark moved in its section (R27). A limited carry adds the margin to
the widening the mark has, as R31 does, and R27's 0 for CONFIRMED is not taken before it (log 27). -/
def movedWidening (m : Mark) (conf : Confirmation) (limited : Bool) (s : State) : Nat × Bool :=
  if s.uncertain m.sec || limited then (m.widening + s.margin m.sec, true)
  else if conf == .confirmed then (0, false)
  else (m.widening, m.reckoned)

/-- R26: MOVE a mark. A ZONE is extended instead (R24), a BOUNDARY refused. A mark moved to the position it has is
inserted again as a newcomer too (log 102), and a position given in a section that is neither the mark's own nor
upstream of it is taken as it stands (log 103); both are DESIGN CHOICE. -/
def moveMark (slot serial sec : Nat) (pos : Word) (conf : Confirmation) (s : State) : State × ChangeResult :=
  match s.findMark slot serial with
  | none => (s, .gone)
  | some m =>
    if m.kind == .boundary then (s, .fixed)
    else
      let links := if sec = m.sec then [] else (s.path sec m.sec).getD []
      let r := carryMove links pos s
      let w := movedWidening m conf r.2.limited r.1
      let c := if r.2.crossed && (conf == .confirmed || conf == .verified) then .carried else conf
      let moved := { m with pos := r.2.pos, widening := fitLength w.1, reckoned := w.2, conf := c }
      match m.kind with
      | .zone => (mergeInto m moved r.1, .merged)
      | _ =>
        (noteChange m.sec (m.span.join moved.span) (listMark moved (unlistMark m.sec m.slot r.1)), .done)

/-- R26: NARROW a mark's widening; no effect on a zone a splice was merged into. -/
def narrowMark (slot serial widening : Nat) (s : State) : State × ChangeResult :=
  match s.findMark slot serial with
  | none => (s, .gone)
  | some m =>
    match m.kind with
    | .boundary => (s, .fixed)
    | .zone => (s, .done)
    | .splice =>
      (noteChange m.sec m.span (replaceMark { m with widening := min m.widening widening } s), .done)

/-- R26: DELETE a mark. -/
def deleteMark (slot serial : Nat) (s : State) : State × ChangeResult :=
  match s.findMark slot serial with
  | none => (s, .gone)
  | some m =>
    if m.kind == .boundary then (s, .fixed)
    else (noteChange m.sec m.span (unlistMark m.sec m.slot s), .done)

/-! ### Queries (R33) -/

/-- The SPLICE and ZONE marks whose closed span contains a position, in list order. -/
def State.cover (s : State) (sec : Nat) (q : Word) : List Mark :=
  if (s.sectionAt sec).isSome then (s.mapAt sec).marks.filter (fun m => m.hasZone && m.span.meets ⟨q, q⟩)
  else []

/-- The SPLICE and ZONE marks whose closed span shares a position with the span given, in list order. -/
def State.overlap (s : State) (sec : Nat) (sp : Span) : List Mark :=
  if (s.sectionAt sec).isSome then (s.mapAt sec).marks.filter (fun m => m.hasZone && m.span.meets sp) else []

/-- An overlap query on BOARD. -/
def State.boardOverlap (s : State) (sp : Span) : List Mark :=
  match s.boardIndex with
  | some b => s.overlap b sp
  | none => []

/-! ### Carrying over links (R29 to R31) -/

/-- The mark as it arrives in the downstream section `d` over a link. Where R27 and R31 both have it gain
reckon_margin it gains it once (log 60). -/
def arrivingMark (m : Mark) (link : Nat) (l : Link) (pos : Word) (limited : Bool) (s : State) : Mark :=
  let d := l.down
  let w := carryLength l m.widening + (if l.store then l.storeWiden else 0)
  let unsure := s.uncertain d || limited
  { m with
    sec := d, pos := pos, lead := fitLength (carryLength l m.lead), trail := fitLength (carryLength l m.trail)
    widening := fitLength (w + (if unsure then s.margin d else 0)), reckoned := m.reckoned || unsure
    via := some link, verifiedAt := none
    conf :=
      if l.store && m.kind == .splice && (m.conf == .confirmed || m.conf == .verified) then .carried
      else m.conf }

/-- R29: move the head marks of one link's upstream list that have reached the downstream counter. -/
def carryHeads (link d : Nat) : Nat → State → State
  | 0, s => s
  | fuel + 1, s =>
    match s.linkAt link with
    | none => s
    | some l =>
      match (s.mapAt l.up).marks with
      | [] => s
      | m :: _ =>
        let r := carryOver link m.pos s
        match r.2 with
        | none => r.1
        | some (q, limited) =>
          if 0 ≤ sdist q (s.count d) then
            let m' := arrivingMark m link l q limited r.1
            carryHeads link d fuel (noteChange d m'.span (listMark m' (unlistMark l.up m.slot r.1)))
          else r.1

/-- R29: carry marks into a section, link by link in increasing number. A list holds at most 192 marks. -/
def carryInto (d : Nat) (s : State) : State :=
  (List.range 11).foldl
    (fun s link =>
      match s.linkAt link with
      | some l => if l.anchored && l.down == d then carryHeads link d (Config.markSlots + 1) s else s
      | none => s)
    s

/-! ### Passages (R32, R39) -/

inductive PassageKind where | front | mark | rear
  deriving DecidableEq, Repr

/-- A passage report. -/
structure Passage where
  point : Nat
  use : PointUse
  kind : PassageKind
  slot : Nat
  serial : Nat
  markKind : MarkKind
  pos : Word
  deriving DecidableEq, Repr

/-- R32: position `q` passes the point at distance `x` when the count goes from `t0` to `t1`. -/
def passes (t0 t1 : Word) (x : Int) (q : Word) : Bool :=
  0 < sdist (shiftBy t0 (-x)) q && 0 ≤ sdist q (shiftBy t1 (-x))

/-- The passages of one mark at one point; a BOUNDARY mark is reported once, as MARK. -/
def markPassages (t0 t1 : Word) (i : Nat) (p : Point) (m : Mark) : List Passage :=
  let report (k : PassageKind) (q : Word) : List Passage :=
    if passes t0 t1 p.dist q then [⟨i, p.use, k, m.slot, m.serial, m.kind, q⟩] else []
  if m.kind == .boundary then report .mark m.pos
  else report .front m.front ++ report .mark m.pos ++ report .rear m.rear

/-- The points of a section with their indices. -/
def indexedPoints (c : SectionCfg) : List (Nat × Point) := (List.range c.points.length).zip c.points

/-- R32: the passages an update causes in a section, point by point (log 121), marks in list order. -/
def State.passages (s : State) (sec : Nat) : List Passage :=
  match s.sectionAt sec with
  | none => []
  | some c =>
    let mp := s.mapAt sec
    (indexedPoints c.cfg).flatMap (fun ip => mp.marks.flatMap (markPassages mp.lastSeen c.trk.count ip.1 ip.2))

/-- The places of FRESH and STALE in Table 3-6. -/
def freshWord (b : Bool) : Word := if b then 0 else 1

/-- R39: raise JOINT_MISSED for each CARRIED splice of the verified link that reaches the distance x + window of a joint
sensor unmatched. The points are taken in the order of the point list, and for each the marks in list order (log 121,
DESIGN CHOICE). -/
def jointMisses (sec : Nat) (s : State) : State :=
  match s.sectionAt sec with
  | none => s
  | some c =>
    let mp := s.mapAt sec
    (indexedPoints c.cfg).foldl
      (fun s ip =>
        match ip.2.use with
        | .jointSensor slot window verified _ _ =>
          mp.marks.foldl
            (fun s m =>
              if m.kind == .splice && m.conf == .carried && m.via == some verified
                  && m.verifiedAt != some ip.1
                  && passes mp.lastSeen c.trk.count (ip.2.dist + window) m.pos then
                raise .jointMissed (natWord m.slot) m.pos (freshWord (s.fresh slot)) s
              else s)
            s
        | _ => s)
      s

/-- The last seen count becomes the track counter (R32, R42). -/
def markSeen (sec : Nat) (s : State) : State :=
  s.adjustMap sec (fun c => { c with lastSeen := s.count sec })

/-- R34: retire every BOARD mark whose rear, or whose position for a BOUNDARY mark, is level with or behind
the material at the STACKER point. This takes the marks whose passage was just reported too. -/
def retireMarks (s : State) : State :=
  match s.boardIndex, s.materialAt .stacker with
  | some b, some mat =>
    s.adjustMap b (fun c =>
      { c with marks := c.marks.filter (fun m =>
          !decide (0 ≤ sdist (if m.kind == .boundary then m.pos else m.rear) mat)) })
  | _, _ => s

/-! ### Joint sensors (R35 to R38) -/

/-- R36: the SPLICE mark a detection matches. -/
def matchJoint (point window : Nat) (pj : Word) (marks : List Mark) : Option Mark :=
  nearestZone pj (marks.filter (fun m =>
    m.kind == .splice && m.verifiedAt != some point && (sdist pj m.pos).natAbs ≤ window))

/-- R37: correct the via-link's anchor and the other marks of that link ahead of the sensor. Each of these marks is
inserted again as a newcomer, with a correction of 0 too (log 102). Its RECKONED flag stays as it is, in a RECKONED or
HELD section too (log 112, DESIGN CHOICE). Several marks are inserted again in list order, the head first, so that two
at equal positions keep their order (log 120, DESIGN CHOICE). -/
def correctLink (sec link slot : Nat) (c : Int) (x : Int) (s : State) : State :=
  let s := s.adjustLink link (fun l => { l with aDown := shiftBy l.aDown c })
  let atSensor := shiftBy (s.count sec) (-x)
  let moved := (s.mapAt sec).marks.filter (fun m =>
    m.slot != slot && m.via == some link && 0 < sdist atSensor m.pos)
  moved.foldl
    (fun s m =>
      let m' := { m with pos := shiftBy m.pos c }
      noteChange sec (m.span.join m'.span) (listMark m' (unlistMark sec m.slot s)))
    s

/-- R36 and R37: a matched mark takes the detected position and corrects its via-link. A via-link whose record has
since been freed corrects nothing and raises nothing more (log 61). The mark is inserted again as a newcomer, where
it was found at its own position too (log 102). -/
def matchedJoint (sec point : Nat) (x : Int) (pj : Word) (m : Mark) (s : State) : State :=
  let e := sdist m.pos pj
  let unsure := s.uncertain sec
  let m' := { m with pos := pj, conf := .verified, widening := fitLength (s.reckonWidening sec)
                     reckoned := unsure, verifiedAt := some point }
  let s := noteChange sec (m.span.join m'.span) (listMark m' (unlistMark sec m.slot s))
  let s := raise .jointMatched (natWord m.slot) pj (wordOf e) s
  match m.via with
  | none => s
  | some link =>
    match s.linkAt link with
    | none => s
    | some l =>
      let c := clampInt (-(l.maxCorr : Int)) l.maxCorr e
      let s := if c = e then s else raise .correctionClamped (natWord link) pj (wordOf (e - c)) s
      correctLink sec link m.slot c x s

/-- R35: one detection at a joint sensor; R38 when no mark matches it. -/
def jointDetection (sec point : Nat) (x : Int) (window lead trail news : Nat) (pj : Word) (s : State) : State :=
  match matchJoint point window pj (s.mapAt sec).marks with
  | some m => matchedJoint sec point x pj m s
  | none =>
    let s := placeMark
      { kind := .zone, cause := some .jointUnknown, sec := sec, pos := pj, lead := lead, trail := trail
        widening := 0, conf := .confirmed, origin := none } s
    raise .jointUnexpected (natWord (sec * 8 + point)) pj (natWord news) s

/-- R35: a fresh value in the slot of one JOINT_SENSOR point. -/
def jointArrival (sec point : Nat) (p : Point) (slot : Nat) (s : State) : State :=
  match p.use with
  | .jointSensor _ window _ lead trail =>
    let count : Half := (s.slotAux slot).truncate 16
    let old := ((s.mapAt sec).baselines[point]?).join
    let s := s.adjustMap sec (fun c => { c with baselines := c.baselines.set point (some count) })
    match old with
    | none => s
    | some b =>
      if count = b ∨ !s.running then s
      else
        let pj := shiftBy (toTrack s ⟨sec, .primary⟩ (s.slotValue slot)) (-p.dist)
        jointDetection sec point p.dist window lead trail (count - b).toNat pj s
  | _ => s

/-- R35: a fresh value in a slot owned by WM, for every JOINT_SENSOR point that names it. -/
def mapArrival (slot : Nat) (s : State) : State :=
  (List.range 12).foldl
    (fun s sec =>
      match s.sectionAt sec with
      | none => s
      | some c =>
        (indexedPoints c.cfg).foldl
          (fun s ip =>
            match ip.2.use with
            | .jointSensor k _ _ _ _ => if k = slot then jointArrival sec ip.1 ip.2 slot s else s
            | _ => s)
          s)
    s

end Sys2Proof.Machine
end

