-- ==== Sys2Proof/Machine/Slitter.lean ====
section
/-! DEFINITION. Machine/Slitter.lean: the Slitter Pair Controller (07): preset, swap, late swaps and the cover
run, faults, clear and recovery. Station 0 is A and 1 is B. -/

namespace Sys2Proof.Machine

/-! ### Points and the pair state (R115) -/

/-- The BOARD point of a station. -/
def stationPoint (i : Nat) : PointUse := if i = 0 then .slitterA else .slitterB

/-- The material at a station's point. -/
def materialAtStation (i : Nat) (s : State) : Word := (s.materialAt (stationPoint i)).getD 0

/-- The material at the upstream point, the one of smaller distance (R121's U). -/
def upstreamMaterial (s : State) : Option Word :=
  match s.boardCount, s.boardPoint .slitterA, s.boardPoint .slitterB with
  | some t, some a, some b => some (shiftBy t (-(min a b)))
  | some t, some a, none => some (shiftBy t (-a))
  | some t, none, some b => some (shiftBy t (-b))
  | _, _, _ => none

/-- The end of the board the slitters may have cut wrong: U + swap_gap. -/
def coverEdge (s : State) : Option Word := (upstreamMaterial s).map (fun u => shiftBy u s.cp.swapGap)

inductive PairState where | steady | preparing | swapping | late | fault
  deriving DecidableEq, Repr

/-- A station is in a state. -/
def State.stationIs (s : State) (i : Nat) (x : StationState) : Bool := (s.stationAt i).any (·.state == x)

/-- R115. -/
def State.pairState (s : State) : PairState :=
  if s.stationIs 0 .fault || s.stationIs 1 .fault then .fault
  else
    match s.sp.swap with
    | none => .steady
    | some w =>
      match w.stage with
      | .late => .late
      | .moving => .swapping
      | .waiting => .preparing

/-- Table 11-7, word 2. -/
def PairState.code : PairState → Nat
  | .steady => 0 | .preparing => 1 | .swapping => 2 | .late => 3 | .fault => 4

/-- Change the swap held. -/
def State.adjustSwap (s : State) (f : Swap → Swap) : State := s.withSp { s.sp with swap := s.sp.swap.map f }

/-! ### The cover run (R121, R122) -/

/-- A swap is held with stage LATE. -/
def swapLate (s : State) : Bool := s.sp.swap.any (·.stage == .late)

/-- R121: a cause of the cover run holds. -/
def coverCause (s : State) : Bool :=
  swapLate s || (List.range 2).any (fun i => (s.stationAt i).any (fun x => x.state == .fault && x.atRisk))

/-- A zone of the cover run in BOARD from the covered rear to a position. -/
def coverZone (cause : ZoneCause) (upTo : Word) (s : State) : State :=
  match s.boardIndex with
  | none => s
  | some b =>
    let s := placeMark
      { kind := .zone, cause := some cause, sec := b, pos := s.sp.cover.rear, lead := 0
        trail := (sdist s.sp.cover.rear upTo).toNat, widening := 0, conf := .confirmed, origin := none } s
    s.withSp { s.sp with cover := { s.sp.cover with rear := upTo } }

/-- R121: a cover step. -/
def coverStep (s : State) : State :=
  match s.sp.cover.active, coverEdge s with
  | true, some e =>
    if 0 ≤ sdist s.sp.cover.rear e then
      coverZone (if swapLate s then .lateSwap else .slitterFault) (shiftBy e s.sp.lateStep) s
    else s
  | _, _ => s

/-- R121: start the cover run when it is not active. -/
def startCover (pos : Word) (s : State) : State :=
  if s.sp.cover.active then s
  else coverStep (s.withSp { s.sp with cover := { active := true, rear := pos, start := pos } })

/-- R122: end the cover run when no cause holds, with one last zone up to U + swap_gap in RUN (log 32). -/
def endCover (cause : ZoneCause) (s : State) : State :=
  if s.sp.cover.active && !coverCause s then
    let s := match s.running, coverEdge s with
      | true, some e => if 0 < sdist s.sp.cover.rear e then coverZone cause e s else s
      | _, _ => s
    s.withSp { s.sp with cover := { s.sp.cover with active := false } }
  else s

/-! ### The end of a swap (R119) -/

/-- R119: remove a finished swap and raise SWAP_DONE. -/
def swapEndCheck (s : State) : State :=
  match s.sp.swap with
  | none => s
  | some w =>
    if w.drop = .done ∧ (w.lift = .done ∨ w.lift = .failed ∨ w.lift = .notNeeded) then
      let pos := match w.boundary with
        | some b => b.pos
        | none => w.lateStart.getD 0
      let value := match w.lateStart with
        | some p => wordOf (sdist p s.sp.cover.rear)
        | none => 0
      raise .swapDone (natWord w.newStation) pos value (s.withSp { s.sp with swap := none })
    else s

/-! ### Late swaps (R120, R122) -/

/-- R120: the swap becomes LATE. -/
def makeLate (s : State) : State :=
  match s.sp.swap with
  | none => s
  | some w =>
    let start := (w.lateStart <|> w.boundary.map (·.pos)).getD 0
    let s := s.adjustSwap (fun w =>
      { w with stage := .late, drop := if w.drop = .sent then .notSent else w.drop, lateStart := some start })
    startCover start (raise .lateSwap (natWord w.newStation) start (if w.kind = .recovery then 1 else 0) s)

/-! ### Faults (R123) -/

/-- R123: what a fault does to the swap held. A new station that faults after its DROP is done leaves the swap MOVING,
as R120 has it (log 113, DEDUCED). -/
def faultOnSwap (i : Nat) (s : State) : State :=
  match s.sp.swap with
  | none => s
  | some w =>
    if w.newStation = i then
      if w.stage = .moving ∧ w.drop ≠ .done then makeLate s else s
    else if w.oldStation = some i ∧ w.lift = .sent then
      swapEndCheck (s.adjustSwap (fun w => { w with lift := .failed }))
    else s

/-- R123: a station enters FAULT with the value word given. The cover run starts from the rear of the zone as it is
asked for, before R27 widens it (log 80). -/
def stationFault (i : Nat) (value : Int) (s : State) : State :=
  match s.stationAt i, s.boardIndex with
  | some x, some b =>
    let s := match x.live with
      | some l => cancelOwn x.cfg.channel l.tag s
      | none => s
    let risk := x.state == .engaged
    let s := s.adjustStation i (fun x => { x with state := .fault, atRisk := risk, live := none })
    let mat := materialAtStation i s
    let lead := x.cfg.faultZone / 2
    let trail := x.cfg.faultZone - lead
    let s := placeMark
      { kind := .zone, cause := some .slitterFault, sec := b, pos := mat, lead := lead, trail := trail
        widening := 0, conf := .confirmed, origin := none } s
    let s := raise .slitterFault (natWord i) mat (wordOf value) s
    let s := if risk then startCover (shiftBy mat trail) s else s
    faultOnSwap i s
  | _, _ => s

/-! ### Commands -/

/-- R116: the arguments of PRESET for a pattern. -/
def presetArgs (p : Pattern) : List Word :=
  [natWord p.outs, natWord p.slits.length, natWord p.scores.length] ++ p.slits.map natWord ++ p.scores.map natWord

/-- R63, R117, R123: a command SP issued displaced one it was following, for which it is told SUPERSEDED: a fault with
value 3, taken when the action that issued is complete (log 73). -/
def supersededLive (i : Nat) (old : Option LiveCommand) (discarded : Option Half) (s : State) : State :=
  if discarded.isSome && discarded == old.map (·.tag) then stationFault i 3 s else s

/-- Issue a command on a station's channel. When it is taken the station follows it, and the swap or the station moves
on as given. -/
def stationIssue (i : Nat) (v : Verb) (args : List Word) (taken : State → State) (s : State) : State :=
  match s.stationAt i with
  | none => s
  | some x =>
    let r := issueCommand x.cfg.channel v args none s
    match r.2 with
    | some t =>
      supersededLive i x.live t.superseded
        (taken (r.1.adjustStation i (fun x => { x with live := some ⟨v, t.tag⟩ })))
    | none => r.1

/-- R116, R124: issue PRESET to a station, which becomes PRESETTING. -/
def issuePreset (i pattern : Nat) (s : State) : State :=
  let args := match s.patternAt pattern with
    | some p => presetArgs p
    | none => []
  stationIssue i .preset args (fun s => s)
    (s.adjustStation i (fun x => { x with state := .presetting, pattern := some pattern }))

/-- Issue the swap's DROP. -/
def issueSwapDrop (w : Swap) (s : State) : State :=
  stationIssue w.newStation .slitterDrop []
    (fun s => s.adjustSwap (fun w => { w with drop := .sent, stage := .moving })) s

/-- Issue the swap's LIFT, or take it as FAILED when the old station is FAULT. -/
def issueSwapLift (w : Swap) (s : State) : State :=
  match w.oldStation with
  | none => s
  | some o =>
    if s.stationIs o .fault then s.adjustSwap (fun w => { w with lift := .failed })
    else
      stationIssue o .lift [] (fun s => s.adjustSwap (fun w => { w with lift := .sent, stage := .moving })) s

/-! ### The end of lateness (R122) -/

/-- R122: the new station of a LATE swap has become PRESET. -/
def endLateness (s : State) : State :=
  match s.sp.swap with
  | none => s
  | some w =>
    if w.stage = .late ∧ s.stationIs w.newStation .preset then
      let s := issueSwapDrop w s
      let s := if w.lift = .notSent then issueSwapLift w s else s
      let s := s.adjustSwap (fun w => { w with stage := .moving })
      endCover .lateSwap (swapEndCheck s)
    else s

/-! ### The due check (R118) -/

/-- R118: the lead distance of a station. -/
def leadDistance (i : Nat) (s : State) : Nat :=
  match s.board, s.stationAt i with
  | some b, some x => (roundDiv ((b.trk.speed * x.cfg.leadTime : Nat) : Int) 60).toNat
  | _, _ => 0

/-- Keep the lead distance computed (R127). -/
def noteLead (i : Nat) (s : State) : State := s.adjustStation i (fun x => { x with lastLead := leadDistance i s })

/-- R118: a station's command is due for the boundary at `b`. -/
def commandDue (i : Nat) (b : Word) (s : State) : Bool := sdist (materialAtStation i s) b ≤ (leadDistance i s : Int)

/-- R118: issue each due command that is NOT_SENT, the DROP first (log 34). -/
def issueDue (w : Swap) (dropDue liftDue : Bool) (s : State) : State :=
  let s := if dropDue && w.drop == .notSent then issueSwapDrop w s else s
  let s := if liftDue && w.lift == .notSent then issueSwapLift w s else s
  swapEndCheck s

/-- R118: the due check of a BOUNDARY swap in WAITING or MOVING. The LIFT's point counts as coming due in WAITING
also when lift is DONE already (log 79). -/
def swapDueCheck (s : State) : State :=
  match s.sp.swap with
  | none => s
  | some w =>
    match w.boundary with
    | none => s
    | some b =>
      if w.stage = .late ∨ !s.running then s
      else
        let s := noteLead w.newStation s
        let s := match w.oldStation with
          | some o => noteLead o s
          | none => s
        let dropDue := commandDue w.newStation b.pos s
        let liftDue := match w.oldStation with
          | some o => commandDue o b.pos s
          | none => false
        if w.stage = .waiting && !s.stationIs w.newStation .preset then
          if dropDue || liftDue then makeLate s else s
        else issueDue w dropDue liftDue s

/-- R116: a committed pattern change creates a BOUNDARY swap. -/
def createSwap (b : BoundaryRef) (pattern : Nat) (s : State) : State :=
  let old := (List.range 2).find? (fun i => s.stationIs i .engaged)
  let new := match old with
    | some o => 1 - o
    | none => 0
  let w : Swap :=
    { kind := .boundary, boundary := some b, pattern := pattern, newStation := new, oldStation := old
      stage := .waiting, drop := .notSent, lift := if old.isSome then .notSent else .notNeeded
      lateStart := none }
  swapDueCheck (issuePreset new pattern (s.withSp { s.sp with swap := some w }))

/-! ### Completions (R117, R119) -/

/-- R117: the station's PRESET is complete. -/
def presetComplete (i : Nat) (s : State) : State :=
  endLateness (s.adjustStation i (fun x => { x with state := .preset, live := none }))

/-- R119: the station's DROP is complete. -/
def dropComplete (i : Nat) (s : State) : State :=
  let s := s.adjustStation i (fun x => { x with state := .engaged, live := none })
  swapEndCheck (s.adjustSwap (fun w => { w with drop := .done }))

/-- R119: the station's LIFT is complete. -/
def liftComplete (i : Nat) (s : State) : State :=
  let s := s.adjustStation i (fun x => { x with state := .idle, pattern := none, live := none })
  swapEndCheck (s.adjustSwap (fun w => { w with lift := .done }))

/-- The live command of a station is complete. -/
def liveComplete (i : Nat) (v : Verb) (s : State) : State :=
  match v with
  | .preset => presetComplete i s
  | .slitterDrop => dropComplete i s
  | .lift => liftComplete i s
  | _ => s

/-- R117, R119: a report shows the live command complete. -/
def reportShows (live : LiveCommand) (value aux : Word) : Bool :=
  match live.verb with
  | .preset => value == natWord live.tag.toNat
  | .lift => aux == 1
  | .slitterDrop => aux == 2
  | _ => false

/-! ### What SP is told (R117, R119, R123) -/

/-- A failed outcome of a station's live command. -/
def liveFailed (i : Nat) (tag : Half) (value : Int) (s : State) : State :=
  if (s.stationAt i).any (fun x => x.live.any (·.tag == tag)) then stationFault i value s else s

/-- SP is told of a command of a station; tags it does not follow are ignored. -/
def slitterTold (i : Nat) (t : Told) (s : State) : State :=
  match t with
  | .accepted _ => s
  | .complete tag _ _ _ =>
    match (s.stationAt i).bind (·.live) with
    | some l => if l.tag = tag then liveComplete i l.verb s else s
    | none => s
  | .refused tag reason => liveFailed i tag (1 + 256 * (reason.toNat : Int)) s
  | .timeout tag => liveFailed i tag 2 s
  | .aborted tag => liveFailed i tag 3 s
  | .missed tag => liveFailed i tag 3 s
  | .superseded tag => liveFailed i tag 3 s
  | .cancelled _ => s
  | .gone _ => s
  | .unsolicited _ _ _ => s

/-- R117, R119: the report completes the live command: it is settled and cancelled. -/
def settleLive (i : Nat) (l : LiveCommand) (s : State) : State :=
  match s.stationAt i with
  | none => s
  | some x =>
    let s := s.adjustStation i (fun x => { x with settled := some l.tag })
    liveComplete i l.verb (cancelOwn x.cfg.channel l.tag s)

/-- A fresh report of a station, in RUN; a reported FAULT is taken first (log 33). -/
def stationReport (i : Nat) (value aux : Word) (s : State) : State :=
  match s.stationAt i with
  | none => s
  | some x =>
    if x.state = .fault then s
    else if aux = 4 then stationFault i 4 s
    else
      match x.live with
      | some l => if reportShows l value aux then settleLive i l s else s
      | none => s

/-- A fresh value in a slot owned by SP. -/
def slitterArrival (slot : Nat) (s : State) : State :=
  if s.running then
    (List.range 2).foldl
      (fun s i =>
        if (s.stationAt i).any (·.cfg.slot == slot) then stationReport i (s.slotValue slot) (s.slotAux slot) s
        else s)
      s
  else s

/-! ### Recovery and clear (R124, R125) -/

/-- R125: board runs without a station to slit it. -/
def recoveryCheck (s : State) : State :=
  let idle (i : Nat) : Bool := s.stationIs i .idle
  match s.op.runningPattern, s.sp.swap, coverEdge s with
  | some p, none, some e =>
    if s.running && !s.stationIs 0 .engaged && !s.stationIs 1 .engaged && (idle 0 || idle 1) then
      let new := if idle 0 then 0 else 1
      let w : Swap :=
        { kind := .recovery, boundary := none, pattern := p, newStation := new, oldStation := none
          stage := .waiting, drop := .notSent, lift := .notNeeded, lateStart := some e }
      makeLate (issuePreset new p (s.withSp { s.sp with swap := some w }))
    else s
  | _, _, _ => s

/-- R124 step 2: PRESET to a held swap's IDLE new station, in RUN. -/
def represet (i : Nat) (s : State) : State :=
  match s.sp.swap with
  | some w => if w.newStation = i && s.running then issuePreset i w.pattern s else s
  | none => s

/-- R124 step 3: the old station's tools are up. -/
def clearedLift (i : Nat) (s : State) : State :=
  match s.sp.swap with
  | some w =>
    if w.oldStation = some i ∧ (w.lift = .notSent ∨ w.lift = .failed) then
      swapEndCheck (s.adjustSwap (fun w => { w with lift := .done }))
    else s
  | none => s

/-- R124, R125: a FAULT station is cleared. -/
def clearStation (i : Nat) (s : State) : State :=
  let s := s.adjustStation i (fun x => { x with state := .idle, pattern := none, atRisk := false, live := none })
  recoveryCheck (endCover .slitterFault (clearedLift i (represet i s)))

/-! ### Updates and entry into RUN (R118, R121, R126) -/

/-- What SP does at a BOARD track update in RUN: the due check, then the cover step (log 91). -/
def slitterUpdate (s : State) : State := coverStep (swapDueCheck s)

/-- R126: one station on entry into RUN. -/
def stationEnterRun (i : Nat) (s : State) : State :=
  match s.stationAt i with
  | none => s
  | some x =>
    match x.live with
    | none => s
    | some l =>
      let held : Bool := match s.channelAt x.cfg.channel with
        | some c => c.outstanding.any (·.tag == l.tag) || (c.pend.map (·.tag)) == some l.tag
        | none => false
      if held then s
      else if s.fresh x.cfg.slot && reportShows l (s.slotValue x.cfg.slot) (s.slotAux x.cfg.slot) then
        settleLive i l s
      else stationFault i 5 s

/-- R126: the stations settled, A before B (log 92), then a held swap's PRESET and the check of R125. -/
def slitterEnterRun (s : State) : State :=
  let s := stationEnterRun 1 (stationEnterRun 0 s)
  let s := match s.sp.swap with
    | some w => if s.stationIs w.newStation .idle then represet w.newStation s else s
    | none => s
  recoveryCheck s

end Sys2Proof.Machine
end

