-- ==== Sys2Proof/Machine/Flags.lean ====
section
/-! DEFINITION. Machine/Flags.lean: the three sticky flags as a word and the words of the status item
(11, Tables 11-1 and 11-7, R171, R174). -/

namespace Sys2Proof.Machine

/-- Table 11-1: bit 0 FRAME_FULL, bit 1 EVENTS_DROPPED, bit 2 REPLY_LOST. -/
def State.flagWord (s : State) : Word :=
  (if s.fr.frameFull then 1 else 0) ||| (if s.mu.eventsDropped then 2 else 0) |||
    (if s.mu.replyLost then 4 else 0)

/-- R171: the three flags cleared. -/
def clearFlags (s : State) : State :=
  (s.withFr { s.fr with frameFull := false }).withMu { s.mu with eventsDropped := false, replyLost := false }

/-- Table 11-7, word 0. -/
def Mode.word : Mode → Word
  | .setup => 0
  | .run => 1

/-- Table 11-7, word 1. -/
def FrState.word : FrState → Word
  | .normal => 0
  | .lostCell => 1

/-- Table 11-7, word 6. -/
def blockWord (b : Option BlockCause) : Word :=
  match b with
  | some c => natWord c.code
  | none => 0

/-- Stations that are SUSPECT. -/
def State.suspects (s : State) : Nat := s.fr.health.countP (·.suspect)

/-- Command channels in FAULT. -/
def State.faultChannels (s : State) : Nat := s.ccu.records.countP (·.fault)

/-- Table 11-7, words 11 to 22, for one section. -/
def sourceWord (s : State) (sec : Nat) : Word :=
  match s.sectionAt sec with
  | some c => natWord c.trk.source.code
  | none => 0

/-- Table 11-7, with the events and reply items waiting given. -/
def State.statusWords (s : State) (events replies : Nat) : List Word :=
  [s.mu.mode.word, s.fr.state.word, natWord s.pairState.code, natWord s.markCount, natWord s.freeCount
   , natWord s.op.queue.length, blockWord s.op.block, natWord s.suspects, natWord s.faultChannels
   , natWord events, natWord replies] ++ (List.range 12).map (sourceWord s)

end Sys2Proof.Machine
end

