-- ==== Sys2Proof/Machine/CutPlan.lean ====
section
/-! DEFINITION. Machine/CutPlan.lean: the cut-plan arithmetic (08, R130 to R133) that planning and projection
share, and the counts and the planning point of R129. Positions are taken as signed distances from the cut at
c, so the stretch of a piece is 1 to its length. -/

namespace Sys2Proof.Machine

/-! ### Counts and the planning point (R129) -/

/-- GOOD pieces of an order ended by an entry of a plan. -/
def plannedGood (plan : List CutEntry) (k : OrderKey) : Nat := plan.countP (fun e => e.good && e.order == some k)

/-- GOOD pieces of an order in the piece list. -/
def State.heldGood (s : State) (k : OrderKey) : Nat := s.cp.pieces.countP (fun p => p.good && p.order == some k)

/-- Good in hand. -/
def State.goodInHand (s : State) (k : OrderKey) : Nat := plannedGood s.cp.plan k + s.heldGood k

/-- Good sent. -/
def State.goodSent (s : State) (k : OrderKey) : Nat :=
  plannedGood (s.cp.plan.filter (·.sent.isSome)) k + s.heldGood k

/-- The planning point: the target of the last entry, otherwise the plan base. -/
def State.planningPoint (s : State) : Option Word :=
  match s.cp.plan.getLast? with
  | some e => some e.target
  | none => s.cp.base

/-! ### The context of a piece (R130) -/

/-- A forced span as signed distances from c: a zone span, or a gap span. -/
structure Forced where
  front : Int
  rear : Int
  zone : Bool
  deriving DecidableEq, Repr

/-- A forced span shares a position with the stretch given. -/
def Forced.touches (f : Forced) (lo hi : Int) : Bool := f.front ≤ hi && lo ≤ f.rear

/-- The BOUNDARY mark of a reference is present with pattern change yes. -/
def State.changesPattern (s : State) (b : BoundaryRef) : Bool :=
  match s.findMark b.slot b.serial with
  | some m => m.kind == .boundary && m.patternChange
  | none => false

/-- The committed order at c: its start is level with or behind c, its end absent or ahead of c. -/
def orderCutAt (queue : List Order) (c : Word) : Option Order :=
  queue.find? (fun o =>
    match o.start with
    | none => false
    | some b =>
      decide (0 ≤ sdist b.pos c) &&
        match o.fin with
        | none => true
        | some f => decide (0 < sdist c f.pos))

/-- The start boundary of the first committed order that starts ahead of c. -/
def nextStart (queue : List Order) (c : Word) : Option BoundaryRef :=
  queue.findSome? (fun o => o.start.filter (fun b => decide (0 < sdist c b.pos)))

/-- R128: scrap_len, not below min_piece. -/
def CutPlanner.scrapLength (p : CutPlanner) : Nat := max p.scrapLen p.minPiece

/-- The settled context of a cut at c. -/
structure CutContext where
  order : Option Order
  length : Int
  short : Bool
  bound : Option BoundaryRef
  boundDist : Option Int
  forced : List Forced
  deriving DecidableEq, Repr

/-- The gap span of a boundary, when its mark is present with pattern change yes. -/
def gapSpan (s : State) (c : Word) (b : BoundaryRef) : List Forced :=
  if s.changesPattern b then [⟨sdist c b.pos + 1, sdist c b.pos + s.cp.swapGap, false⟩] else []

/-- The zone spans of the BOARD list. -/
def zoneSpans (s : State) (c : Word) : List Forced :=
  (s.boardMarks.filter Mark.hasZone).map (fun m => ⟨sdist c m.front, sdist c m.rear, true⟩)

/-- R130. -/
def cutContext (s : State) (c : Word) : CutContext :=
  let o := orderCutAt s.op.queue c
  let b := match o with
    | some o => o.fin
    | none => nextStart s.op.queue c
  let len := match o with
    | some o => if o.length < s.cp.minPiece then s.cp.minPiece else o.length
    | none => s.cp.scrapLength
  { order := o, length := len
    short := match o with
      | some o => decide (o.length < s.cp.minPiece)
      | none => false
    bound := b, boundDist := b.map (fun b => sdist c b.pos)
    forced := zoneSpans s c ++
      match o.bind (·.start) with
      | some st => gapSpan s c st
      | none => [] }

/-! ### Forced cuts (R131) -/

/-- The greatest rear of some spans, at least `start`. -/
def farthest (start : Int) (fs : List Forced) : Int := fs.foldl (fun a f => max a f.rear) start

/-- R131 step 2: extend over spans that reach beyond; the flag says whether a zone was among those found.
Each round reaches the rear of a further span, so as many rounds as spans suffice. -/
def extendForced (fs : List Forced) : Nat → Int → Bool → Int × Bool
  | 0, e, z => (e, z)
  | fuel + 1, e, z =>
    match fs.filter (fun f => f.touches 1 e && decide (e < f.rear)) with
    | [] => (e, z)
    | more => extendForced fs fuel (farthest e more) (z || more.any (·.zone))

/-- R131: the forced cut for the stretch 1 to `reach`, when a span touches it: distance and cause. -/
def forcedCut (minPiece : Nat) (fs : List Forced) (reach : Int) : Option (Int × PieceCause) :=
  match fs.filter (fun f => f.touches 1 reach) with
  | [] => none
  | hit =>
    let r := extendForced fs fs.length (farthest 0 hit) (hit.any (·.zone))
    let d := max r.1 (minPiece : Int)
    if (Config.maxPiece : Int) < d then some (Config.maxPiece, .range)
    else some (d, if r.2 then .zone else .gap)

/-! ### One application (R130 to R133) -/

/-- A cut found: the entry, not yet SENT, and whether it is the RANGE piece of a short order (R130). -/
structure FoundCut where
  entry : CutEntry
  shortPiece : Bool
  deriving DecidableEq, Repr

/-- R132: the end of the order when the ordinary end lies beyond B and no forced span touches the reach. The
cause of a joined tail and gap is R131's: ZONE where a zone is among the spans found (log 82). The last piece of board
without an order that ends at a start boundary is a TAIL like any other (log 94). -/
def tailCut (s : State) (x : CutContext) (b : BoundaryRef) (d : Int) (c : Word) : Int × PieceCause :=
  if (s.cp.minPiece : Int) ≤ d then (d, .tail)
  else if s.changesPattern b then
    (forcedCut s.cp.minPiece (x.forced ++ gapSpan s c b) (d + s.cp.swapGap)).getD (d + s.cp.swapGap, .gap)
  else (s.cp.minPiece, .tail)

/-- The piece count already found by a run and not yet in the plan. -/
def foundCount (found : List (OrderKey × Nat)) (k : OrderKey) : Nat :=
  ((found.find? (fun f => f.1 == k)).map (·.2)).getD 0

/-- One more found. -/
def noteFound (k : OrderKey) : List (OrderKey × Nat) → List (OrderKey × Nat)
  | [] => [(k, 1)]
  | (k', n) :: rest => if k' == k then (k', n + 1) :: rest else (k', n) :: noteFound k rest

/-- R133: the cut at the ordinary end. -/
def ordinaryCut (s : State) (found : List (OrderKey × Nat)) (x : CutContext) (target : Word) : FoundCut :=
  match x.order with
  | none => ⟨⟨target, false, some .noOrder, none, none⟩, false⟩
  | some o =>
    if x.short then ⟨⟨target, false, some .range, some o.key, none⟩, true⟩
    else if o.good + s.goodInHand o.key + foundCount found o.key < o.cuts + o.overrun then
      ⟨⟨target, true, none, some o.key, none⟩, false⟩
    else ⟨⟨target, false, some (if o.sheets = 0 then .cancelled else .overrun), some o.key, none⟩, false⟩

/-- R130 to R133: the cut after the one at c. -/
def nextCut (s : State) (found : List (OrderKey × Nat)) (c : Word) : FoundCut :=
  let x := cutContext s c
  let scrap (r : Int × PieceCause) : FoundCut :=
    ⟨⟨shiftBy c r.1, false, some r.2, x.order.map (·.key), none⟩, false⟩
  let reach := match x.boundDist with
    | some d => if d < x.length then d else x.length
    | none => x.length
  match forcedCut s.cp.minPiece x.forced reach with
  | some r => scrap r
  | none =>
    match x.bound, x.boundDist with
    | some b, some d =>
      if d < x.length then scrap (tailCut s x b d c) else ordinaryCut s found x (shiftBy c x.length)
    | _, _ => ordinaryCut s found x (shiftBy c x.length)

end Sys2Proof.Machine
end

