-- ==== Sys2Proof/Machine/Stack.lean ====
section
/-! DEFINITION. Machine/Stack.lean: the Stack and Gate Unit (09): gate decisions, tallies, drops, lane
selection and the close of an order. -/

namespace Sys2Proof.Machine

/-! ### The gate decision (R144, R146) -/

/-- The material a piece holds: leading edge + 1 to trailing edge (08, R129). -/
def Piece.span (p : Piece) : Span := ⟨p.lead + 1, p.trail⟩

/-- The first three conditions of R144. -/
def pieceFault (s : State) (p : Piece) : Option DivertReason :=
  if !p.good then some .scrap
  else if p.cutFault then some .cutFault
  else if !(s.boardOverlap p.span).isEmpty then some .zone
  else none

/-- The last condition of R144. -/
def stackerReady (s : State) : Bool :=
  (match s.sg.channel with
    | some ch => pendingEmpty ch s
    | none => true) &&
  match s.sg.slot with
  | some k => s.fresh k && s.slotValue k == 1
  | none => true

/-- R144: the route of a piece, the first failing condition giving the reason. -/
def routeOf (s : State) (p : Piece) : Route :=
  match pieceFault s p with
  | some r => .divert r
  | none =>
    match p.order.bind s.orderAt with
    | none => .divert .noLane
    | some o =>
      if o.lane = 0 then .divert .noLane else if stackerReady s then .pass else .divert .stackerBehind

/-- R144: LANE_MISSING, once per order. -/
def noteLaneMissing (p : Piece) (r : Route) (s : State) : State :=
  match p.order.bind s.orderAt with
  | some o =>
    if r == .divert .noLane && o.lane == 0 && s.sg.laneMissing != some o.key then
      (raise .laneMissing o.key.number p.lead (natWord o.key.part) s).withSg { s.sg with laneMissing := some o.key }
    else s
  | none => s

/-- The gate value of a route. -/
def Route.gate : Route → Gate
  | .pass => .pass
  | .divert _ => .divert

/-- R146: publish a route that differs from the last published value. -/
def publishRoute (r : Route) (s : State) : State :=
  if s.sg.published = some r.gate then s
  else publishGate r.gate (s.withSg { s.sg with published := some r.gate })

/-- R144 and R146: decide one piece. -/
def decidePiece (p : Piece) (s : State) : State × Route :=
  let r := routeOf s p
  (publishRoute r (noteLaneMissing p r s), r)

/-- Write a route into the piece at a place of the list. -/
def setRoute (i : Nat) (r : Route) (s : State) : State :=
  match s.cp.pieces[i]? with
  | some p => s.withCp { s.cp with pieces := s.cp.pieces.set i { p with route := some r } }
  | none => s

/-- A leading edge is due: at most gate_lead ahead of the material at the gate. -/
def gateDue (s : State) (lead : Word) : Bool :=
  match s.materialAt .gate with
  | some m => sdist m lead ≤ s.sg.gateLead
  | none => false

/-- R140: the piece not yet formed. -/
def foreseenPiece (s : State) : Option Piece :=
  match s.cp.lastCut, s.cp.plan.head? with
  | some c, some e =>
    some { lead := c, trail := e.target, good := e.good, cause := e.cause, order := e.order
           cutFault := s.cp.frontFault, route := none, tallied := false }
  | _, _ => none

/-- R144: decide the piece not yet formed, when every piece of the list is decided. -/
def decideForeseen (s : State) : State :=
  match foreseenPiece s with
  | some p =>
    if s.cp.pieces.all (·.route.isSome) && gateDue s p.lead && (s.sg.forward.map (·.lead)) != some p.lead then
      let d := decidePiece p s
      d.1.withSg { d.1.sg with forward := some ⟨p.lead, d.2⟩ }
    else s
  | none => s

/-- R144: the decisions of one BOARD track update. -/
def gateDecisions (s : State) : State :=
  decideForeseen ((List.range s.cp.pieces.length).foldl
    (fun s i =>
      match s.cp.pieces[i]? with
      | some p =>
        if p.route.isNone && gateDue s p.lead then
          let d := decidePiece p s
          setRoute i d.2 d.1
        else s
      | none => s)
    s)

/-! ### A piece formed (R145) -/

/-- R145: a forward PASS that the formed piece no longer merits is withdrawn before the gate. -/
def withdrawCheck (p : Piece) (s : State) : State × Piece :=
  if p.route = some .pass then
    match pieceFault s p, s.materialAt .gate with
    | some r, some m =>
      if 0 < sdist m p.lead then
        let n := match p.order with
          | some k => k.number
          | none => 0
        (publishRoute (.divert r) (raise .gateWithdrawn n p.lead (natWord r.code) s),
         { p with route := some (.divert r) })
      else (s, p)
    | _, _ => (s, p)
  else (s, p)

/-- R140, R145: a formed piece is appended to the piece list, with the forward route when it is for its
leading edge. -/
def admitPiece (p : Piece) (s : State) : State :=
  let route := (s.sg.forward.filter (·.lead == p.lead)).map (·.route)
  let r := withdrawCheck { p with route := route } (s.withSg { s.sg with forward := none })
  r.1.withCp { r.1.cp with pieces := r.1.cp.pieces ++ [r.2] }

/-! ### Stacks (R147, R148) -/

/-- R147, R150: a stack made due whatever the stack count. -/
def dueAtOnce (k : OrderKey) (n : Nat) (s : State) : State :=
  match s.sg.owed with
  | none => s.withSg { s.sg with owed := some ⟨k, n⟩ }
  | some d =>
    if d.order = k then s.withSg { s.sg with owed := some ⟨k, d.count + n⟩ }
    else s.withSg { s.sg with closeDrop := some ⟨k, n⟩ }

/-- R148: the stack due check. A stack of the order a drop is owed for is added to it; a stack of another
order waits. It is made when a PASS piece is counted and at each BOARD track update, so a stack that an ORDER_EDIT of
the stack count makes due is found there and not at the edit (log 106, DESIGN CHOICE). -/
def stackDue (s : State) : State :=
  match s.sg.run.order with
  | none => s
  | some k =>
    match s.orderAt k with
    | none => s
    | some o =>
      let waits := match s.sg.owed with
        | some d => d.order != k
        | none => false
      if s.sg.run.count ≥ o.stackCount && !waits then
        let s := dueAtOnce k s.sg.run.count s
        s.withSg { s.sg with run := ⟨some k, 0⟩ }
      else s

/-- R147: one more PASS piece on the stack run. -/
def stackPiece (k : OrderKey) (s : State) : State :=
  if s.sg.run.order = some k then s.withSg { s.sg with run := ⟨some k, s.sg.run.count + 1⟩ }
  else
    let s := match s.sg.run.order with
      | some old => if 0 < s.sg.run.count then dueAtOnce old s.sg.run.count s else s
      | none => s
    s.withSg { s.sg with run := ⟨some k, 1⟩ }

/-- Table 9-3: the count a diverted piece raises. A GOOD piece diverted with reason SCRAP has no row there and raises
none (log 114, DESIGN CHOICE). -/
def Breakdown.note (b : Breakdown) (p : Piece) (r : DivertReason) : Breakdown :=
  if p.good then
    match r with
    | .zone => { b with gateZone := fitTally (b.gateZone + 1) }
    | .cutFault => { b with cutFault := fitTally (b.cutFault + 1) }
    | .noLane => { b with noLane := fitTally (b.noLane + 1) }
    | .stackerBehind => { b with stackerBehind := fitTally (b.stackerBehind + 1) }
    | .scrap => b
  else
    match p.cause with
    | some .zone => { b with zone := fitTally (b.zone + 1) }
    | some .tail => { b with tail := fitTally (b.tail + 1) }
    | some .gap => { b with gap := fitTally (b.gap + 1) }
    | some .overrun => { b with overrun := fitTally (b.overrun + 1) }
    | some .cancelled => { b with cancelled := fitTally (b.cancelled + 1) }
    | some .range => { b with range := fitTally (b.range + 1) }
    | _ => b

/-- R147: count a piece taken, then look whether a stack is due. -/
def countPiece (p : Piece) (r : Route) (s : State) : State :=
  match p.order.bind s.orderAt with
  | none => s.withSg { s.sg with unassigned := bump Config.tallyLimit s.sg.unassigned }
  | some o =>
    match r with
    | .pass =>
      stackDue (stackPiece o.key (s.adjustOrder o.key (fun o => { o with good := fitTally (o.good + 1) })))
    | .divert d =>
      s.adjustOrder o.key (fun o =>
        { o with scrap := fitTally (o.scrap + 1), breakdown := o.breakdown.note p d })

/-- R147: take the pieces whose trailing edge has passed the stacker. -/
def takePieces : Nat → State → State
  | 0, s => s
  | fuel + 1, s =>
    match s.cp.pieces, s.materialAt .stacker with
    | p :: rest, some m =>
      if 0 ≤ sdist p.trail m then
        let d := match p.route with
          | some r => (s, r)
          | none => decidePiece p s
        let s := d.1.withCp { d.1.cp with pieces := rest }
        takePieces fuel (if p.tallied then s else countPiece p d.2 s)
      else s
    | _, _ => s

/-- R148: issue the owed drop. One that is not taken stays owed, also when its count is beyond the range of R72
(log 95). -/
def issueDrop (s : State) : State × Bool :=
  match s.sg.owed, s.sg.channel with
  | some d, some ch =>
    let r := issueCommand ch .stackDrop [natWord d.count] none s
    match r.2 with
    | some t =>
      let s := r.1.adjustOrder d.order (fun o => { o with dropped := fitTally (o.dropped + 1) })
      (s.withSg { s.sg with
        owed := s.sg.closeDrop, closeDrop := none
        cmds := s.sg.cmds ++ [⟨t.tag, .stackDrop, d.order, d.count⟩] }, true)
    | none => (r.1, false)
  | _, _ => (s, false)

/-- R148: issue DROP while a drop is owed and taken. A channel takes at most two commands. -/
def dropStep : Nat → State → State
  | 0, s => s
  | fuel + 1, s =>
    let r := issueDrop s
    if r.2 then dropStep fuel (stackDue r.1) else r.1

/-- The drops of one event. -/
def issueDrops (s : State) : State := dropStep 4 s

/-! ### The lane (R149) -/

/-- R149: the committed order within lane_lead whose start is the farthest upstream; of equal starts the one
later in the queue (log 50). -/
def laneOrder (s : State) (m : Word) : Option Order :=
  let near := s.op.queue.filterMap (fun o =>
    match o.start with
    | some b => if sdist m b.pos ≤ s.sg.laneLead then some (o, sdist m b.pos) else none
    | none => none)
  (near.foldl
    (fun best x =>
      match best with
      | none => some x
      | some b => if b.2 ≤ x.2 then some x else best)
    none).map (·.1)

/-- R149: issue LANE when the lane order's lane is not the last one sent. An order that a shorter lane_lead makes the
lane order again has its LANE issued again (R143; log 123, DESIGN CHOICE). -/
def laneStep (s : State) : State :=
  match s.materialAt .stacker, s.sg.channel with
  | some m, some ch =>
    match laneOrder s m with
    | some o =>
      if o.lane != 0 && s.sg.laneSent != some ⟨o.key, o.lane⟩ then
        let r := issueCommand ch .lane [natWord o.lane] none s
        match r.2 with
        | some t =>
          r.1.withSg { r.1.sg with
            laneSent := some ⟨o.key, o.lane⟩, cmds := r.1.sg.cmds ++ [⟨t.tag, .lane, o.key, o.lane⟩] }
        | none => r.1
      else s
    | none => s
  | _, _ => s

/-! ### Closing an order (R150) -/

/-- R150 step 1: the route of a piece still undecided at the close, as if its order had left the queue. -/
def closingRoute (s : State) (p : Piece) : Route :=
  match pieceFault s p with
  | some r => .divert r
  | none => .divert .noLane

/-- R150 step 1: tally the pieces of the order that are still in the list. -/
def tallyRest (k : OrderKey) (s : State) : State :=
  (List.range s.cp.pieces.length).foldl
    (fun s i =>
      match s.cp.pieces[i]? with
      | some p =>
        if p.order = some k && !p.tallied then
          let d := match p.route with
            | some r => (s, r)
            | none => (publishRoute (closingRoute s p) s, closingRoute s p)
          let s := d.1.withCp { d.1.cp with
            pieces := d.1.cp.pieces.set i { p with route := some d.2, tallied := true } }
          countPiece p d.2 s
        else s
      | none => s)
    s

/-- R150 step 2: the last stack, if there is one, is due at once, and its DROP is tried now as well as at the end of
the update (log 97). A run of count 0 issues nothing and is cleared all the same (log 96). -/
def closeRun (k : OrderKey) (s : State) : State :=
  if s.sg.run.order = some k then
    let cleared := s.withSg { s.sg with run := ⟨none, 0⟩ }
    if 0 < s.sg.run.count then issueDrops (dueAtOnce k s.sg.run.count cleared) else cleared
  else s

/-- Table 9-4. -/
def completionOf (o : Order) (s : State) : Completion :=
  let held (d : Option OwedDrop) : Bool := (d.map (·.order)) == some o.key
  { key := o.key, cancelled := o.cancelled, split := o.split
    boundary := match o.fin with
      | some b => b.pos
      | none => 0
    good := o.good
    sheets := o.good * match s.patternAt o.pattern with
      | some p => p.outs
      | none => 0
    scrap := o.scrap, breakdown := o.breakdown
    dropped := o.dropped + (if held s.sg.owed || held s.sg.closeDrop then 1 else 0)
    short := o.cuts - o.good, excess := o.good - o.cuts, cycle := s.fr.cycle }

/-- The 8 most recent closes, newest last. -/
def pushHistory (c : Completion) (h : List Completion) : List Completion :=
  if h.length < Config.historyCapacity then h ++ [c] else h.tail ++ [c]

/-- R150 steps 3 and 4 for the order as it then stands. -/
def recordClose (o : Order) (s : State) : State :=
  let c := completionOf o s
  let s := s.withOp { s.op with
    history := pushHistory c s.op.history, queue := s.op.queue.filter (fun x => x.key != o.key) }
  let s := raise .orderDone o.key.number c.boundary (natWord o.good) s
  s.withSg { s.sg with
    laneMissing := if s.sg.laneMissing = some o.key then none else s.sg.laneMissing
    laneSent := s.sg.laneSent.filter (fun l => l.order != o.key) }

/-- R150: close an order that OP has moved to DONE or CANCELLED. -/
def closeOrder (k : OrderKey) (s : State) : State :=
  match s.orderAt k with
  | none => s
  | some _ =>
    let s := closeRun k (tallyRest k s)
    match s.orderAt k with
    | some o => recordClose o s
    | none => s

/-! ### Outcomes (R148, R149) -/

/-- The failure of a stacker command; the number is R148's outcome number. -/
def stackerFailed (c : StackerCommand) (n : Nat) (lane : Word) (s : State) : State :=
  if c.verb = .lane then
    raise .laneFailed c.order.number (natWord c.tag.toNat) (natWord (c.arg + 256 * lane.toNat)) s
  else raise .dropFailed c.order.number (natWord c.tag.toNat) (natWord (c.arg + 1048576 * n)) s

/-- The record of a stacker command is removed. -/
def dropRecord (tag : Half) (s : State) : State :=
  s.withSg { s.sg with cmds := s.sg.cmds.filter (·.tag != tag) }

/-- The end of the command with a tag, when SG holds it. -/
def endStacker (tag : Half) (react : StackerCommand → State → State) (s : State) : State :=
  match s.sg.cmds.find? (·.tag == tag) with
  | some c => react c (dropRecord tag s)
  | none => s

/-- R148, R149: SG is told of a stacker command; after an outcome the owed drop is tried again. UNSOLICITED
is ignored. COMPLETE's word is held against the lane of the ended command (log 87), and no word is lane 0 (log 86). -/
def stackerTold (t : Told) (s : State) : State :=
  match t with
  | .accepted _ => issueDrops s
  | .complete tag _ _ first =>
    issueDrops (endStacker tag
      (fun c s =>
        let lane := first.getD 0
        if c.verb = .lane ∧ lane ≠ natWord c.arg then stackerFailed c 0 lane s else s) s)
  | .refused tag _ => issueDrops (endStacker tag (fun c s => stackerFailed c 1 0 s) s)
  | .timeout tag => issueDrops (endStacker tag (fun c s => stackerFailed c 2 0 s) s)
  | .aborted tag => issueDrops (endStacker tag (fun c s => stackerFailed c 3 0 s) s)
  | .missed tag => issueDrops (endStacker tag (fun c s => stackerFailed c 3 0 s) s)
  | .superseded _ => s
  | .cancelled _ => s
  | .gone _ => s
  | .unsolicited _ _ _ => s

/-! ### Entry into RUN (R151) -/

/-- A channel still holds a tag, in its outstanding list or its pending slot. -/
def channelHolds (ch : Option Nat) (tag : Half) (s : State) : Bool :=
  match ch.bind s.channelAt with
  | some c => c.outstanding.any (·.tag == tag) || (c.pend.map (·.tag)) == some tag
  | none => false

/-- R151. -/
def stackEnterRun (s : State) : State :=
  let s := s.withSg { s.sg with published := none, forward := none, laneSent := none }
  s.sg.cmds.foldl
    (fun s c =>
      if channelHolds s.sg.channel c.tag s then s
      else
        let s := dropRecord c.tag s
        if c.verb = .lane then s else stackerFailed c 3 0 s)
    s

end Sys2Proof.Machine
end

