-- ==== Sys2Proof/Machine/Knife.lean ====
section
/-! DEFINITION. Machine/Knife.lean: the Cut Planner (08, R134 to R141): planning, re-planning, the feed of the
knife channel, completions and misses. -/

namespace Sys2Proof.Machine

/-! ### Planning (R134) -/

/-- R130: SHEET_RANGE, once per order, when CP plans the RANGE piece of a short order. -/
def noteSheetRange (c : Word) (f : FoundCut) (s : State) : State :=
  match f.shortPiece, f.entry.order with
  | true, some k =>
    if s.cp.rangeOrder = some k then s
    else
      let s := raise .sheetRange k.number c (natWord k.part) s
      s.withCp { s.cp with rangeOrder := some k }
  | _, _ => s

/-- R134: append cuts while the plan has room and the planning point is within the horizon. -/
def planCuts : Nat → State → State
  | 0, s => s
  | fuel + 1, s =>
    match s.planningPoint, s.materialAt .knife with
    | some x, some m =>
      if s.cp.plan.length < Config.planCapacity ∧ sdist m x ≤ s.cp.horizon then
        let f := nextCut s [] x
        let s := noteSheetRange x f s
        planCuts fuel (s.withCp { s.cp with plan := s.cp.plan ++ [f.entry] })
      else s
    | _, _ => s

/-- R134: an empty plan whose base is unset or behind the material at the knife starts there, faulted. -/
def settleBase (s : State) : State :=
  match s.materialAt .knife with
  | none => s
  | some m =>
    let behind := match s.cp.base with
      | none => true
      | some b => decide (0 < sdist b m)
    if s.cp.plan.isEmpty && behind then s.withCp { s.cp with base := some m, frontFault := true } else s

/-! ### The feed (R137) -/

/-- R137: the knife channel holds fewer than its depth plus 1 commands. -/
def knifeRoom (ch : Nat) (s : State) : Bool :=
  match s.channelAt ch with
  | some c => c.outstanding.length + (if c.pend.isSome then 1 else 0) < c.depth + 1
  | none => false

/-- The place of the oldest PLANNED entry. -/
def firstPlanned (plan : List CutEntry) : Option Nat :=
  firstIndex plan.length (fun i => (plan[i]?).any (·.sent.isNone))

/-- R137: issue CUT_AT for the oldest PLANNED entry while there is room. A channel takes at most three. -/
def feedKnife : Nat → State → State
  | 0, s => s
  | fuel + 1, s =>
    match s.cp.knife, s.boardIndex, firstPlanned s.cp.plan with
    | some ch, some b, some i =>
      match s.cp.plan[i]? with
      | none => s
      | some e =>
        if knifeRoom ch s then
          let r := issueCommand ch .cutAt [e.target] (some ⟨b, s.cp.role⟩) s
          match r.2 with
          | some t =>
            feedKnife fuel (r.1.withCp { r.1.cp with plan := r.1.cp.plan.set i { e with sent := some t.tag } })
          | none => r.1
        else s
    | _, _, _ => s

/-- The feed check of one event. -/
def feedCheck (s : State) : State := feedKnife 4 s

/-- R134: plan, then make the feed check; only in RUN (R141). -/
def planAndFeed (s : State) : State :=
  if s.running then feedCheck (planCuts (Config.planCapacity + 1) (settleBase s)) else s

/-! ### Re-planning (R135, R136) -/

/-- Keep the first entries of the plan and plan again. -/
def replanFrom (i : Nat) (s : State) : State :=
  planAndFeed (s.withCp { s.cp with plan := s.cp.plan.take i })

/-- The piece an entry of the plan ends: from the entry before it, or the plan base, + 1 to its target. -/
def entrySpan (p : CutPlanner) (i : Nat) (e : CutEntry) : Span :=
  let before := match i with
    | 0 => p.base.getD e.target
    | j + 1 => ((p.plan[j]?).map (·.target)).getD e.target
  ⟨before + 1, e.target⟩

/-- R135: a board map change re-plans from the first PLANNED entry whose piece it touches. -/
def replanForChange (sp : Span) (s : State) : State :=
  match firstIndex s.cp.plan.length (fun i =>
      (s.cp.plan[i]?).any (fun e => e.sent.isNone && (entrySpan s.cp i e).meets sp)) with
  | some i => if s.running then replanFrom i s else s
  | none => s

/-- R136: an order's quantities changed. -/
def replanForOrder (k : OrderKey) (s : State) : State :=
  match firstIndex s.cp.plan.length (fun i => (s.cp.plan[i]?).any (fun e => e.sent.isNone && e.order == some k)) with
  | some i => if s.running then replanFrom i s else s
  | none => s

/-- R136: a group 1 write in RUN discards every PLANNED entry. -/
def replanAll (s : State) : State :=
  if s.running then planAndFeed (s.withCp { s.cp with plan := s.cp.plan.filter (·.sent.isSome) }) else s

/-! ### Misses (R139) -/

/-- The number a CUT_OFF_TOL or CUT_MISSED names an entry by: its tag, 0 for a PLANNED entry. -/
def CutEntry.tagWord (e : CutEntry) : Word :=
  match e.sent with
  | some t => natWord t.toNat
  | none => 0

/-- R139: the head entry is taken as missed. -/
def missHead (value : Int) (s : State) : State :=
  match s.cp.plan with
  | [] => s
  | e :: rest =>
    raise .cutMissed e.tagWord e.target (wordOf value)
      (s.withCp { s.cp with plan := rest, base := some e.target, frontFault := true })

/-- The entries ahead of a place are taken as missed, oldest first, with value word 1. CP plans after the last of
them (log 83). -/
def missAhead : Nat → State → State
  | 0, s => s
  | n + 1, s => missAhead n (missHead 1 s)

/-- The place of the SENT entry with a tag. -/
def sentPlace (tag : Half) (plan : List CutEntry) : Option Nat :=
  firstIndex plan.length (fun i => (plan[i]?).any (fun e => e.sent == some tag))

/-- R139, cases 1 to 4: an outcome for a tag takes its entry as missed, with those ahead of it. -/
def cutFailed (tag : Half) (value : Int) (s : State) : State :=
  match sentPlace tag s.cp.plan with
  | some i => planAndFeed (missHead value (missAhead i s))
  | none => feedCheck s

/-- R139: CP cancels a tag the channel still holds. -/
def cancelCut (tag : Half) (s : State) : State :=
  match s.cp.knife with
  | some ch => if channelHolds (some ch) tag s then cancelOwn ch tag s else s
  | none => s

/-- R139, case 5 and 6: the distance check, repeated down the plan before CP plans again (log 83). -/
def distanceCheck : Nat → State → State
  | 0, s => s
  | fuel + 1, s =>
    match s.cp.plan, s.materialAt .knife with
    | e :: _, some m =>
      if (s.cp.missDist : Int) ≤ sdist e.target m then
        distanceCheck fuel (match e.sent with
          | some t => cancelCut t (missHead 5 s)
          | none => missHead 6 s)
      else s
    | _, _ => s

/-! ### Completions (R138) -/

/-- R138: a cut made at `a` for the head entry. -/
def cutMade (e : CutEntry) (a : Word) (s : State) : State :=
  let dev := sdist e.target a
  let off := decide (s.cp.cutTol < dev.natAbs)
  let last := (s.cp.lastCut <|> s.cp.base).getD a
  let forms := decide ((s.cp.minPiece : Int) ≤ sdist last a)
  let s :=
    if forms then
      let s := admitPiece
        { lead := last, trail := a, good := e.good, cause := e.cause, order := e.order
          cutFault := s.cp.frontFault || off, route := none, tallied := false } s
      s.withCp { s.cp with lastCut := some a, frontFault := off }
    else s.withCp { s.cp with lastCut := s.cp.lastCut <|> s.cp.base, frontFault := true }
  let s := if off || !forms then raise .cutOffTol e.tagWord a (wordOf dev) s else s
  s.withCp { s.cp with plan := s.cp.plan.tail, base := some e.target }

/-- R138: COMPLETE for a tag. -/
def cutComplete (tag : Half) (first : Option Word) (s : State) : State :=
  match sentPlace tag s.cp.plan, s.boardIndex with
  | some i, some b =>
    let s := missAhead i s
    match s.cp.plan with
    | e :: _ =>
      let a := match first with
        | some w => toTrack s ⟨b, s.cp.role⟩ w
        | none => e.target
      planAndFeed (cutMade e a s)
    | [] => s
  | _, _ => feedCheck s

/-- R137 to R139: CP is told of a knife command. Answers for tags it does not hold leave the plan. -/
def knifeTold (t : Told) (s : State) : State :=
  match t with
  | .accepted _ => feedCheck s
  | .complete tag _ _ first => cutComplete tag first s
  | .missed tag => cutFailed tag 1 s
  | .refused tag reason => cutFailed tag (2 + 256 * (reason.toNat : Int)) s
  | .timeout tag => cutFailed tag 3 s
  | .aborted tag => cutFailed tag 4 s
  | .superseded tag => cutFailed tag 4 s
  | .cancelled _ => s
  | .gone _ => s
  | .unsolicited _ _ _ => s

/-! ### Updates and entry into RUN (R134, R137, R139, R141) -/

/-- What CP does at a BOARD track update: the distance check, then planning and the feed check (log 84). -/
def knifeUpdate (s : State) : State := planAndFeed (distanceCheck (Config.planCapacity + 1) s)

/-- R141 step 2 for one SENT entry whose tag the channel no longer holds. One that is not the head leaves its place,
and the plan base stays (log 85). -/
def lostCut (e : CutEntry) (s : State) : State :=
  if (s.cp.plan.head?) = some e then missHead 7 s
  else
    raise .cutMissed e.tagWord e.target 7
      (s.withCp { s.cp with plan := s.cp.plan.filter (fun x => x.sent != e.sent), frontFault := true })

/-- R141. -/
def knifeEnterRun (s : State) : State :=
  let s := s.withCp { s.cp with plan := s.cp.plan.filter (·.sent.isSome) }
  let s := s.cp.plan.foldl
    (fun s e =>
      match e.sent with
      | some t => if channelHolds s.cp.knife t s then s else lostCut e s
      | none => s)
    s
  let s := s.withCp { s.cp with frontFault := true, lastCut := s.cp.lastCut <|> s.materialAt .knife }
  planAndFeed s

end Sys2Proof.Machine
end

