-- ==== Sys2Proof/Machine/Setpoint.lean ====
section
/-! DEFINITION. Machine/Setpoint.lean: the Setpoint Scheduler (10): curves, grade switches and the computation
of a generator's value. -/

namespace Sys2Proof.Machine

/-! ### Curves (R153) -/

/-- R153: the value of breakpoints at a speed: the first pair's value up to its speed, the last pair's beyond
its speed, the rounded straight line between. -/
def curveValue : List Breakpoint → Nat → Int
  | [], _ => 0
  | [b], _ => b.y
  | a :: b :: rest, v =>
    if v ≤ a.v then a.y
    else if v < b.v then a.y + roundDiv (((b.y : Int) - a.y) * ((v : Int) - a.v)) (b.v - a.v)
    else curveValue (b :: rest) v

/-! ### Switches (R155, R156) -/

/-- The material at a generator's point. -/
def generatorMaterial (g : Generator) (s : State) : Option Word :=
  (s.sectionAt g.cfg.sec).bind (fun c =>
    (c.cfg.points[g.cfg.point]?).map (fun p => shiftBy c.trk.count (-p.dist)))

/-- R156: the due heads of a pending list. -/
def dueSwitches (mat : Word) (lead : Nat) : List Switch → List Switch
  | [] => []
  | x :: rest => if sdist mat x.pos ≤ lead then x :: dueSwitches mat lead rest else []

/-- R156: take a number of heads into force. -/
def GenState.take (n : Nat) (x : GenState) : GenState :=
  match (x.pending.take n).getLast? with
  | some e => { x with inForce := some e.grade, pending := x.pending.drop n }
  | none => x

/-- R156: how many heads of a generator are due. While its section is HELD it takes none, at a commit and at
entry into RUN too: a section whose counter moves is no longer HELD (log 75). -/
def dueCount (g : Generator) (s : State) : Nat :=
  match generatorMaterial g s with
  | some m => if s.held g.cfg.sec then 0 else (dueSwitches m g.cfg.switchLead g.st.pending).length
  | none => 0

/-- R156: the switch check of one generator. -/
def switchCheck (i : Nat) (s : State) : State :=
  match s.generatorAt i with
  | some g => s.adjustGen i (GenState.take (dueCount g s))
  | none => s

/-- R155: where an entry enters a pending list: after the last entry whose signed distance to it is zero or
more, or at the head. -/
def insertSwitch (e : Switch) : List Switch → List Switch
  | [] => [e]
  | x :: xs =>
    if (x :: xs).any (fun y => 0 ≤ sdist y.pos e.pos) then x :: insertSwitch e xs else e :: x :: xs

/-- The place at which `insertSwitch` puts an entry. -/
def insertPlace (e : Switch) : List Switch → Nat
  | [] => 0
  | x :: xs => if (x :: xs).any (fun y => 0 ≤ sdist y.pos e.pos) then insertPlace e xs + 1 else 0

/-- R155: the switch position of a boundary for a section: B itself in BOARD, else its inverse carry. -/
def switchPosition (sec : Nat) (b : Word) (s : State) : State × Option Word :=
  match s.boardIndex with
  | none => (s, none)
  | some d =>
    match s.path sec d with
    | some links => inverseChain links.reverse b s
    | none => (s, none)

/-- R155: the last grade of a generator. -/
def GenState.lastGrade (x : GenState) : Option Nat :=
  match x.pending.getLast? with
  | some e => some e.grade
  | none => x.inForce

/-- R155: a full pending list takes its head into force, for a generator in a HELD section too (log 75). -/
def forceHead (i : Nat) (s : State) : State :=
  match s.generatorAt i with
  | none => s
  | some g =>
    match g.st.pending with
    | [] => s
    | h :: _ =>
      if Config.switchCapacity ≤ g.st.pending.length then
        raise .switchForced (natWord i) h.pos (natWord h.grade) (s.adjustGen i (GenState.take 1))
      else s

/-- R155 and R156 for one generator at a commit; answers the lateness of the entry when it is taken at once. -/
def placeSwitch (i : Nat) (b : Word) (grade : Nat) (s : State) : State × Option Int :=
  match s.generatorAt i with
  | none => (s, none)
  | some g =>
    if g.st.lastGrade = some grade then (s, none)
    else
      let r := switchPosition g.cfg.sec b s
      match r.2 with
      | none => (r.1, none)
      | some p =>
        let s := forceHead i r.1
        match s.generatorAt i with
        | none => (s, none)
        | some g =>
          let e : Switch := ⟨p, grade⟩
          let place := insertPlace e g.st.pending
          let s := s.adjustGen i (fun x => { x with pending := insertSwitch e x.pending })
          match s.generatorAt i, generatorMaterial g s with
          | some g, some m =>
            let n := dueCount g s
            (s.adjustGen i (GenState.take n), if place < n then some (sdist p m) else none)
          | _, _ => (s, none)

/-- R155, R156: a commit told to SS. -/
def placeSwitches (b : Word) (grade : Nat) (s : State) : State :=
  let r := (List.range 24).foldl
    (fun acc i =>
      let p := placeSwitch i b grade acc.1
      match p.2 with
      | some d => (p.1, acc.2.1 + 1, max acc.2.2 d)
      | none => (p.1, acc.2))
    (s, (0 : Nat), (0 : Int))
  if r.2.1 = 0 then r.1 else raise .switchLate (natWord r.2.1) b (wordOf r.2.2) r.1

/-- R156: the switch checks of a track update of a section, in RUN. -/
def setpointUpdate (sec : Nat) (s : State) : State :=
  (List.range 24).foldl
    (fun s i => if (s.generatorAt i).any (·.cfg.sec == sec) then switchCheck i s else s)
    s

/-! ### The computation (R157 to R160) -/

/-- The in-force grade's settings for a generator. -/
def gradeGen (i : Nat) (g : Generator) (s : State) : Option GradeGen :=
  (g.st.inForce.bind s.gradeAt).bind (fun x => x.gens[i]?)

/-- R159: the trim. -/
def trimOf (g : Generator) (x : GradeGen) (s : State) : Int :=
  let limit : Int := g.cfg.trimMax
  match x.trim, g.cfg.tempSlot with
  | true, some slot =>
    if s.fresh slot then
      clampInt (-limit) limit (roundDiv (g.cfg.gain * (x.target - (s.slotValue slot).toInt)) 256)
    else clampInt (-limit) limit g.st.lastTrim
  | _, _ => 0

/-- R160: the overlap query of the lift. -/
def liftsNow (g : Generator) (s : State) : Bool :=
  g.cfg.liftEnable &&
    match generatorMaterial g s with
    | some m => !(s.overlap g.cfg.sec ⟨m, shiftBy m g.cfg.liftLead⟩).isEmpty
    | none => false

/-- R160: the output from the raw value, and whether it is the lift value. -/
def outputOf (g : Generator) (raw : Int) (lift : Bool) : Nat × Bool :=
  let target := clampInt g.cfg.outMin g.cfg.outMax raw
  if lift then (g.cfg.liftValue, true)
  else
    match g.st.inLift, g.st.lastOutput with
    | false, some last =>
      ((last + clampInt (-(g.cfg.slew : Int)) g.cfg.slew (target - last)).toNat, false)
    | _, _ => (target.toNat, false)

/-- R158: no value, for a free curve with CURVE_ABSENT raised once per stretch. -/
def curveMissing (i curve : Nat) (g : Generator) (s : State) : State :=
  if g.st.curveAbsent then s
  else
    raise .curveAbsent (natWord i) (optGrade g.st.inForce) (natWord curve)
      (s.adjustGen i (fun x => { x with curveAbsent := true }))
where
  /-- The in-force grade as a position word. -/
  optGrade : Option Nat → Word
    | some n => natWord n
    | none => 0

/-- R157 to R160: a generator's value for a frame, none when it has none. -/
def generatorValue (i : Nat) (s : State) : State × Option Nat :=
  match s.generatorAt i with
  | none => (s, none)
  | some g =>
    match gradeGen i g s with
    | none => (s.adjustGen i (fun x => { x with curveAbsent := false }), none)
    | some x =>
      match x.curve with
      | none => (s.adjustGen i (fun x => { x with curveAbsent := false }), none)
      | some k =>
        match s.ss.curves[k]? with
        | none => (curveMissing i k g s, none)
        | some [] => (curveMissing i k g s, none)
        | some c =>
          let v := match s.sectionAt g.cfg.sec with
            | some q => q.trk.speed
            | none => 0
          let base := curveValue c v
          let trim := trimOf g x s
          let out := outputOf g (base + trim) (liftsNow g s)
          (s.adjustGen i (fun y =>
            { y with lastOutput := some out.1, inLift := out.2, lastTrim := trim, curveAbsent := false
                     lastBase := base.toNat, lastSpeed := v }), some out.1)

/-! ### Entry into RUN (R162) -/

/-- R162: the last output is clamped into the range, unless it is the lift value. -/
def GenState.clampOutput (cfg : GenCfg) (x : GenState) : GenState :=
  if x.inLift then x
  else { x with lastOutput := x.lastOutput.map (fun o => (clampInt cfg.outMin cfg.outMax o).toNat) }

/-- R162: the clamp of every generator, then the switch checks. -/
def setpointEnterRun (s : State) : State :=
  let s := (List.range 24).foldl
    (fun s i =>
      match s.generatorAt i with
      | some g => s.adjustGen i (GenState.clampOutput g.cfg)
      | none => s)
    s
  (List.range 24).foldl (fun s i => switchCheck i s) s

end Sys2Proof.Machine
end

