-- ==== Sys2Proof/Machine/Splice.lean ====
section
/-! DEFINITION. Machine/Splice.lean: the Splice Controller (06): the runout estimator, the plans of each kind,
their issue and outcomes, unsolicited splices and the splice count. -/

namespace Sys2Proof.Machine

/-! ### The estimator (R97 to R100) -/

/-- The web's track counter. -/
def webCount (w : Web) (s : State) : Word := s.count w.cfg.sec

/-- The role a splicer counts by. -/
def WebCfg.posRole (c : WebCfg) : PosRole := ⟨c.sec, c.role⟩

/-- R99: a splice completion starts a new reel. -/
def WebState.newReel (k0 : Nat) (cycle : Half) (x : WebState) : WebState :=
  { x with samples := [], k := k0, confidence := 0, reelKnown := false, holdCycle := some cycle }

/-- R98: the estimate from the oldest and the newest sample. -/
def estimateK (samples : List (Word × Nat)) : Option Nat :=
  match samples.head?, samples.getLast? with
  | some a, some b =>
    let dc := sdist a.1 b.1
    if samples.length < 2 ∨ dc ≤ 0 then none
    else some (clampInt 2048 65535 (65536 * dc / ((a.2 : Int) ^ 2 - (b.2 : Int) ^ 2))).toNat
  | _, _ => none

/-- R98: the estimate confirms K or replaces it. -/
def WebState.learn (tol : Nat) (x : WebState) : WebState :=
  match estimateK x.samples with
  | none => x
  | some e =>
    if ((e : Int) - x.k).natAbs ≤ x.k * tol / 256 then { x with confidence := min 3 (x.confidence + 1) }
    else { x with k := e, confidence := 0 }

/-- R97: at most 4 samples, oldest first. -/
def pushSample (p : Word × Nat) (l : List (Word × Nat)) : List (Word × Nat) :=
  if l.length < 4 then l ++ [p] else l.tail ++ [p]

/-- R97: whether a diameter is accepted as a sample. -/
def acceptsSample (dMin : Nat) (x : WebState) (d : Nat) : Bool :=
  match x.samples.getLast? with
  | none => true
  | some p => d + dMin ≤ p.2

/-- R97: record the latest diameter and take it as a sample when it is one. -/
def WebState.takeDiameter (cfg : WebCfg) (held : Bool) (cycle : Half) (c : Word) (d : Nat) (x : WebState) :
    WebState :=
  let x := { x with diameter := d, cD := c }
  if held || x.holdCycle == some cycle || !acceptsSample cfg.dMin x d then x
  else WebState.learn cfg.tol { x with samples := pushSample (c, d) x.samples, reelKnown := true }

/-- R100: the remaining length, by exact numbers also where the product passes 64 bits (log 15, DESIGN CHOICE). -/
def remainingLength (cfg : WebCfg) (x : WebState) (c : Word) : Nat :=
  let first : Nat := if x.diameter ≤ cfg.core then 0 else (x.diameter ^ 2 - cfg.core ^ 2) * x.k / 65536
  ((first : Int) - sdist x.cD c).toNat

/-- R100: the reserve. -/
def reserveOf (cfg : WebCfg) (x : WebState) : Nat :=
  let m := match x.confidence with
    | 0 => 8
    | 1 => 6
    | _ => 4
  cfg.baseReserve * m / 4

/-! ### Issue (R106) -/

/-- SUPERSEDED for the prepare tag (R103). -/
def prepareSuperseded (i : Nat) (old : Option Half) (s : State) : State :=
  match s.webAt i with
  | none => s
  | some w =>
    if old.isSome && w.st.prepareTag == old then
      let g := (w.st.plan.bind (·.boundary)).getD 0
      raise .prepareFailed (natWord i) g 0 (s.adjustWeb i (fun x => { x with prepareTag := none }))
    else s

/-- R106: issue a PLANNED splice that is near enough. -/
def issueCheck (i : Nat) (s : State) : State :=
  match s.webAt i with
  | none => s
  | some w =>
    match w.st.plan with
    | none => s
    | some p =>
      if p.state = .planned ∧ sdist (webCount w s) p.target ≤ ((w.cfg.spliceLead + w.cfg.issueMargin : Nat) : Int) then
        let r := issueCommand w.cfg.channel .spliceAt [p.target] (some w.cfg.posRole) s
        match r.2 with
        | some t =>
          prepareSuperseded i t.superseded (r.1.adjustWeb i (fun x =>
            { x with plan := some { p with state := .issued }, spliceTag := some t.tag }))
        | none => r.1
      else s

/-! ### Planning (R101 to R105) -/

/-- The standby slot is FRESH with value READY. -/
def standbyIsReady (w : Web) (s : State) : Bool := s.fresh w.cfg.standbySlot && s.slotValue w.cfg.standbySlot == 1

/-- R104: the answer to the Order Planner. -/
def standbyReady (i paper : Nat) (s : State) : Bool :=
  match s.webAt i with
  | some w => w.st.plan.isNone && standbyIsReady w s && (s.slotAux w.cfg.standbySlot).toNat == paper
  | none => false

/-- The paper code a grade names for a web. -/
def paperOf (s : State) (grade : Option Nat) (web : Nat) : Option Nat :=
  ((grade.bind s.gradeAt).bind (fun g => g.papers[web]?)).join

/-- R101: PAPER_MISMATCH. -/
def paperCheck (i : Nat) (target : Word) (standby : Word) (s : State) : State :=
  match paperOf s s.op.runningGrade i with
  | some p => if standby.toNat = p then s else raise .paperMismatch (natWord i) target standby s
  | none => s

/-- A fresh plan. -/
def newPlan (k : PlanKind) (target : Word) : SplicePlan :=
  { kind := k, state := .planned, target := target, boundary := none, early := false, paper := none }

/-- A plan of any kind is made: with it blocked becomes no (Table 6-2). -/
def WebState.makePlan (p : SplicePlan) (x : WebState) : WebState := { x with plan := some p, blocked := false }

/-- R101: a runout is due. -/
def planRunout (i : Nat) (w : Web) (c : Word) (len reserve : Nat) (s : State) : State :=
  if standbyIsReady w s then
    let target := shiftBy c (max ((len : Int) - reserve) w.cfg.spliceLead)
    let s := s.adjustWeb i (WebState.makePlan (newPlan .runout target))
    issueCheck i (paperCheck i target (s.slotAux w.cfg.standbySlot) s)
  else if w.st.blocked then s
  else raise .spliceBlocked (natWord i) c (natWord len) (s.adjustWeb i (fun x => { x with blocked := true }))

/-- R102: a reel that will not last to the grade target brings the splice forward. -/
def advanceGrade (i : Nat) (w : Web) (p : SplicePlan) (c : Word) (len reserve : Nat) (s : State) : State :=
  if (reserve : Int) ≤ len - sdist c p.target then s
  else
    let target := shiftBy c w.cfg.spliceLead
    let s := s.adjustWeb i (fun x => { x with plan := some { p with target := target, early := true } })
    issueCheck i (raise .gradeSpliceEarly (natWord i) target (wordOf (sdist target (p.boundary.getD p.target))) s)

/-- R100: evaluate a web, in RUN and with reel known. -/
def evaluateWeb (i : Nat) (s : State) : State :=
  match s.webAt i with
  | none => s
  | some w =>
    if s.running && w.st.reelKnown then
      let c := webCount w s
      let len := remainingLength w.cfg w.st c
      let reserve := reserveOf w.cfg w.st
      let s := s.adjustWeb i (fun x => { x with lastLength := len, lastReserve := reserve })
      if len ≤ reserve + w.cfg.spliceLead then
        match w.st.plan with
        | none => planRunout i w c len reserve s
        | some p => if p.kind = .grade ∧ p.state = .planned then advanceGrade i w p c len reserve s else s
      else s
    else s

/-- R103: the Order Planner commits a boundary that changes a web's paper. -/
def planGrade (i : Nat) (target : Word) (paper : Nat) (s : State) : State :=
  match s.webAt i with
  | none => s
  | some w =>
    let s := s.adjustWeb i (WebState.makePlan
      { newPlan .grade target with boundary := some target, paper := some paper })
    let r := issueCommand w.cfg.channel .prepare [natWord paper] none s
    match r.2 with
    | some t => r.1.adjustWeb i (fun x => { x with prepareTag := some t.tag })
    | none => r.1

/-! ### Marks of a splice -/

/-- The request for a SPLICE mark at a position. -/
def spliceRequest (i : Nat) (w : Web) (pos : Word) (widening : Nat) (conf : Confirmation) : CreateRequest :=
  { kind := .splice, cause := none, sec := w.cfg.sec, pos := pos, lead := w.cfg.zoneLead, trail := w.cfg.zoneTrail
    widening := widening, conf := conf, origin := some i }

/-- A SPLICE_FAIL zone of the given trail, at most 2^24 - 1. -/
def failZoneRequest (w : Web) (pos : Word) (trail : Int) : CreateRequest :=
  { kind := .zone, cause := some .spliceFail, sec := w.cfg.sec, pos := pos, lead := 0
    trail := (clampInt 0 16777215 trail).toNat, widening := 0, conf := .confirmed, origin := none }

/-- R107: keep the mark of a CREATED or MERGED reply. -/
def keptMark : CreateResult → Option KeptMark
  | .created slot serial => some ⟨slot, serial, true⟩
  | .merged slot serial => some ⟨slot, serial, false⟩
  | .dropped => none

/-- R109: a CREATED mark of a plan is deleted. -/
def deleteCreated (w : Web) (s : State) : State :=
  match w.st.mark with
  | some m => if m.created then (deleteMark m.slot m.serial s).1 else s
  | none => s

/-- The plan becomes NONE, with its tags and mark cleared (log 30). -/
def WebState.endPlan (x : WebState) : WebState :=
  { x with plan := none, spliceTag := none, prepareTag := none, mark := none }

/-! ### Outcomes (R103, R107 to R110) -/

/-- R107: the ACCEPT of the splice tag. -/
def spliceAccepted (i : Nat) (w : Web) (p : SplicePlan) (s : State) : State :=
  if p.state = .issued then
    let r := createMark (spliceRequest i w p.target w.cfg.widen .provisional) s
    r.1.adjustWeb i (fun x => { x with plan := some { p with state := .accepted }, mark := keptMark r.2 })
  else s

/-- R108: confirm the mark at the actual position, or ask for one. -/
def confirmMark (i : Nat) (w : Web) (a : Word) (s : State) : State :=
  let fresh := spliceRequest i w a 0 .confirmed
  match w.st.mark with
  | none => placeMark fresh s
  | some m =>
    let r := moveMark m.slot m.serial w.cfg.sec a .confirmed s
    if r.2 = .gone then placeMark fresh r.1 else r.1

/-- The state of a web after a splice was taken: new reel, accounted count one further (R99, R108, R111). -/
def WebState.spliceTaken (k0 : Nat) (cycle : Half) (x : WebState) : WebState :=
  WebState.newReel k0 cycle { x.endPlan with blocked := false, accounted := x.accounted.map (· + 1) }

/-- R108: the splice of the plan has been made at `a`. -/
def spliceMade (i : Nat) (w : Web) (p : SplicePlan) (a : Word) (s : State) : State :=
  let s := confirmMark i w a s
  let s := if p.kind = .grade ∧ p.early then
      placeMark (failZoneRequest w a (sdist a (p.boundary.getD p.target))) s
    else s
  let s := raise .spliceDone (natWord i) a (natWord p.kind.code) s
  s.adjustWeb i (WebState.spliceTaken w.cfg.k0 s.fr.cycle)

/-- R109, R110: a plan under way fails with the value word given. -/
def spliceFailed (i : Nat) (w : Web) (p : SplicePlan) (value : Int) (s : State) : State :=
  let s := deleteCreated w s
  let s := match p.kind with
    | .grade =>
      let g := p.boundary.getD p.target
      raise .gradeSpliceFailed (natWord i) g (wordOf value) (placeMark (failZoneRequest w g w.cfg.failZone) s)
    | _ => raise .spliceRefused (natWord i) p.target (wordOf value) s
  evaluateWeb i (s.adjustWeb i WebState.endPlan)

/-- R103: the outcome of the prepare tag: what the splicer reported, if it completed. -/
def prepareOutcome (i : Nat) (w : Web) (reported : Option Word) (s : State) : State :=
  let s := s.adjustWeb i (fun x => { x with prepareTag := none })
  let wanted := (w.st.plan.bind (·.paper)).map natWord
  if reported.isSome && reported == wanted then s
  else raise .prepareFailed (natWord i) ((w.st.plan.bind (·.boundary)).getD 0) (reported.getD 0) s

/-! ### Unsolicited splices (R111) -/

/-- R111: the tags the withdrawn plan holds are cancelled. -/
def cancelTags (w : Web) (s : State) : State :=
  let s := match w.st.spliceTag with
    | some t => cancelOwn w.cfg.channel t s
    | none => s
  match w.st.prepareTag with
  | some t => cancelOwn w.cfg.channel t s
  | none => s

/-- R111: the stretch between the splice and the boundary target of a withdrawn GRADE plan. -/
def withdrawGrade (i : Nat) (w : Web) (p : SplicePlan) (a : Word) (s : State) : State :=
  if p.kind = .grade then
    let g := p.boundary.getD p.target
    let d := sdist a g
    let s := placeMark (failZoneRequest w (if 0 ≤ d then a else g) d.natAbs) s
    raise .gradeSpliceFailed (natWord i) g 5 s
  else s

/-- R111: an unsolicited splice at `a`. -/
def spliceUnplanned (i : Nat) (w : Web) (a : Word) (s : State) : State :=
  let s := placeMark (spliceRequest i w a 0 .confirmed) s
  let code := match w.st.plan with
    | some p => p.kind.code
    | none => 0
  let s := raise .spliceUnplanned (natWord i) a (natWord code) s
  let s := deleteCreated w (cancelTags w s)
  let s := s.adjustWeb i (fun x => { x with settledTag := x.spliceTag <|> x.settledTag })
  let s := match w.st.plan with
    | some p => withdrawGrade i w p a s
    | none => s
  s.adjustWeb i (WebState.spliceTaken w.cfg.k0 s.fr.cycle)

/-- The position a DONE reports, or the target of the plan when it carries no words (R108; log 52). -/
def reportedSplice (w : Web) (first : Option Word) (s : State) : Word :=
  match first with
  | some x => toTrack s w.cfg.posRole x
  | none =>
    match w.st.plan with
    | some p => p.target
    | none => Config.unreportedSplice (webCount w s)

/-- What SC is told of a command that ended without COMPLETE (R103, R109, R110); ignored for tags SC does not
hold. -/
def splicerFailed (i : Nat) (w : Web) (tag : Half) (value : Int) (s : State) : State :=
  if w.st.spliceTag = some tag then
    match w.st.plan with
    | some p => spliceFailed i w p value s
    | none => s
  else if w.st.prepareTag = some tag then prepareOutcome i w none s
  else s

/-- R103, R108, R111: COMPLETE. -/
def splicerComplete (i : Nat) (w : Web) (tag : Half) (v : Verb) (first : Option Word) (s : State) : State :=
  if w.st.spliceTag = some tag then
    match w.st.plan with
    | some p => spliceMade i w p (reportedSplice w first s) s
    | none => s
  else if w.st.prepareTag = some tag then prepareOutcome i w first s
  else if w.st.settledTag = some tag ∨ v ≠ .spliceAt then s
  else spliceUnplanned i w (reportedSplice w first s) s

/-- SC is told of a command of a web's splicer. -/
def splicerTold (i : Nat) (t : Told) (s : State) : State :=
  match s.webAt i with
  | none => s
  | some w =>
    match t with
    | .accepted tag =>
      match w.st.plan with
      | some p => if w.st.spliceTag = some tag then spliceAccepted i w p s else s
      | none => s
    | .complete tag v _ first => splicerComplete i w tag v first s
    | .refused tag reason => splicerFailed i w tag (1 + 256 * (reason.toNat : Int)) s
    | .timeout tag => splicerFailed i w tag 2 s
    | .aborted tag => splicerFailed i w tag 3 s
    | .missed tag => splicerFailed i w tag 3 s
    | .superseded tag => splicerFailed i w tag 4 s
    | .cancelled _ => s
    | .gone _ => s
    | .unsolicited tag result words =>
      if result = 1 ∧ ¬ (tag ≠ 0 ∧ w.st.settledTag = some tag) then
        spliceUnplanned i w (reportedSplice w words.head? s) s
      else s

/-! ### The splice count (R112) -/

/-- R112: a fresh splice count. -/
def WebState.countArrival (k : Half) (x : WebState) : WebState :=
  let x := { x with countSeen := some k }
  match x.accounted with
  | none => { x with accounted := some k }
  | some a =>
    let d := (k - a).toInt
    if d < -16 then { x with accounted := some k, countWait := 0 }
    else if d ≤ 0 then { x with countWait := 0 }
    else x

/-- R112: the last splice count arrival is ahead of the accounted count (log 29). -/
def WebState.countAhead (x : WebState) : Bool :=
  match x.countSeen, x.accounted with
  | some k, some a => 0 < (k - a).toInt
  | _, _ => false

/-- R112: when the wait has reached 3, the latest splice is taken from the slot. The accounted count becomes the count
that stands in the slot then, also where the slot was refreshed or loaded anew in SETUP (log 122, DESIGN CHOICE). -/
def takeFromCount (i : Nat) (s : State) : State :=
  match s.webAt i with
  | none => s
  | some w =>
    match w.cfg.countSlot with
    | none => s
    | some slot =>
      if s.running && 3 ≤ w.st.countWait then
        let a := toTrack s w.cfg.posRole (s.slotValue slot)
        let s := match w.st.plan, w.st.spliceTag with
          | some p, some tag =>
            if p.state = PlanState.accepted then
              cancelOwn w.cfg.channel tag
                ((spliceMade i w p a s).adjustWeb i (fun x => { x with settledTag := some tag }))
            else spliceUnplanned i w a s
          | _, _ => spliceUnplanned i w a s
        s.adjustWeb i (fun x => { x with accounted := some ((s.slotAux slot).truncate 16), countWait := 0 })
      else s

/-- R112: the count-wait step of one web at an expiry in RUN. -/
def countWaitStep (i : Nat) (s : State) : State :=
  match s.webAt i with
  | none => s
  | some w =>
    if s.running && w.cfg.countSlot.isSome && w.st.countAhead then
      takeFromCount i (s.adjustWeb i (fun x => { x with countWait := min 3 (x.countWait + 1) }))
    else s

/-! ### Arrivals, updates and entry into RUN -/

/-- A fresh value in a slot owned by SC, for one web. While blocked, a fresh standby report makes a whole evaluation of
R100, the length and the reserve computed anew (R101; log 119, DESIGN CHOICE). -/
def webArrival (slot i : Nat) (s : State) : State :=
  match s.webAt i with
  | none => s
  | some w =>
    let s := if w.cfg.diamSlot = slot then
        evaluateWeb i (s.adjustWeb i (WebState.takeDiameter w.cfg (s.held w.cfg.sec) s.fr.cycle (webCount w s)
          (s.slotValue slot).toNat))
      else s
    let s := if w.cfg.standbySlot = slot ∧ w.st.blocked then evaluateWeb i s else s
    if w.cfg.countSlot = some slot then s.adjustWeb i (WebState.countArrival ((s.slotAux slot).truncate 16)) else s

/-- A fresh value in a slot owned by SC. -/
def spliceArrival (slot : Nat) (s : State) : State :=
  if s.running then (List.range 6).foldl (fun s i => webArrival slot i s) s else s

/-- R100, R106: a track update of a section, in RUN: the evaluation, then the issue check (log 69). -/
def spliceUpdate (sec : Nat) (s : State) : State :=
  (List.range 6).foldl
    (fun s i =>
      match s.webAt i with
      | some w => if w.cfg.sec = sec then issueCheck i (evaluateWeb i s) else s
      | none => s)
    s

/-- R113: one web on entry into RUN. -/
def webEnterRun (i : Nat) (s : State) : State :=
  match s.webAt i with
  | none => s
  | some w =>
    let s := s.adjustWeb i (WebState.newReel w.cfg.k0 s.fr.cycle)
    match w.st.plan with
    | none => s
    | some p =>
      let held : Bool := match w.st.spliceTag, s.channelAt w.cfg.channel with
        | some t, some c => c.outstanding.any (·.tag == t) || (c.pend.map (·.tag)) == some t
        | _, _ => false
      if p.state = .planned || held then s else (deleteCreated w s).adjustWeb i WebState.endPlan

/-- R113. -/
def spliceEnterRun (s : State) : State := (List.range 6).foldl (fun s i => webEnterRun i s) s

end Sys2Proof.Machine
end

