-- ==== Sys2Proof/Machine/Planner.lean ====
section
/-! DEFINITION. Machine/Planner.lean: the Order Planner's reactions (05): the NEXT designation, the movement of
orders, the projection, the commit, and `settle`, which ends every event (log 9, 10). -/

namespace Sys2Proof.Machine

/-! ### NEXT (R78) -/

/-- The key of the order designated NEXT. -/
def State.nextKey (s : State) : Option OrderKey := (s.op.queue.find? (fun o => o.state == .next)).map (·.key)

/-- The state of an uncommitted order under a designation. -/
def Order.designate (next : Option OrderKey) (o : Order) : Order :=
  if o.start.isSome then o else { o with state := if next == some o.key then .next else .queued }

/-- R78: bring the NEXT designation up to date from the one that stood before; a change clears the block cause. -/
def refreshFrom (old : Option OrderKey) (s : State) : State :=
  let next := s.nextOrder.map (·.key)
  if old = next then s
  else s.withOp { s.op with queue := s.op.queue.map (Order.designate next), block := none }

/-- R78: bring the NEXT designation up to date from the one the queue holds. -/
def refreshNext (s : State) : State := refreshFrom s.nextKey s

/-! ### The movement of orders (R80) -/

/-- The boundary of a reference is the mark given. -/
def refIs (b : Option BoundaryRef) (slot serial : Nat) : Bool := b.any (fun r => r.slot == slot && r.serial == serial)

/-- Start boundary at KNIFE. -/
def Order.startCut (o : Order) : Order := if o.state = .committed then { o with state := .cutting } else o

/-- End boundary at KNIFE. -/
def Order.endCut (o : Order) : Order :=
  if o.state = .committed ∨ o.state = .cutting then { o with state := .stacking } else o

/-- End boundary at STACKER. -/
def Order.endStacked (o : Order) : Order :=
  if o.state = .committed ∨ o.state = .cutting ∨ o.state = .stacking then
    { o with state := if o.cancelled then .cancelled else .done }
  else o

/-- R80: one MARK passage of a BOUNDARY mark. -/
def takePassage (p : Passage) (s : State) : State :=
  if p.kind = .mark ∧ p.markKind = .boundary then
    match p.use with
    | .knife =>
      s.withOp { s.op with queue := s.op.queue.map (fun o =>
        let o := if refIs o.start p.slot p.serial then o.startCut else o
        if refIs o.fin p.slot p.serial then o.endCut else o) }
    | .stacker =>
      s.withOp { s.op with queue := s.op.queue.map (fun o =>
        if refIs o.fin p.slot p.serial then o.endStacked else o) }
    | _ => s
  else s

/-- A boundary is level with or behind a material. -/
def boundaryBehind (b : Option BoundaryRef) (mat : Option Word) : Bool :=
  match b, mat with
  | some b, some m => 0 ≤ sdist b.pos m
  | _, _ => false

/-- R80: the boundaries of one order taken as passed. -/
def Order.sweep (knife stacker : Option Word) (o : Order) : Order :=
  let o := if boundaryBehind o.start knife then o.startCut else o
  let o := if boundaryBehind o.fin knife then o.endCut else o
  if boundaryBehind o.fin stacker then o.endStacked else o

/-- R80: the sweep over the queue. -/
def sweepOrders (s : State) : State :=
  s.withOp { s.op with queue := s.op.queue.map (Order.sweep (s.materialAt .knife) (s.materialAt .stacker)) }

/-- R80, R150: close the orders moved to DONE or CANCELLED, in queue order. -/
def closeOrders (s : State) : State :=
  refreshNext ((s.op.queue.filter (fun o => o.state == .done || o.state == .cancelled)).foldl
    (fun s o => closeOrder o.key s) s)

/-! ### The projection (R81) -/

/-- The distance ahead of the BOARD counter at which a walk stops. -/
def farLimit : Int := 536870912

/-- R81: X, the position the Cut Planner plans its next cut from (log 36). -/
def projectionStart (s : State) : Option Word := s.planningPoint <|> s.materialAt .knife

/-- R81: walk until the g-th GOOD piece of an order. A cut is at least 2,000 LU after the one before it, and the
walk stays within a signed distance, so the fuel suffices. A cut at the limit itself is reached, so FAR (log 90). -/
def walkCuts (s : State) (k : OrderKey) (t : Word) : Nat → List (OrderKey × Nat) → Nat → Word → Projection
  | 0, _, _, _ => .far
  | fuel + 1, found, g, c =>
    let e := (nextCut s found c).entry
    if farLimit ≤ sdist t e.target then .far
    else
      match e.good, e.order with
      | true, some o =>
        if o = k then
          if g ≤ 1 then .at e.target else walkCuts s k t fuel (noteFound o found) (g - 1) e.target
        else walkCuts s k t fuel (noteFound o found) g e.target
      | _, _ => walkCuts s k t fuel found g e.target

/-- R81: good pieces still needed of an order. -/
def piecesWanted (s : State) (o : Order) : Int := (o.cuts : Int) - (o.good + s.goodInHand o.key)

/-- R81: B_proj. -/
def projection (s : State) : Projection :=
  match s.openOrder, projectionStart s, s.boardCount with
  | some r, some x, some t =>
    let g := piecesWanted s r
    if g ≤ 0 then
      match r.start with
      | some b => .at (if 0 < sdist x b.pos then b.pos else x)
      | none => .at x
    else walkCuts s r.key t 1000000 [] g.toNat x
  | _, _, _ => .none

/-- Recompute B_proj. -/
def project (s : State) : State := s.withOp { s.op with bproj := projection s }

/-! ### Webs that change (R82) -/

/-- R82: a web's paper changes between two grades. -/
def webChanges (s : State) (a b : Option Nat) (web : Nat) : Bool :=
  match paperOf s a web, paperOf s b web with
  | some p, some q => p != q
  | _, _ => false

/-- R82: the webs that change, in order. -/
def changedWebs (s : State) (a b : Option Nat) : List Nat := (List.range 6).filter (webChanges s a b)

/-- R82: the splice target of a web for a board position. A web whose splice record is not in use has none (log 105,
DESIGN CHOICE). -/
def spliceTarget (web : Nat) (b : Word) (s : State) : State × Option Word :=
  match s.webAt web, s.boardIndex with
  | some w, some d =>
    match s.path w.cfg.sec d with
    | some links => inverseChain links.reverse (shiftBy b (-(lengthDown s links w.cfg.zoneTrail : Int))) s
    | none => (s, none)
  | _, _ => (s, none)

/-- The signed distance from a web's counter to its splice target, with the web's splice_lead. -/
def targetDistance (web : Nat) (b : Word) (s : State) : State × Option (Int × Nat) :=
  let r := spliceTarget web b s
  match r.2, s.webAt web with
  | some t, some w => (r.1, some (sdist (s.count w.cfg.sec) t, w.cfg.spliceLead))
  | _, _ => (r.1, none)

/-- A test of the distances of some webs: whether any meets it. A web without a target meets none (log 105). -/
def anyWeb (webs : List Nat) (b : Word) (test : Int → Nat → Bool) (s : State) : State × Bool :=
  webs.foldl
    (fun acc w =>
      let r := targetDistance w b acc.1
      (r.1, acc.2 || r.2.any (fun x => test x.1 x.2)))
    (s, false)

/-! ### The trigger and the conditions (R83, R84) -/

/-- What an attempt works on: NEXT, if any, and the projected boundary for it. -/
structure Attempt where
  next : Option Order
  bproj : Word
  deriving DecidableEq, Repr

/-- R83: the attempt whose trigger holds, if one does. -/
def triggered (s : State) : State × Option Attempt :=
  match s.boardCount with
  | none => (s, none)
  | some t =>
    match s.openOrder, s.nextOrder with
    | none, none => (s, none)
    | none, some n => (s, some ⟨some n, shiftBy t s.op.presetDist⟩)
    | some r, next =>
      match s.op.bproj with
      | .at b =>
        let a : Attempt := ⟨next, b⟩
        if sdist t b ≤ s.op.presetDist then (s, some a)
        else
          match next with
          | none => (s, none)
          | some n =>
            let margin := s.op.gradeMargin
            let w := anyWeb (changedWebs s (some r.grade) (some n.grade)) b
              (fun d lead => d ≤ ((lead + margin : Nat) : Int)) s
            (w.1, if w.2 then some a else none)
      | _ => (s, none)

/-- A reply code with its subcode (Table 11-3). -/
structure Refused where
  code : Nat
  sub : Nat
  deriving DecidableEq, Repr

/-- R79, checks 4 to 8: the references of an order against the tables as they stand. -/
def referenceCheck (s : State) (grade pattern : Nat) : Option Refused :=
  match s.gradeAt grade with
  | none => some ⟨13, 1⟩
  | some g =>
    if !g.released then some ⟨14, 1⟩
    else
      match s.patternAt pattern with
      | none => some ⟨13, 2⟩
      | some p =>
        if !p.released then some ⟨14, 2⟩
        else if g.width < p.width then some ⟨15, 0⟩
        else none

/-- R84, R86: NEXT's pattern differs from the running pattern. -/
def patternDiffers (s : State) (n : Order) : Bool := s.op.runningPattern != some n.pattern

/-- R84: the standby of every web that changes is ready with NEXT's paper. -/
def standbysReady (s : State) (n : Order) : Bool :=
  (changedWebs s s.op.runningGrade (some n.grade)).all (fun w =>
    match paperOf s (some n.grade) w with
    | some p => standbyReady w p s
    | none => true)

/-- R84: the first condition that fails. -/
def blockedBy (s : State) (n : Order) : Option BlockCause :=
  if (referenceCheck s n.grade n.pattern).isSome then some .ref
  else if patternDiffers s n && s.pairState != .steady then some .pair
  else if !standbysReady s n then some .standby
  else none

/-- R84: an attempt blocked with a cause; the event is raised when the cause is new. -/
def blockAttempt (a : Attempt) (c : BlockCause) (s : State) : State :=
  if s.op.block = some c then s
  else
    let n := match a.next with
      | some o => o.key.number
      | none => 0
    raise .commitBlocked n a.bproj (natWord c.code) (s.withOp { s.op with block := some c })

/-! ### Placing the boundary (R85) -/

/-- The positions a boundary may not lie behind: the last SENT cut and the committed boundaries (log 37). -/
def boundaryFloor (s : State) : List Word :=
  (s.cp.plan.filter (·.sent.isSome)).map (·.target) ++
    s.op.queue.flatMap (fun o => (o.start.map (·.pos)).toList ++ (o.fin.map (·.pos)).toList)

/-- R85: a boundary position holds the first two conditions. -/
def boundaryClear (s : State) (b : Word) : Bool :=
  (boundaryFloor s).all (fun p => decide (0 ≤ sdist p b)) &&
    match s.boardCount with
    | some t => (s.op.minCommit : Int) ≤ sdist t b
    | none => false

/-- R85: try B_proj + k x L for k up to 64; the first position that holds, with its k. -/
def placeBoundary (webs : List Nat) (length : Nat) (bproj : Word) :
    Nat → Nat → State → State × Option (Word × Nat)
  | 0, _, s => (s, none)
  | fuel + 1, k, s =>
    let b := shiftBy bproj ((k * length : Nat) : Int)
    if boundaryClear s b then
      let r := anyWeb webs b (fun d lead => d < (lead : Int)) s
      if r.2 then placeBoundary webs length bproj fuel (k + 1) r.1 else (r.1, some (b, k))
    else placeBoundary webs length bproj fuel (k + 1) s

/-! ### The commit (R86, R87) -/

/-- R86 step 1: the boundary ends the open order and begins NEXT. -/
def attachBoundary (openKey next : Option OrderKey) (b : BoundaryRef) (s : State) : State :=
  refreshFrom s.nextKey (s.withOp { s.op with queue := s.op.queue.map (fun o =>
    let o := if openKey = some o.key then { o with fin := some b } else o
    if next = some o.key then { o with start := some b, state := .committed } else o) })

/-- R86 step 3: a GRADE splice for each web that changes. -/
def commitWebs (webs : List Nat) (grade : Nat) (b : Word) (s : State) : State :=
  webs.foldl
    (fun s w =>
      let r := spliceTarget w b s
      match r.2, paperOf s (some grade) w with
      | some t, some p => planGrade w t p r.1
      | _, _ => r.1)
    s

/-- R86, steps 2 to 6. -/
def commitNext (n : Order) (webs : List Nat) (b : BoundaryRef) (k : Nat) (s : State) : State :=
  let change := patternDiffers s n
  let s := if change then createSwap b n.pattern s else s
  let s := placeSwitches b.pos n.grade (commitWebs webs n.grade b.pos s)
  let s := s.withOp { s.op with runningGrade := some n.grade, runningPattern := some n.pattern, block := none }
  raise .commit n.key.number b.pos (natWord (k + 256 * n.key.part)) s

/-- R86, R87: commit at the boundary found. The flag says whether it was committed. With no NEXT the value word of
COMMIT is k alone (log 89). -/
def commitAt (a : Attempt) (webs : List Nat) (pos : Word) (k : Nat) (s : State) : State × Bool :=
  match s.boardIndex with
  | none => (s, false)
  | some d =>
    let change := match a.next with
      | some n => patternDiffers s n
      | none => false
    let openKey := s.openOrder.map (·.key)
    let r := createBoundary d pos (a.next.map (·.key)) change s
    match r.2 with
    | none => (blockAttempt a .map r.1, false)
    | some b =>
      let s := attachBoundary openKey (a.next.map (·.key)) b r.1
      match a.next with
      | some n => (commitNext n webs b k s, true)
      | none => (raise .commit 0 b.pos (natWord k) (s.withOp { s.op with block := none }), true)

/-- R83 to R87: one commit attempt, when the trigger holds. -/
def attemptCommit (s : State) : State × Bool :=
  let t := triggered s
  let s := t.1
  match t.2 with
  | none => (s, false)
  | some a =>
    match a.next.bind (blockedBy s) with
    | some c => (blockAttempt a c s, false)
    | none =>
      let webs := match a.next with
        | some n => changedWebs s s.op.runningGrade (some n.grade)
        | none => []
      let length := match s.openOrder, a.next with
        | some r, _ => r.length
        | none, some n => n.length
        | none, none => 0
      let p := placeBoundary webs length a.bproj 65 0 s
      match p.2 with
      | none => (blockAttempt a .late p.1, false)
      | some (b, k) => commitAt a webs b k p.1

/-! ### The end of an event (R28, R81, R83, R88, R135) -/

/-- What R81 makes B_proj depend on, apart from the BOARD list: X, the open order, its cuts needed, its good
tallied and its good in hand; and what R129 has the Cut Planner tell besides: its good sent and the plan's content.
A change of any of them recomputes B_proj, and R83 makes its attempt then (log 76). -/
structure Signature where
  x : Option Word
  openKey : Option OrderKey
  cuts : Nat
  good : Nat
  inHand : Nat
  sent : Nat
  plan : List CutEntry
  deriving DecidableEq, Repr

def State.signature (s : State) : Signature :=
  match s.openOrder with
  | none => ⟨projectionStart s, none, 0, 0, 0, 0, s.cp.plan⟩
  | some r => ⟨projectionStart s, some r.key, r.cuts, r.good, s.goodInHand r.key, s.goodSent r.key, s.cp.plan⟩

/-- R28, R81, R135: announce the board map changes noted so far as one: CP re-plans and B_proj is recomputed. -/
def announceChange (s : State) : State :=
  match s.wm.boardChange with
  | none => s
  | some sp => project (replanForChange sp (s.withWm { s.wm with boardChange := none }))

/-- Announce, recompute B_proj when due and attempt a commit, again after each commit. At most 16 boundaries
can be committed in one event. -/
def settleLoop : Nat → Signature → Bool → Bool → State → State
  | 0, _, _, _, s => s
  | fuel + 1, before, force, attempt, s =>
    let changed := s.wm.boardChange.isSome
    let s := announceChange s
    let due := force || decide (s.signature ≠ before)
    let s := if due && !changed then project s else s
    if s.running && (attempt || due || changed) then
      let sig := s.signature
      let r := attemptCommit s
      if r.2 then settleLoop fuel sig true true r.1 else r.1
    else s

/-- End an event that began with the signature given; `force` recomputes B_proj in any case, `attempt` makes
the attempt of a BOARD track update. -/
def settle (before : Signature) (force attempt : Bool) (s : State) : State :=
  settleLoop (Config.boundaryLimit + 2) before force attempt s

/-- R88: a quantity of a committed order changed: CP re-plans its unsent cuts. -/
def quantityChanged (k : OrderKey) (s : State) : State :=
  match s.orderAt k with
  | some o => if o.start.isSome then replanForOrder k s else s
  | none => s

end Sys2Proof.Machine
end

