-- ==== Sys2Proof/Machine/Track.lean ====
section
/-! DEFINITION. Machine/Track.lean: the Path Tracker (01): arrivals, staleness, reckoning, speed and rebase,
and what every block does at a track update (log 8). -/

namespace Sys2Proof.Machine

/-! ### Events (log 9) -/

/-- Run one event: its reactions, then `settle`, with the attempt of R83 when the BOARD counter changed. -/
def event (f : State → State) (s : State) : State :=
  let r := f s
  settle s.signature false (r.boardCount != s.boardCount) r

/-! ### Speed and rebase (R12, R17) -/

/-- R12: the speed from the oldest of 8 entries to an update. -/
def speedFrom (old : Word × Word) (count time : Word) (speed : Nat) : Nat :=
  let dt := sdist old.2 time
  if 0 < dt then (clampInt 0 6000 (sdist old.1 count * 60000 / dt)).toNat else speed

/-- R12: recompute the speed and append the update to the history. -/
def TrackState.record (time : Word) (t : TrackState) : TrackState :=
  let full := decide (8 ≤ t.history.length)
  { t with
    speed := match t.history with
      | old :: _ => if full then speedFrom old t.count time t.speed else 0
      | [] => 0
    history := (if full then t.history.tail else t.history) ++ [(t.count, time)] }

/-- R17: rebase a link for its upstream counter. While the distance is at least 2 r 4096 a further step is
taken, so `d / (r 4096) - 1` steps are. -/
def Link.rebase (count : Word) (l : Link) : Link :=
  let q : Int := l.ratio * 4096
  let d := sdist l.aUp count
  if l.anchored && decide (2 * q ≤ d) then
    let n := d / q - 1
    { l with aUp := shiftBy l.aUp (n * q), aDown := shiftBy l.aDown (n * 16777216) }
  else l

/-- R11, R17: rebase the downstream link of a section, that of a BOARD record stored with one too (log 99). -/
def rebaseSection (sec : Nat) (s : State) : State :=
  match s.sectionAt sec with
  | none => s
  | some c =>
    match c.cfg.down with
    | some l => s.adjustLink l (Link.rebase c.trk.count)
    | none => s

/-! ### What the blocks do at a track update (log 8) -/

/-- The blocks at a BOARD track update in RUN, after the carry and the missed joints. The changes of the BOARD list made
by the carry and by SP's cover step are announced as one, after both (R28, R135), and before CP plans (log 8). -/
def boardUpdate (sec : Nat) (s : State) : State :=
  let s := (s.passages sec).foldl (fun s p => takePassage p s) s
  let s := sweepOrders (retireMarks (markSeen sec s))
  let s := slitterUpdate (setpointUpdate sec s)
  let s := knifeUpdate (announceChange s)
  let s := closeOrders (takePieces (s.cp.pieces.length + 1) (gateDecisions s))
  laneStep (issueDrops (stackDue s))

/-- The blocks at a track update of another section in RUN. -/
def webUpdate (sec : Nat) (s : State) : State := spliceUpdate sec (setpointUpdate sec (markSeen sec s))

/-- R11, R20: the Web Map and the blocks at an update that changed the counter. In SETUP the last seen count
alone follows. -/
def afterUpdate (sec : Nat) (s : State) : State :=
  if s.running then
    let s := jointMisses sec (carryInto sec s)
    if s.isBoard sec then boardUpdate sec s else webUpdate sec s
  else markSeen sec s

/-- R11: a track update to a counter value at a sample time. -/
def trackUpdate (sec : Nat) (count time : Word) (s : State) : State :=
  let changed := count != s.count sec
  let s := s.adjustTrack sec (fun t => { t with count := count, lastUpdate := time })
  let s := if changed then rebaseSection sec s else s
  let s := s.adjustTrack sec (TrackState.record time)
  if changed then afterUpdate sec s else s

/-- R11: SOURCE_SWITCH, with the counter after the change. -/
def raiseSwitch (sec : Nat) (count : Word) (src : SourceState) (s : State) : State :=
  raise .sourceSwitch (natWord sec) count (natWord src.code) s

/-! ### Arrivals (R6, R7, R8, R10) -/

/-- R8: the counter takes a candidate that is level with or ahead of it. -/
def advanceTo (count candidate : Word) : Word := if 0 ≤ sdist count candidate then candidate else count

/-- R6, R7: the backup offset is paired with the counter in a cycle in which both arrived. -/
def pairBackup (sec backup : Nat) (count : Word) (s : State) : State :=
  s.adjustTrack sec (fun t => { t with backupOffset := count - s.slotValue backup, shadow := true })

/-- Take a counter by continuity: the source switches and the count stays (R6, R7). -/
def takeOver (sec : Nat) (src : SourceState) (set : TrackState → TrackState) (s : State) : State :=
  let count := s.count sec
  let s := s.adjustTrack sec (fun t =>
    set { t with source := src, remainder := 0, history := if t.source = .held then [] else t.history })
  raiseSwitch sec count src s

/-- R6: a fresh value of the primary counter. -/
def primaryArrival (sec : Nat) (c : Section) (raw : Word) (s : State) : State :=
  let t := c.trk
  let count := if t.source = .primary then advanceTo t.count (raw + t.primaryOffset) else t.count
  let s := if t.source = .primary then s
    else takeOver sec .primary (fun t => { t with primaryOffset := t.count - raw }) s
  let s := match c.cfg.backupSlot with
    | some b => if s.fresh b && s.arrivedNow b then pairBackup sec b count s else s
    | none => s
  trackUpdate sec count s.fr.sample s

/-- R7: a fresh value of the backup counter. -/
def backupArrival (sec : Nat) (c : Section) (slot : Nat) (raw : Word) (s : State) : State :=
  let t := c.trk
  match t.source with
  | .primary => if s.arrivedNow c.cfg.primarySlot then pairBackup sec slot t.count s else s
  | .backup => trackUpdate sec (advanceTo t.count (raw + t.backupOffset)) s.fr.sample s
  | _ =>
    trackUpdate sec t.count s.fr.sample
      (takeOver sec .backup (fun t => { t with backupOffset := t.count - raw, shadow := false }) s)

/-- R10: a fresh speed reference moves a HELD section that allows reckoning to RECKONED. With its history emptied
the speed reads 0 (R12). -/
def referenceArrival (sec : Nat) (c : Section) (s : State) : State :=
  if c.trk.source = .held ∧ c.cfg.reckon then
    let s := s.adjustTrack sec (fun t =>
      { t with source := .reckoned, remainder := 0, history := [], speed := 0, base := s.fr.sample })
    raiseSwitch sec c.trk.count .reckoned s
  else s

/-- A fresh value in a slot owned by PT, for one section. A slot the section names twice acts as primary, backup and
reference, in this order (log 111, DESIGN CHOICE). -/
def sectionArrival (slot sec : Nat) (s : State) : State :=
  let raw := s.slotValue slot
  let s := match s.sectionAt sec with
    | some c => if c.cfg.primarySlot = slot then primaryArrival sec c raw s else s
    | none => s
  let s := match s.sectionAt sec with
    | some c => if c.cfg.backupSlot = some slot then backupArrival sec c slot raw s else s
    | none => s
  match s.sectionAt sec with
  | some c => if c.cfg.refSlot = some slot then referenceArrival sec c s else s
  | none => s

/-- A fresh value in a slot owned by PT. -/
def trackArrival (slot : Nat) (s : State) : State := (List.range 12).foldl (fun s sec => sectionArrival slot sec s) s

/-! ### Staleness (R9, R10) -/

/-- A section's speed reference slot is FRESH. -/
def referenceFresh (c : Section) (s : State) : Bool :=
  match c.cfg.refSlot with
  | some k => s.fresh k
  | none => false

/-- R9, second and third case: reckon or hold. -/
def reckonOrHold (sec : Nat) (c : Section) (s : State) : State :=
  if c.cfg.reckon && referenceFresh c s then
    raiseSwitch sec c.trk.count .reckoned
      (s.adjustTrack sec (fun t => { t with source := .reckoned, remainder := 0, base := t.lastUpdate }))
  else raiseSwitch sec c.trk.count .held (s.adjustTrack sec (fun t => { t with source := .held }))

/-- R9, first case: the FRESH backup takes over, with its candidate when the shadow offset is valid. The
candidate taken is a track update at the backup's own sample time (log 26), and SOURCE_SWITCH is raised before
the events of that update (log 100, DESIGN CHOICE). -/
def backupTakeOver (sec : Nat) (c : Section) (slot : Nat) (s : State) : State :=
  let raw := s.slotValue slot
  let candidate := raw + c.trk.backupOffset
  let time := match s.slotAt slot with
    | some w => w.lastSample
    | none => 0
  if c.trk.shadow && decide (0 ≤ sdist c.trk.count candidate) then
    let s := s.adjustTrack sec (fun t => { t with source := .backup, shadow := false })
    trackUpdate sec candidate time (raiseSwitch sec candidate .backup s)
  else
    raiseSwitch sec c.trk.count .backup
      (s.adjustTrack sec (fun t => { t with source := .backup, shadow := false, backupOffset := t.count - raw }))

/-- R9: the primary slot has become STALE. -/
def primaryStale (sec : Nat) (c : Section) (s : State) : State :=
  if c.trk.source = .primary then
    match c.cfg.backupSlot with
    | some b => if s.fresh b then backupTakeOver sec c b s else reckonOrHold sec c s
    | none => reckonOrHold sec c s
  else s

/-- R9: the backup slot has become STALE. -/
def backupStale (sec : Nat) (c : Section) (s : State) : State :=
  let s := s.adjustTrack sec (fun t => { t with shadow := false })
  if c.trk.source = .backup then reckonOrHold sec c s else s

/-- R10: the speed-reference slot has become STALE. -/
def referenceStale (sec : Nat) (c : Section) (s : State) : State :=
  if c.trk.source = .reckoned then
    raiseSwitch sec c.trk.count .held (s.adjustTrack sec (fun t => { t with source := .held, remainder := 0 }))
  else s

/-- A slot owned by PT has become STALE, for one section, in the same order of its uses (log 111, DESIGN CHOICE). -/
def sectionStale (slot sec : Nat) (s : State) : State :=
  let s := match s.sectionAt sec with
    | some c => if c.cfg.primarySlot = slot then primaryStale sec c s else s
    | none => s
  let s := match s.sectionAt sec with
    | some c => if c.cfg.backupSlot = some slot then backupStale sec c s else s
    | none => s
  match s.sectionAt sec with
  | some c => if c.cfg.refSlot = some slot then referenceStale sec c s else s
  | none => s

/-- A slot owned by PT has become STALE. -/
def trackStale (slot : Nat) (s : State) : State := (List.range 12).foldl (fun s sec => sectionStale slot sec s) s

/-! ### Reckoning (R10) -/

/-- R10: the speed reference of a section, clamped to 0 to 6000. A slot freed or loaded anew since has the value 0
(log 101). -/
def referenceSpeed (c : Section) (s : State) : Int :=
  match c.cfg.refSlot with
  | some k => clampInt 0 6000 (s.slotValue k).toInt
  | none => 0

/-- R10: one reckoning step of a RECKONED section. It is taken also when the reference slot was freed or loaded
anew in SETUP, of which R50 tells no owner (log 101, DESIGN CHOICE). -/
def reckonStep (sec : Nat) (s : State) : State :=
  match s.sectionAt sec with
  | none => s
  | some c =>
    let dt := sdist c.trk.base s.fr.sample
    if c.trk.source = .reckoned ∧ 0 < dt then
      let n := referenceSpeed c s * dt + c.trk.remainder
      let adv := n / 60000
      let s := s.adjustTrack sec (fun t => { t with remainder := (n - adv * 60000).toNat, base := s.fr.sample })
      trackUpdate sec (shiftBy c.trk.count adv) s.fr.sample s
    else s

/-- R10: the cycle snapshot of each loaded section. -/
def takeSnapshots (s : State) : State :=
  s.withPt { s.pt with sections := s.pt.sections.map (Option.map (fun c =>
    { c with trk := { c.trk with snapshot := c.trk.count } })) }

/-- R10: PT at a return-window expiry. -/
def trackExpiry (s : State) : State :=
  takeSnapshots ((List.range 12).foldl (fun s sec => event (reckonStep sec) s) s)

end Sys2Proof.Machine
end

