-- ==== Sys2Proof/Machine/Relay.lean ====
section
/-! DEFINITION. Machine/Relay.lean: the Field Relay (03): slots and their owners, the answers handed to CCU and
its jobs, the expiry, the outbound rewrite and appending, return frames and loss of the cell controller. -/

namespace Sys2Proof.Machine

/-! ### Ports and the clock -/

def sendCell (bytes : List Byte) (s : State) : State := s.withFr { s.fr with cellPort := s.fr.cellPort ++ [bytes] }
def sendField (bytes : List Byte) (s : State) : State := s.withFr { s.fr with fieldPort := s.fr.fieldPort ++ [bytes] }

/-- The reading of FR's clock at a command (log 1). -/
def setClock (now : Word) (s : State) : State := s.withFr { s.fr with clock := now }

/-! ### Slots and their owners (R45, R51, R54) -/

/-- The slot that watches a key of a kind. -/
def watchSlot (k : Key) (kind : WatchKind) (s : State) : Option Nat :=
  firstIndex 96 (fun i => (s.slotAt i).any (fun w => w.key == k && w.kind == kind))

/-- R51: the owner is told of a fresh value. SG and SS read their slots when they need them. -/
def ownerArrival (o : Owner) (slot : Nat) (s : State) : State :=
  match o with
  | .pt => trackArrival slot s
  | .wm => mapArrival slot s
  | .sc => spliceArrival slot s
  | .sp => slitterArrival slot s
  | .sg => s
  | .ss => s

/-- R54: the owner is told that a slot is STALE. The blocks but PT keep what they hold. -/
def ownerStale (o : Owner) (slot : Nat) (s : State) : State :=
  match o with
  | .pt => trackStale slot s
  | .wm => s
  | .sc => s
  | .sp => s
  | .sg => s
  | .ss => s

/-- A station is SUSPECT. -/
def State.suspectStation (s : State) (b : Byte) : Bool := (s.healthAt b.toNat).any (·.suspect)

/-- R51: store a value in its slot. The slot of a SUSPECT station stays STALE (R55; log 72). -/
def storeValue (slot : Nat) (value aux : Word) (s : State) : State :=
  s.adjustSlot slot (fun w =>
    { w with value := value, aux := aux, lastCycle := some s.fr.cycle, lastSample := s.fr.sample
             fresh := !s.suspectStation w.key.station, missRun := 0 })

/-- R45, R51: store an item that a slot watches and tell the slot's owner of a value that makes the slot FRESH. -/
def storeItem (i : Item) (kind : WatchKind) (s : State) : State :=
  match watchSlot i.key kind s with
  | none => s
  | some k =>
    let s := storeValue k i.value i.aux s
    match s.slotAt k with
    | some w => if w.fresh then event (ownerArrival w.owner k) s else s
    | none => s

/-! ### Jobs (04) -/

/-- The webs, stations or single job that a channel serves are told; in SETUP they take no action (R74). -/
def tellJob (ch : Nat) (t : Told) (s : State) : State :=
  if s.running then
    match (s.channelAt ch).bind (·.cls) with
    | some .splicer =>
      (List.range 6).foldl
        (fun s i => if (s.webAt i).any (·.cfg.channel == ch) then splicerTold i t s else s) s
    | some .slitter =>
      (List.range 2).foldl
        (fun s i => if (s.stationAt i).any (·.cfg.channel == ch) then slitterTold i t s else s) s
    | some .knife => if s.cp.knife = some ch then knifeTold t s else s
    | some .stacker => if s.sg.channel = some ch then stackerTold t s else s
    | none => s
  else s

/-- Tell the job what an answer brought, when it brought anything. -/
def tellAnswer (ch : Nat) (r : State × Option Told) : State :=
  match r.2 with
  | some t => tellJob ch t r.1
  | none => r.1

/-- The loaded command channel of a key. -/
def channelOf (k : Key) (s : State) : Option Nat :=
  firstIndex 24 (fun i => (s.channelAt i).any (fun c => c.cls.isSome && c.key == some k))

/-- R51: an ACCEPT, DONE or REFUSE is handed to CCU. -/
def handAnswer (i : Item) (kind : ItemKind) (s : State) : State :=
  match channelOf i.key s with
  | none => s
  | some ch =>
    match kind with
    | .accept => event (fun s => tellAnswer ch (takeAccept ch i.tag s)) s
    | .done => event (fun s => tellAnswer ch (takeDone ch i.tag i.value i.words s)) s
    | .refuse => event (fun s => tellAnswer ch (takeRefuse ch i.tag i.value s)) s
    | _ => s

/-- R69: one command past its accept timeout. -/
def timeoutStep (ch : Nat) (tag : Half) (s : State) : State :=
  match timeoutDue ch tag s with
  | none => s
  | some c =>
    event (fun s => reportTimeout ch tag c.verb (tellJob ch (.timeout tag) (dropTimedOut ch tag s))) s

/-- R69, R70: CCU examines every command of every outstanding list, in RUN (R74). -/
def examineCommands (s : State) : State :=
  (List.range 24).foldl
    (fun s ch =>
      match s.channelAt ch with
      | none => s
      | some c => (c.outstanding.map (·.tag)).foldl (fun s t => overdueStep ch t (timeoutStep ch t s)) s)
    s

/-! ### The expiry (R53 to R56) -/

/-- R54: add 1 to the miss run of every slot without a value in the current cycle. -/
def countMisses (s : State) : State :=
  s.withFr { s.fr with watch := s.fr.watch.map (Option.map (fun w =>
    if w.lastCycle = some s.fr.cycle then w else { w with missRun := bump 255 w.missRun })) }

/-- Force a FRESH slot STALE and tell its owner. -/
def makeStale (slot : Nat) (s : State) : State :=
  match s.slotAt slot with
  | none => s
  | some w =>
    if w.fresh then
      event (ownerStale w.owner slot) (s.adjustSlot slot (fun w => { w with fresh := false }))
    else s

/-- R54: a FRESH slot whose miss run has reached its limit becomes STALE. -/
def staleStep (slot : Nat) (s : State) : State :=
  match s.slotAt slot with
  | none => s
  | some w => if w.fresh && decide (w.limit ≤ w.missRun) then makeStale slot s else s

/-- The slots, in order, that watch a station. -/
def stationSlots (station : Nat) (s : State) : List Nat :=
  (List.range 96).filter (fun i => (s.slotAt i).any (fun w => w.key.station.toNat == station))

/-- R55: a station whose miss run has reached its threshold becomes SUSPECT. -/
def suspectStep (station : Nat) (s : State) : State :=
  match s.healthAt station with
  | none => s
  | some h =>
    if h.threshold ≠ 0 ∧ h.threshold ≤ h.missRun ∧ h.suspect = false then
      let s := s.adjustHealth station (fun h => { h with suspect := true })
      let s := raiseNoPosition .stationSuspect (natWord station) (natWord h.missRun) s
      (stationSlots station s).foldl (fun s k => makeStale k s) s
    else s

/-- R55: one station at the expiry. The own address is not examined. -/
def stationExpiry (station : Nat) (s : State) : State :=
  if station = s.fr.ownAddr.toNat then s
  else
    suspectStep station (s.adjustHealth station (fun h =>
      if h.heard then h else { h with missRun := bump 255 h.missRun }))

/-- Table 11-1: the STATUS item. -/
def statusItem (s : State) (events replies : Nat) : Item :=
  ⟨s.ownByte, 0, ItemKind.status.code, 0, s.flagWord, s.statusWords events replies⟩

/-- Table 11-1: an EVENT item. -/
def Event.item (own : Byte) (e : Event) : Item :=
  ⟨own, 0, ItemKind.event.code, BitVec.ofNat 16 e.kind.code, e.subject, [e.position, e.value, natWord e.cycle.toNat]⟩

/-- Table 11-1: an MREPLY item. -/
def Reply.item (own : Byte) (r : Reply) : Item :=
  ⟨own, BitVec.ofNat 8 r.part, ItemKind.mreply.code, r.tag, r.value, r.words⟩

/-- R56: the W640's own return frame, when it has a working address. -/
def ownReturn (s : State) : State :=
  if s.workingAddress then
    let events := s.mu.events.take 6
    let room := Config.ownReturnItems - 1 - events.length
    let replies := s.mu.replies.take room
    let s' := s.withMu { s.mu with
      events := s.mu.events.drop 6, replies := s.mu.replies.drop room }
    let f : Frame :=
      { kind := 2, flags := 0, source := s.ownByte, cycle := s.fr.cycle, sample := s.fr.sample
        items := statusItem s s'.mu.events.length s'.mu.replies.length ::
          (events.map (Event.item s.ownByte) ++ replies.map (Reply.item s.ownByte)) }
    sendCell f.compose s'
  else s

/-- R53: the steps of an expiry up to the own return frame, in order. -/
def expirySteps (s : State) : State :=
  let s := (List.range 96).foldl (fun s k => staleStep k s) (countMisses s)
  let s := (List.range 62).foldl (fun s k => stationExpiry (k + 1) s) s
  let s := examineCommands (trackExpiry s)
  (List.range 6).foldl (fun s i => event (countWaitStep i) s) s

/-- R53, R56: an expiry whole; the window is then closed. -/
def expiry (s : State) : State :=
  let s := ownReturn (expirySteps s)
  s.withFr { s.fr with windowOpen := false }

/-- R45, R58: an open window takes its expiry in full before a new cycle. -/
def closeWindow (s : State) : State := if s.fr.windowOpen then expiry s else s

/-! ### Sources (R48) -/

/-- The answers of the sources asked in a frame. -/
abbrev Asked := List (Source × Option Word)

/-- R48: ask a source for its value, at most once per frame. -/
def askSource (src : Source) (acc : State × Asked) : (State × Asked) × Option Word :=
  match acc.2.find? (fun a => a.1 == src) with
  | some a => (acc, a.2)
  | none =>
    let r : State × Option Word := match src with
      | .generator i =>
        let g := generatorValue i acc.1
        (g.1, g.2.map natWord)
      | .gate => (acc.1, acc.1.ccu.gate.map Gate.word)
      | .command _ => (acc.1, none)
    ((r.1, acc.2 ++ [(src, r.2)]), r.2)

/-- Ask the source of an entry that has one. -/
def askEntry (e : ChannelEntry) (acc : State × Asked) : (State × Asked) × Option Word :=
  match e.source with
  | some src => askSource src acc
  | none => (acc, none)

/-! ### The rewrite (R45, R48) -/

/-- The channel table entry of a key. -/
def entryOf (k : Key) (s : State) : Option ChannelEntry :=
  (firstIndex 128 (fun i => (s.entryAt i).any (·.key == k))).bind s.entryAt

/-- R48: the value limited to the band around the source's value. -/
def clampValue (v y : Word) (band : Nat) : Word :=
  BitVec.ofInt 32 (clampInt (y.toInt - band) (y.toInt + band) v.toInt)

/-- R48: what becomes of an item under its entry; none is removed. -/
def treatItem (i : Item) (kind : ItemKind) (e : ChannelEntry) (acc : State × Asked) :
    (State × Asked) × Option Item :=
  match e.mode with
  | .pass => (acc, some i)
  | .own => (acc, none)
  | .replace =>
    if kind = .set then
      let r := askEntry e acc
      (r.1, some (match r.2 with
        | some v => { i with value := v }
        | none => i))
    else (acc, some i)
  | .clamp =>
    if kind = .set then
      let r := askEntry e acc
      (r.1, some (match r.2 with
        | some y => { i with value := clampValue i.value y (e.band.getD 0) }
        | none => i))
    else (acc, some i)

/-- What FR has gathered while it works through a frame's items. -/
structure Rewrite where
  acc : State × Asked
  /-- Items that go on to the field port. -/
  items : List Item
  /-- MREQ items handed to MU. -/
  requests : List Item
  /-- Keys of the SET items the cell controller sent. -/
  sets : List Key

/-- R45: one item of a good outbound frame. -/
def rewriteItem (r : Rewrite) (i : Item) : Rewrite :=
  match i.readKind with
  | none => { r with items := r.items ++ [i] }
  | some kind =>
    let s := r.acc.1
    if s.workingAddress && i.station == s.ownByte then
      if kind = .mreq then { r with requests := r.requests ++ [i] } else r
    else
      let s := if kind = .set then storeItem i .set s else s
      let acc := (s, r.acc.2)
      let sets := if kind = .set then r.sets ++ [i.key] else r.sets
      match s.running, entryOf i.key s with
      | true, some e =>
        let t := treatItem i kind e acc
        { r with acc := t.1, sets := sets, items := r.items ++ t.2.toList }
      | _, _ => { r with acc := acc, sets := sets, items := r.items ++ [i] }

/-! ### Appending (R49, R58) -/

/-- An item to append; a command item names its channel and tag. -/
structure Appended where
  item : Item
  command : Option (Nat × Half)
  deriving DecidableEq, Repr

/-- R49: an appended SET item. -/
def setItem (k : Key) (v : Word) : Appended := ⟨⟨k.station, k.channel, ItemKind.set.code, 0, v, []⟩, none⟩

/-- The loaded channel table entries, in index order. -/
def State.entries (s : State) : List ChannelEntry := s.fr.channels.filterMap id

/-- R49, group 1: command items. -/
def commandGroup (s : State) : List Appended :=
  s.entries.flatMap (fun e =>
    match e.mode, e.source with
    | .own, some (.command ch) => (s.commandItems ch).map (fun i => ⟨i, some (ch, i.tag)⟩)
    | _, _ => [])

/-- R49: the idle value of a generator source. -/
def idleValue (src : Option Source) (s : State) : Option Word :=
  match src with
  | some (.generator i) => (s.generatorAt i).map (fun g => natWord g.cfg.idle)
  | _ => none

/-- R49, groups 2 and 3, for one entry: an owned setpoint, or a completion when no SET item came. -/
def setGroup (mode : ChannelMode) (sets : List Key) (r : (State × Asked) × List Appended) (e : ChannelEntry) :
    (State × Asked) × List Appended :=
  let isCommand := match e.source with
    | some (.command _) => true
    | _ => false
  if e.mode != mode || isCommand || (mode == .replace && sets.contains e.key) then r
  else
    let a := askEntry e r.1
    let v := match a.2 with
      | some v => some v
      | none => if mode = ChannelMode.own then idleValue e.source a.1.1 else none
    (a.1, r.2 ++ (v.map (setItem e.key)).toList)

/-- R49: the three groups, in order. -/
def appendGroups (acc : State × Asked) (sets : List Key) : (State × Asked) × List Appended :=
  let s := acc.1
  let own := s.entries.foldl (setGroup .own sets) (acc, commandGroup s)
  s.entries.foldl (setGroup .replace sets) own

/-- R49, R64: place as many as the frame holds; the commands placed take their send time. -/
def placeAppended (held : Nat) (l : List Appended) (s : State) : State × List Item :=
  let room := Config.outboundItems - held
  let placed := l.take room
  let s := if room < l.length then s.withFr { s.fr with frameFull := true } else s
  (placed.foldl
    (fun s a =>
      match a.command with
      | some (ch, t) => markSent ch t s
      | none => s)
    s, placed.map (·.item))

/-- R49: append the W640's own items, in RUN. -/
def appendOwn (acc : State × Asked) (sets : List Key) (held : Nat) : State × List Item :=
  if acc.1.running then
    let r := appendGroups acc sets
    placeAppended held r.2 r.1.1
  else (acc.1, [])

/-! ### Cycles (R45, R57 to R59) -/

/-- Begin a cycle: number, sample time and an open window (R45, R53, R58). -/
def beginCycle (cycle : Half) (now : Word) (s : State) : State :=
  s.withFr { s.fr with
    cycle := cycle, begun := true, sample := now, windowOpen := true, windowLen := s.fr.window
    health := s.fr.health.map (fun h => { h with heard := false }) }

/-- R57: in RUN the cell-loss timer restarts. -/
def restartTimer (now : Word) (s : State) : State :=
  if s.running then s.withFr { s.fr with timerStart := now, timerPeriod := s.fr.nominal } else s

/-- R59: a good outbound frame returns FR to NORMAL. -/
def restoreCell (cycle : Half) (s : State) : State :=
  match s.fr.state with
  | .lostCell =>
    raiseNoPosition .cellRestored (natWord cycle.toNat) (natWord s.fr.originated)
      (s.withFr { s.fr with state := .normal })
  | .normal => s

/-- R45: a good OUTBOUND frame up to its forwarding; answers the MREQ items handed to MU. -/
def goodOutboundStep (bytes : List Byte) (f : Frame) (now : Word) (s : State) : State × List Item :=
  let s := closeWindow (restoreCell f.cycle s)
  let s := restartTimer now (beginCycle f.cycle now s)
  let r := f.items.foldl rewriteItem { acc := (s, []), items := [], requests := [], sets := [] }
  let a := appendOwn r.acc r.sets r.items.length
  let items := r.items ++ a.2
  let out := if items = f.items then bytes
    else ({ f with flags := originatorFlag f.flags, items := items } : Frame).compose
  (sendField out a.1, r.requests)

/-- R45, R46: a frame arriving on the cell port, up to its forwarding. -/
def relayOutbound (bytes : List Byte) (now : Word) (s : State) : State × List Item :=
  let s := setClock now s
  match goodOutbound bytes with
  | some f => goodOutboundStep bytes f now s
  | none => (sendField bytes (s.withFr { s.fr with badOutbound := bump 65535 s.fr.badOutbound }), [])

/-- R58: originate a frame, which begins a cycle. -/
def originate (now : Word) (s : State) : State :=
  let s := closeWindow s
  let s := beginCycle (s.fr.cycle + 1) now s
  let s := s.withFr { s.fr with lastOriginated := now, originated := s.fr.originated + 1 }
  let a := appendOwn (s, []) [] 0
  let f : Frame := { kind := 1, flags := 1, source := 0, cycle := s.fr.cycle, sample := now, items := a.2 }
  sendField f.compose a.1

/-- R57: the cell-loss timer has reached 3 nominal periods. -/
def cellLossDue (now : Word) (s : State) : Bool :=
  s.running && s.fr.state == .normal && decide (3 * s.fr.timerPeriod ≤ (now - s.fr.timerStart).toNat)

/-- R57: enter LOST_CELL and originate the first frame at once. -/
def loseCell (now : Word) (s : State) : State :=
  let s := s.withFr { s.fr with state := .lostCell, originated := 0 }
  originate now (raiseNoPosition .cellLost (natWord s.fr.cycle.toNat) (now - s.fr.sample) s)

/-- R58: one nominal period has passed since the last originated frame. -/
def originateDue (now : Word) (s : State) : Bool :=
  s.fr.state == .lostCell && decide (s.fr.nominal ≤ (now - s.fr.lastOriginated).toNat)

/-- R53: the open window has elapsed on FR's clock. -/
def windowDue (now : Word) (s : State) : Bool :=
  s.fr.windowOpen && decide (s.fr.windowLen ≤ (now - s.fr.sample).toNat)

/-! ### Return frames (R43, R51, R52) -/

/-- R51: one item of an in-time return frame. -/
def readItemIn (source : Byte) (s : State) (i : Item) : State :=
  if i.station != source then s
  else
    match i.readKind with
    | some .report => storeItem i .report s
    | some .accept => handAnswer i .accept s
    | some .done => handAnswer i .done s
    | some .refuse => handAnswer i .refuse s
    | _ => s

/-- R51: an in-time good frame was heard from a station. -/
def hearStation (station : Nat) (s : State) : State :=
  match s.healthAt station with
  | none => s
  | some h =>
    let s := s.adjustHealth station (fun h => { h with missRun := 0, heard := true, suspect := false })
    if h.suspect then raiseSubject .stationRestored (natWord station) s else s

/-- R51: a good RETURN frame is in time. -/
def inTime (f : Frame) (s : State) : Bool := s.fr.windowOpen && f.cycle == s.fr.cycle

/-- R51, R52: a good RETURN frame of another station. -/
def goodReturnStep (f : Frame) (s : State) : State :=
  if inTime f s then f.items.foldl (readItemIn f.source) (hearStation f.source.toNat s)
  else s.adjustHealth f.source.toNat (fun h => { h with late := bump 65535 h.late })

/-- A source station byte counts in a station's health: 1 to 62 and not the W640's own (R43, R52). -/
def countedSource (b : Byte) (s : State) : Bool :=
  1 ≤ b.toNat && b.toNat ≤ 62 && !(s.workingAddress && b == s.ownByte)

/-- R43, R51, R52: a frame arriving on the field port. -/
def relayReturn (bytes : List Byte) (s : State) : State :=
  let s := sendCell bytes s
  match goodReturn bytes with
  | some f => if countedSource f.source s then goodReturnStep f s else s
  | none =>
    match bytes[2]? with
    | some b =>
      if countedSource b s then s.adjustHealth b.toNat (fun h => { h with bad := bump 65535 h.bad }) else s
    | none => s

end Sys2Proof.Machine
end

