-- ==== Sys2Proof/Machine/Tables.lean ====
section
/-! DEFINITION. Machine/Tables.lean: TABLE_WRITE (11, R167), table by table: the shared checks, the checks of
each table's own chapter and the store. A write answers the state and the reply; a refused one leaves the
record as it was. Log 19 to 21 and 41 say what the spec leaves to prose. -/

namespace Sys2Proof.Machine

/-! ### Replies (Table 11-3) -/

/-- What a request is answered with: reply code, subcode and result words. -/
structure Answer where
  code : Nat
  sub : Nat
  words : List Word
  deriving DecidableEq, Repr

def Answer.ok (words : List Word) : Answer := ⟨0, 0, words⟩
/-- KEPT lists the places of the E fields kept (R167). -/
def Answer.kept (places : List Nat) : Answer := ⟨1, 0, places.map natWord⟩
def Answer.refuse (code : Nat) : Answer := ⟨code, 0, []⟩

/-- Reply codes of Table 11-3. -/
def busyCode : Nat := 2
def unknownCode : Nat := 3
def rangeCode : Nat := 4
def accessCode : Nat := 5
def notInSetupCode : Nat := 6
def notInRunCode : Nat := 7
def inUseCode : Nat := 8
def inProgressCode : Nat := 9
def alreadyCutCode : Nat := 10
def duplicateCode : Nat := 11
def queueFullCode : Nat := 12
def refRangeCode : Nat := 13
def refAbsentCode : Nat := 14
def refFitCode : Nat := 15
def checkFailedCode : Nat := 16
def notStoppedCode : Nat := 17

/-- A request's outcome: the state it leaves and its reply. -/
abbrev Outcome := State × Answer

/-- A refusal leaves the state as it was. -/
def refuse (code : Nat) (s : State) : Outcome := (s, Answer.refuse code)

/-! ### The shared checks of TABLE_WRITE (R167) -/

/-- The classes of a field group: all R, some S, all writable E, F and E mixed. -/
inductive GroupClass where | readOnly | setup | engineer | mixed
  deriving DecidableEq, Repr

/-- R167, step 3. -/
def writeAccess (c : GroupClass) (level : Word) : Bool :=
  match c with
  | .readOnly => false
  | .setup => level == 2
  | .engineer => level == 2
  | .mixed => level == 1 || level == 2

/-- R167, steps 2 to 4, then the table's own checks. -/
def guardWrite (inRange : Bool) (c : GroupClass) (level : Word) (s : State) (body : Outcome) : Outcome :=
  if !inRange then refuse rangeCode s
  else if !writeAccess c level then refuse accessCode s
  else if c = .setup ∧ s.running then refuse notInSetupCode s
  else body

/-- A key's station equals the W640's own address. -/
def ownStation (k : Key) (s : State) : Bool := s.workingAddress && k.station == s.ownByte

/-! ### Sections (R1, R3, R4, R5) -/

/-- Table 1-3 when a section is first loaded. -/
def TrackState.initial : TrackState :=
  { count := 0, source := .held, primaryOffset := 0, backupOffset := 0, shadow := false, base := 0
    remainder := 0, lastUpdate := 0, history := [], speed := 0, snapshot := 0 }

/-- R4: the track state of a rewritten section. -/
def TrackState.restart (t : TrackState) : TrackState :=
  { t with source := .held, shadow := false, remainder := 0, history := [] }

/-- A point kind that only a BOARD section may hold (R1). -/
def PointUse.boardOnly : PointUse → Bool
  | .slitterA | .slitterB | .knife | .gate | .stacker => true
  | _ => false

/-- The fields of a section write: kind (none for NONE) and the record. -/
def readSection (fields : List Word) : Option (Option SectionKind × SectionCfg) :=
  match fields with
  | kd :: pr :: bk :: rk :: rf :: mg :: ex :: dn :: n :: rest => do
    let kind ← readSectionKind kd
    let primary ← readNat 0 95 pr
    let backup ← readOpt 0 95 bk
    let reckon ← readYesNo rk
    let ref ← readOpt 0 95 rf
    let margin ← readNat 0 1000000 mg
    let exit ← readNat 0 10000000 ex
    let down ← readOpt 0 10 dn
    let count ← readNat 0 8 n
    let points ← readPoints count rest
    pure (kind, { kind := kind.getD .web, primarySlot := primary, backupSlot := backup, reckon := reckon
                  refSlot := ref, margin := margin, exitDist := exit, down := down, points := points })
  | _ => none

/-- Points in the loaded records other than one. -/
def otherPoints (i : Nat) (s : State) : Nat :=
  ((List.range 12).map (fun k =>
    if k = i then 0
    else match s.sectionAt k with
      | some c => c.cfg.points.length
      | none => 0)).sum

/-- R1: the further RANGE checks. A BOARD record written with a downstream link passes them (log 99, DESIGN
CHOICE): Table 1-1 says none for BOARD, and R1 and R169 name no refusal. -/
def sectionFits (i : Nat) (kind : Option SectionKind) (c : SectionCfg) (s : State) : Bool :=
  c.backupSlot != some c.primarySlot && (!c.reckon || c.refSlot.isSome) &&
  c.points.all (fun p => p.dist ≤ c.exitDist) && otherPoints i s + c.points.length ≤ 48 &&
  (kind == some .board || c.points.all (fun p => !p.use.boardOnly))

/-- R3: a loaded link names the section, or its list holds a mark. -/
def sectionInUse (i : Nat) (s : State) : Bool :=
  (List.range 11).any (fun k => (s.linkAt k).any (fun l => l.up == i || l.down == i)) ||
    !(s.mapAt i).marks.isEmpty

/-- R1, R4, R5, R42: store a section record. -/
def storeSection (i : Nat) (c : SectionCfg) (s : State) : State :=
  match s.sectionAt i with
  | none =>
    (s.setSection i (some ⟨c, TrackState.initial⟩)).adjustMap i (fun _ => SectionMap.initial 0)
  | some old =>
    let s := (s.setSection i (some ⟨c, old.trk.restart⟩)).adjustMap i (fun m =>
      { m with baselines := List.replicate 8 none })
    if old.trk.source = .held then s else raiseSwitch i old.trk.count .held s

/-- Table id 1. Freeing a section, whose source state the status item then has as NONE, raises no SOURCE_SWITCH (R3,
R11; log 117, DESIGN CHOICE). -/
def writeSection (level index group : Word) (fields : List Word) (s : State) : Outcome :=
  guardWrite (decide (index.toNat ≤ 11 ∧ group = 0)) .setup level s <|
    let i := index.toNat
    match readSection fields with
    | none => refuse rangeCode s
    | some (kind, c) =>
      if !sectionFits i kind c s then refuse rangeCode s
      else
        match kind with
        | some _ => (storeSection i c s, Answer.ok [])
        | none =>
          if (s.sectionAt i).isSome && sectionInUse i s then refuse inUseCode s
          else (s.setSection i none, Answer.ok [])

/-! ### Links (R2, R3) -/

/-- The six class S fields of a link. -/
def readLink (fields : List Word) : Option Link :=
  match fields with
  | [up, dn, r, st, w, mc] => do
    let up ← readNat 0 11 up
    let down ← readNat 0 11 dn
    let ratio ← readNat 2048 8192 r
    let store ← readYesNo st
    let widen ← readNat 0 1000000 w
    let maxCorr ← readNat 0 100000 mc
    pure { up := up, down := down, ratio := ratio, store := store, storeWiden := widen, maxCorr := maxCorr
           aUp := 0, aDown := 0, anchored := false }
  | _ => none

/-- R3: the record, loaded or free, is named as a loaded section's downstream link or a point's verified link. -/
def linkInUse (i : Nat) (s : State) : Bool :=
  (List.range 12).any (fun k => (s.sectionAt k).any (fun c =>
    c.cfg.down == some i || c.cfg.points.any (fun p =>
      match p.use with
      | .jointSensor _ _ v _ _ => v == i
      | _ => false)))

/-- A link write that names no sections. -/
def namesNoSections : List Word → Bool
  | [up, dn, _, _, _, _] => up == absentWord && dn == absentWord
  | _ => false

/-- Table id 2. The state of a link stands in no group (log 107, DESIGN CHOICE). -/
def writeLink (level index group : Word) (fields : List Word) (s : State) : Outcome :=
  guardWrite (decide (index.toNat ≤ 10 ∧ group = 0)) .setup level s <|
    let i := index.toNat
    if namesNoSections fields then
      if linkInUse i s then refuse inUseCode s else (s.setLink i none, Answer.ok [])
    else
      match readLink fields with
      | none => refuse rangeCode s
      | some l => if l.up = l.down then refuse rangeCode s else (s.setLink i (some l), Answer.ok [])

/-! ### The relay's tables (R47, R50, R53, R55) -/

/-- Table id 3: nominal period and return window. The relay's state stands in no group (log 107, DESIGN CHOICE). -/
def writeRelay (level index group : Word) (fields : List Word) (s : State) : Outcome :=
  guardWrite (decide (index = 0 ∧ group = 0)) .setup level s <|
    match fields with
    | [n, w] =>
      match readNat 500 4000 n, readNat 100 4000 w with
      | some n, some w =>
        if w + 100 ≤ n then (s.withFr { s.fr with nominal := n, window := w }, Answer.ok [])
        else refuse rangeCode s
      | _, _ => refuse rangeCode s
    | _ => refuse rangeCode s

/-- NONE 0, PASS 1, REPLACE 2, CLAMP 3, OWN 4 (Table 3-3). -/
def readChannelMode (w : Word) : Option (Option ChannelMode) :=
  match w.toNat with
  | 0 => some none
  | 1 => some (some .pass)
  | 2 => some (some .replace)
  | 3 => some (some .clamp)
  | 4 => some (some .own)
  | _ => none

/-- Source kind and index: none 0 or absent, GENERATOR 1, COMMAND 2, GATE 3 (Table 3-3; log 20). The index is absent
for GATE and for none. -/
def readSource (kind index : Word) : Option (Option Source) :=
  match readOpt 0 23 index with
  | none => none
  | some i =>
    match if kind = absentWord then 0 else kind.toNat, i with
    | 0, none => some none
    | 1, some i => some (some (.generator i))
    | 2, some i => some (some (.command i))
    | 3, none => some (some .gate)
    | _, _ => none

/-- R47: the agreeing combinations of mode and source. -/
def sourceAgrees (m : ChannelMode) (src : Option Source) : Bool :=
  match m, src with
  | .pass, none => true
  | .replace, some (.generator _) => true
  | .replace, some .gate => true
  | .clamp, some (.generator _) => true
  | .own, some _ => true
  | _, _ => false

/-- The fields of a channel table entry. A band is taken with any mode (log 64). -/
def readChannelEntry (fields : List Word) : Option (Option ChannelMode × Key × Option Source × Option Nat) :=
  match fields with
  | [st, ch, md, sk, si, bd] => do
    let k ← readKey st ch
    let m ← readChannelMode md
    let src ← readSource sk si
    let band ← readOpt 0 65535 bd
    pure (m, k, src, band)
  | _ => none

/-- Another loaded entry, at a different index, has the key. -/
def keyTaken (i : Nat) (k : Key) (s : State) : Bool :=
  (List.range 128).any (fun j => j != i && (s.entryAt j).any (·.key == k))

/-- Table id 4. -/
def writeChannelEntry (level index group : Word) (fields : List Word) (s : State) : Outcome :=
  guardWrite (decide (index.toNat ≤ 127 ∧ group = 0)) .setup level s <|
    let i := index.toNat
    match readChannelEntry fields with
    | none => refuse rangeCode s
    | some (m, k, src, band) =>
      let agrees := match m with
        | some m => sourceAgrees m src && (m != .clamp || band.isSome)
        | none => true
      if ownStation k s || !agrees then refuse rangeCode s
      else if keyTaken i k s then refuse duplicateCode s
      else
        let e := m.map (fun m => ({ key := k, mode := m, source := src, band := band } : ChannelEntry))
        (s.withFr { s.fr with channels := s.fr.channels.set i e }, Answer.ok [])

/-- REPORT 0, SET 1 (Table 3-6). -/
def readWatchKind (w : Word) : Option WatchKind :=
  match w.toNat with
  | 0 => some .report
  | 1 => some .set
  | _ => none

/-- NONE 0, PT 1, WM 2, SC 3, SP 4, SG 5, SS 6 (Table 3-6). -/
def readOwner (w : Word) : Option (Option Owner) :=
  match w.toNat with
  | 0 => some none
  | 1 => some (some .pt)
  | 2 => some (some .wm)
  | 3 => some (some .sc)
  | 4 => some (some .sp)
  | 5 => some (some .sg)
  | 6 => some (some .ss)
  | _ => none

/-- The fields of a watch table entry. -/
def readWatchEntry (fields : List Word) : Option (Key × WatchKind × Option Owner × Nat) :=
  match fields with
  | [st, ch, kd, ow, lim] => do
    let k ← readKey st ch
    let kind ← readWatchKind kd
    let o ← readOwner ow
    let limit ← readNat 1 255 lim
    pure (k, kind, o, limit)
  | _ => none

/-- Table 3-6 after the entry is loaded. -/
def WatchEntry.loaded (k : Key) (kind : WatchKind) (o : Owner) (limit : Nat) : WatchEntry :=
  { key := k, kind := kind, owner := o, limit := limit, value := 0, aux := 0, lastCycle := none, lastSample := 0
    fresh := false, missRun := 0 }

/-- Table id 5. The state of an entry stands in no group (log 107, DESIGN CHOICE). -/
def writeWatch (level index group : Word) (fields : List Word) (s : State) : Outcome :=
  guardWrite (decide (index.toNat ≤ 95 ∧ group = 0)) .setup level s <|
    let i := index.toNat
    match readWatchEntry fields with
    | none => refuse rangeCode s
    | some (k, kind, o, limit) =>
      if ownStation k s then refuse rangeCode s
      else if (List.range 96).any (fun j => j != i && (s.slotAt j).any (fun w => w.key == k && w.kind == kind)) then
        refuse duplicateCode s
      else
        let e := o.map (fun o => WatchEntry.loaded k kind o limit)
        (s.withFr { s.fr with watch := s.fr.watch.set i e }, Answer.ok [])

/-- Table id 6: the SUSPECT threshold of a station. Its health record stands in no group (log 107, DESIGN CHOICE). -/
def writeThreshold (level index group : Word) (fields : List Word) (s : State) : Outcome :=
  guardWrite (decide (1 ≤ index.toNat ∧ index.toNat ≤ 62 ∧ group = 0)) .setup level s <|
    match fields with
    | [t] =>
      match readNat 0 255 t with
      | some t => (s.adjustHealth index.toNat (fun h => { h with threshold := t }), Answer.ok [])
      | none => refuse rangeCode s
    | _ => refuse rangeCode s

/-! ### Command channels (R61) -/

/-- NONE 0, SPLICER 1, SLITTER 2, KNIFE 3, STACKER 4 (Table 4-1). -/
def readClass (w : Word) : Option (Option CmdClass) :=
  match w.toNat with
  | 0 => some none
  | 1 => some (some .splicer)
  | 2 => some (some .slitter)
  | 3 => some (some .knife)
  | 4 => some (some .stacker)
  | _ => none

/-- A key that may be absent. -/
def readOptKey (st ch : Word) : Option (Option Key) :=
  if st = absentWord ∧ ch = absentWord then some none else (readKey st ch).map some

/-- The fields of a command channel record; a loaded record has a key. -/
def readCommandChannel (fields : List Word) : Option (Option CmdClass × Option Key × Nat × Nat × Nat) :=
  match fields with
  | [cl, st, ch, dp, ac, co] => do
    let c ← readClass cl
    let k ← readOptKey st ch
    let depth ← readNat 1 2 dp
    let accept ← readNat 1 10000 ac
    let complete ← readNat 1 600000 co
    if c.isSome && k.isNone then none else pure (c, k, depth, accept, complete)
  | _ => none

/-- Another loaded command channel has the key. -/
def commandKeyTaken (i : Nat) (k : Option Key) (s : State) : Bool :=
  k.isSome && (List.range 24).any (fun j => j != i && (s.channelAt j).any (fun c => c.cls.isSome && c.key == k))

/-- Table id 7. A channel's state fields stand in no group, so that a write of group 0 with words for them, as any
other word count, is refused with RANGE (log 107, DESIGN CHOICE). -/
def writeCommandChannel (level index group : Word) (fields : List Word) (s : State) : Outcome :=
  guardWrite (decide (index.toNat ≤ 23 ∧ group = 0)) .setup level s <|
    let i := index.toNat
    match readCommandChannel fields with
    | none => refuse rangeCode s
    | some (cls, k, depth, accept, complete) =>
      if (depth == 2 && cls != some .knife) || k.any (fun k => ownStation k s) then refuse rangeCode s
      else if commandKeyTaken i k s then refuse duplicateCode s
      else
        (s.adjustChannel i (fun c =>
          { Channel.resetTracking c with
            cls := cls, key := k, depth := depth, acceptTimeout := accept, completeTimeout := complete }),
         Answer.ok [])

/-! ### Grades and patterns (R75 to R77) -/

/-- An order that keeps a grade or pattern in use. -/
def Order.working (o : Order) : Bool := o.state == .committed || o.state == .cutting || o.state == .stacking

/-- The E fields of a grade's group 0. -/
def readGradeWebs (fields : List Word) : Option (Nat × List (Option Nat)) :=
  match fields with
  | [w, a, b, c, d, e, f] => do
    let width ← readNat 1000 40000 w
    let papers ← [a, b, c, d, e, f].mapM (readOpt 1 65535)
    pure (width, papers)
  | _ => none

/-- The settings of one generator in a grade. -/
def readGradeGen (fields : List Word) : Option GradeGen :=
  match fields with
  | [c, t, e] => do
    let curve ← readOpt 0 63 c
    let target ← readInt (-500) 3000 t
    let trim ← readYesNo e
    pure { curve := curve, target := target, trim := trim }
  | _ => none

/-- R75: a new grade's generator groups. -/
def GradeGen.initial : GradeGen := { curve := none, target := 0, trim := false }

/-- R77: the entry is in use and the write changes more than the released flag. -/
def gradeLocked (i : Nat) (old new : Grade) (s : State) : Bool :=
  s.op.queue.any (fun o => o.working && o.grade == i) && { new with released := old.released } != old

/-- R77: store a changed grade, unless it is locked. -/
def storeGrade (i : Nat) (old new : Grade) (reply : Answer) (s : State) : Outcome :=
  if gradeLocked i old new s then refuse inUseCode s
  else (s.withOp { s.op with grades := s.op.grades.set i new }, reply)

/-- R75, R167: a write of group 0. -/
def writeGradeHead (level : Word) (i : Nat) (fields : List Word) (s : State) : Outcome :=
  match fields with
  | rel :: rest =>
    match readYesNo rel, s.gradeAt i, decide (level = 2 ∧ rest.length = 7), decide (rest.length = 7) with
    | some r, some old, false, true => storeGrade i old { old with released := r } (Answer.kept [1, 2, 3, 4, 5, 6, 7]) s
    | some r, old, true, _ =>
      match readGradeWebs rest, old with
      | none, _ => refuse rangeCode s
      | some w, some old => storeGrade i old { old with released := r, width := w.1, papers := w.2 } (Answer.ok []) s
      | some w, none =>
        if i = s.op.grades.length then
          let g : Grade := { released := r, width := w.1, papers := w.2, gens := List.replicate 24 GradeGen.initial }
          (s.withOp { s.op with grades := s.op.grades ++ [g] }, Answer.ok [])
        else refuse rangeCode s
    | _, _, _, _ => refuse rangeCode s
  | [] => refuse rangeCode s

/-- Table id 8. -/
def writeGrade (level index group : Word) (fields : List Word) (s : State) : Outcome :=
  guardWrite (decide (index.toNat ≤ 31 ∧ group.toNat ≤ 24)) (if group = 0 then .mixed else .engineer) level s <|
    let i := index.toNat
    if group = 0 then writeGradeHead level i fields s
    else
      match readGradeGen fields, s.gradeAt i with
      | some g, some old => storeGrade i old { old with gens := old.gens.set (group.toNat - 1) g } (Answer.ok []) s
      | _, _ => refuse rangeCode s

/-- The E fields of a pattern: width, outs, slit positions, score positions. -/
def readPatternBody (fields : List Word) : Option (Nat × Nat × List Nat × List Nat) :=
  match fields with
  | w :: o :: n :: m :: rest => do
    let width ← readNat 1000 40000 w
    let outs ← readNat 1 7 o
    let slits ← readNat 0 6 n
    let scores ← readNat 0 10 m
    if rest.length ≠ slits + scores then none
    else do
      let a ← readAll 0 40000 (rest.take slits)
      let b ← readAll 0 40000 (rest.drop slits)
      if ascending a && ascending b && (a ++ b).all (· ≤ width) then pure (width, outs, a, b) else none
  | _ => none

/-- A pattern write has the words its counts say. -/
def patternShape (fields : List Word) : Bool :=
  match fields with
  | _ :: _ :: n :: m :: rest => rest.length == n.toNat + m.toNat
  | _ => false

/-- R77: store a changed pattern, unless the entry is in use. -/
def storePattern (i : Nat) (old new : Pattern) (reply : Answer) (s : State) : Outcome :=
  if s.op.queue.any (fun o => o.working && o.pattern == i) && { new with released := old.released } != old then
    refuse inUseCode s
  else (s.withOp { s.op with patterns := s.op.patterns.set i new }, reply)

/-- Table id 9. KEPT lists the places of the fields of Table 5-2 kept, not of the words (log 78). -/
def writePattern (level index group : Word) (fields : List Word) (s : State) : Outcome :=
  guardWrite (decide (index.toNat ≤ 63 ∧ group = 0)) .mixed level s <|
    let i := index.toNat
    match fields with
    | rel :: rest =>
      match readYesNo rel, s.patternAt i, decide (level = 2), patternShape rest with
      | some r, some old, false, true => storePattern i old { old with released := r } (Answer.kept [1, 2, 3, 4]) s
      | some r, old, true, _ =>
        match readPatternBody rest, old with
        | none, _ => refuse rangeCode s
        | some (w, o, a, b), some old =>
          storePattern i old { released := r, width := w, outs := o, slits := a, scores := b } (Answer.ok []) s
        | some (w, o, a, b), none =>
          if i = s.op.patterns.length then
            let p : Pattern := { released := r, width := w, outs := o, slits := a, scores := b }
            (s.withOp { s.op with patterns := s.op.patterns ++ [p] }, Answer.ok [])
          else refuse rangeCode s
      | _, _, _, _ => refuse rangeCode s
    | [] => refuse rangeCode s

/-- Table id 10: preset_dist, min_commit_ahead and grade_margin (Table 5-4). The planner's state stands in no group
(log 107, DESIGN CHOICE). -/
def writePlanner (level index group : Word) (fields : List Word) (s : State) : Outcome :=
  guardWrite (decide (index = 0 ∧ group = 0)) .engineer level s <|
    match readAll 0 10000000 fields with
    | some [a, b, c] => (s.withOp { s.op with presetDist := a, minCommit := b, gradeMargin := c }, Answer.ok [])
    | _ => refuse rangeCode s

/-! ### Splice records (R95) -/

/-- The class S fields of a splice record, the in use flag first. -/
structure SpliceHead where
  inUse : Bool
  sec : Nat
  role : Role
  channel : Nat
  diamSlot : Nat
  standbySlot : Nat
  countSlot : Option Nat
  deriving DecidableEq, Repr

def readSpliceHead (fields : List Word) : Option SpliceHead :=
  match fields with
  | [u, sc, r, c, d, sb, k] => do
    let inUse ← readYesNo u
    let sec ← readNat 0 11 sc
    let role ← readRole r
    let channel ← readNat 0 23 c
    let diam ← readNat 0 95 d
    let standby ← readNat 0 95 sb
    let count ← readOpt 0 95 k
    pure ⟨inUse, sec, role, channel, diam, standby, count⟩
  | _ => none

/-- Table 6-1: the group 1 values taken at first load. -/
def WebCfg.loaded (h : SpliceHead) : WebCfg :=
  { sec := h.sec, role := h.role, channel := h.channel, diamSlot := h.diamSlot, standbySlot := h.standbySlot
    countSlot := h.countSlot, core := 1000, k0 := 25000, dMin := 200, tol := 16, baseReserve := 500000
    spliceLead := 150000, issueMargin := 10000, zoneLead := 1000, zoneTrail := 1000, widen := 2000
    failZone := 100000 }

/-- The class S fields replaced. -/
def WebCfg.withHead (c : WebCfg) (h : SpliceHead) : WebCfg :=
  { c with sec := h.sec, role := h.role, channel := h.channel, diamSlot := h.diamSlot
           standbySlot := h.standbySlot, countSlot := h.countSlot }

/-- Group 1 of a splice record. -/
def readSpliceSettings (c : WebCfg) (fields : List Word) : Option WebCfg :=
  match fields with
  | [a, b, d, e, f, g, h, i, j, k, l] => do
    let core ← readNat 0 5000 a
    let k0 ← readNat 2048 65535 b
    let dMin ← readNat 1 10000 d
    let tol ← readNat 0 255 e
    let reserve ← readNat 0 10000000 f
    let lead ← readNat 0 10000000 g
    let margin ← readNat 0 1000000 h
    let zl ← readNat 0 1000000 i
    let zt ← readNat 0 1000000 j
    let u ← readNat 0 1000000 k
    let fail ← readNat 0 10000000 l
    pure { c with core := core, k0 := k0, dMin := dMin, tol := tol, baseReserve := reserve, spliceLead := lead
                  issueMargin := margin, zoneLead := zl, zoneTrail := zt, widen := u, failZone := fail }
  | _ => none

/-- R95: store group 0. -/
def storeSpliceHead (i : Nat) (h : SpliceHead) (s : State) : State :=
  if h.inUse then
    let cfg := match s.webAt i with
      | some w => w.cfg.withHead h
      | none => WebCfg.loaded h
    s.withSc (s.sc.set i (some ⟨cfg, WebState.initial cfg.k0⟩))
  else s.withSc (s.sc.set i none)

/-- Table id 11. The state fields of Table 6-2 stand in no group, so a write of a group above 1, or of further words,
is refused with RANGE (log 107, DESIGN CHOICE). -/
def writeSplice (level index group : Word) (fields : List Word) (s : State) : Outcome :=
  guardWrite (decide (index.toNat ≤ 5 ∧ group.toNat ≤ 1)) (if group = 0 then .setup else .engineer) level s <|
    let i := index.toNat
    if group = 0 then
      match readSpliceHead fields with
      | none => refuse rangeCode s
      | some h =>
        if (List.range 6).any (fun j => j != i && (s.webAt j).any (fun w =>
            w.cfg.sec == h.sec || w.cfg.channel == h.channel)) then refuse duplicateCode s
        else (storeSpliceHead i h s, Answer.ok [])
    else
      match readSpliceSettings (WebCfg.loaded ⟨true, 0, .primary, 0, 0, 0, none⟩) fields with
      | none => refuse rangeCode s
      | some _ =>
        match s.webAt i with
        | none => refuse refAbsentCode s
        | some w =>
          match readSpliceSettings w.cfg fields with
          | some cfg => (s.withSc (s.sc.set i (some { w with cfg := cfg })), Answer.ok [])
          | none => refuse rangeCode s

/-! ### Slitter stations and the pair record (R114) -/

/-- Tables 7-1 and 7-2 of a station that is newly in use: the group 1 values of first load, IDLE. -/
def Slitter.loaded (channel slot : Nat) : Slitter :=
  { cfg := { channel := channel, slot := slot, leadTime := 400, faultZone := 20000 }, state := .idle
    pattern := none, atRisk := false, live := none, settled := none, lastLead := 0 }

/-- R114: store group 0 of a station. A freed one is no cause of the cover run any more, which ends when it was the
last (R121, R122). -/
def storeStation (i : Nat) (inUse : Bool) (channel slot : Nat) (s : State) : State :=
  let x : Option Slitter :=
    if inUse then
      match s.stationAt i with
      | none => some (Slitter.loaded channel slot)
      | some x =>
        let same := x.cfg.channel == channel
        some { x with
          cfg := { x.cfg with channel := channel, slot := slot }
          live := if same then x.live else none
          settled := if same then x.settled else none }
    else none
  let s := s.withSp { s.sp with stations := s.sp.stations.set i x }
  if inUse then s else endCover .slitterFault s

/-- Table id 12. The state fields of a station stand in no group, so a write of a group above 1, or of further words,
is refused with RANGE (log 107, DESIGN CHOICE). -/
def writeStation (level index group : Word) (fields : List Word) (s : State) : Outcome :=
  guardWrite (decide (index.toNat ≤ 1 ∧ group.toNat ≤ 1)) (if group = 0 then .setup else .engineer) level s <|
    let i := index.toNat
    if group = 0 then
      match fields with
      | [u, c, k] =>
        match readYesNo u, readNat 0 23 c, readNat 0 95 k with
        | some u, some c, some k =>
          if (s.stationAt (1 - i)).any (fun x => x.cfg.channel == c || x.cfg.slot == k) then
            refuse duplicateCode s
          else (storeStation i u c k s, Answer.ok [])
        | _, _, _ => refuse rangeCode s
      | _ => refuse rangeCode s
    else
      match fields with
      | [t, z] =>
        match readNat 0 10000 t, readNat 0 1000000 z with
        | some t, some z =>
          if (s.stationAt i).isSome then
            (s.adjustStation i (fun x => { x with cfg := { x.cfg with leadTime := t, faultZone := z } }),
             Answer.ok [])
          else refuse refAbsentCode s
        | _, _ => refuse rangeCode s
      | _ => refuse rangeCode s

/-- Table id 13: late_step. The pair's state fields stand in no group, so a write of a group above 0, or of further
words, is refused with RANGE (log 107, DESIGN CHOICE). -/
def writePair (level index group : Word) (fields : List Word) (s : State) : Outcome :=
  guardWrite (decide (index = 0 ∧ group = 0)) .engineer level s <|
    match readAll 5000 1000000 fields with
    | some [n] => (s.withSp { s.sp with lateStep := n }, Answer.ok [])
    | _ => refuse rangeCode s

/-! ### Cut Planner record (R128) -/

/-- Group 1 of the Cut Planner record. -/
def readCutSettings (p : CutPlanner) (fields : List Word) : Option CutPlanner :=
  match fields with
  | [a, b, c, d, e, f] => do
    let minPiece ← readNat 2000 10000 a
    let swapGap ← readNat 2000 40000 b
    let scrap ← readNat 2000 80000 c
    let horizon ← readNat 10000 2000000 d
    let tol ← readNat 0 10000 e
    let miss ← readNat 100 100000 f
    pure { p with minPiece := minPiece, swapGap := swapGap, scrapLen := scrap, horizon := horizon, cutTol := tol
                  missDist := miss }
  | _ => none

/-- The distance from the KNIFE point to the STACKER point. -/
def knifeToStacker (s : State) : Int :=
  match s.boardPoint .knife, s.boardPoint .stacker with
  | some k, some t => t - k
  | _, _ => 0

/-- R128, R169: the gap and piece-list conditions of a Cut Planner record. -/
def cutRecordFits (p : CutPlanner) (s : State) : Bool :=
  p.minPiece ≤ p.swapGap && decide (knifeToStacker s ≤ ((64 * p.minPiece : Nat) : Int))

/-- Table id 14. max_piece, in neither group of R128, is a group 2 of its own (log 81). The state of
Table 8-3 stands in no group (log 107, DESIGN CHOICE). -/
def writeCutPlanner (level index group : Word) (fields : List Word) (s : State) : Outcome :=
  guardWrite (decide (index = 0 ∧ group.toNat ≤ 2))
      (if group = 0 then .setup else if group = 1 then .engineer else .readOnly) level s <|
    if group = 0 then
      match fields with
      | [k, r] =>
        match readOpt 0 23 k, readRole r with
        | some k, some r => (s.withCp { s.cp with knife := k, role := r }, Answer.ok [])
        | _, _ => refuse rangeCode s
      | _ => refuse rangeCode s
    else
      match readCutSettings s.cp fields with
      | none => refuse rangeCode s
      | some p =>
        if s.running && !cutRecordFits p s then refuse rangeCode s else (replanAll (s.withCp p), Answer.ok [])

/-! ### Stack and Gate Unit record (R143) -/

/-- Table id 17. SG's state fields stand in no group, so a write of a group above 1, or of further words, is refused
with RANGE (log 107, DESIGN CHOICE). -/
def writeStackGate (level index group : Word) (fields : List Word) (s : State) : Outcome :=
  guardWrite (decide (index = 0 ∧ group.toNat ≤ 1)) (if group = 0 then .setup else .engineer) level s <|
    match fields with
    | [a, b] =>
      if group = 0 then
        match readOpt 0 23 a, readOpt 0 95 b with
        | some c, some k => (s.withSg { s.sg with channel := c, slot := k }, Answer.ok [])
        | _, _ => refuse rangeCode s
      else
        match readNat 0 100000 a, readNat 0 1000000 b with
        | some g, some l => (s.withSg { s.sg with gateLead := g, laneLead := l }, Answer.ok [])
        | _, _ => refuse rangeCode s
    | _ => refuse rangeCode s

/-! ### Curves and generators (R152, R154) -/

/-- The fields of a curve. -/
def readCurve (fields : List Word) : Option (List Breakpoint) :=
  match fields with
  | n :: rest => do
    let count ← readNat 0 8 n
    let bs ← readBreakpoints rest
    if bs.length = count ∧ count ≠ 1 ∧ ascending (bs.map (·.v)) then pure bs else none
  | [] => none

/-- Table id 18. -/
def writeCurve (level index group : Word) (fields : List Word) (s : State) : Outcome :=
  guardWrite (decide (index.toNat ≤ 63 ∧ group = 0)) .engineer level s <|
    match readCurve fields with
    | some bs => (s.withSs { s.ss with curves := s.ss.curves.set index.toNat bs }, Answer.ok [])
    | none => refuse rangeCode s

/-- Group 1 of a generator record. -/
def readGeneratorSettings (c : GenCfg) (fields : List Word) : Option GenCfg :=
  match fields with
  | [a, b, d, e, f, g, h, i, j, k] => do
    let gain ← readInt (-32768) 32767 a
    let trimMax ← readNat 0 65535 b
    let slew ← readNat 1 65535 d
    let lo ← readNat 0 65535 e
    let hi ← readNat 0 65535 f
    let en ← readYesNo g
    let lv ← readNat 0 65535 h
    let ll ← readNat 0 1000000 i
    let sl ← readNat 0 1000000 j
    let idle ← readNat 0 65535 k
    if hi < lo then none
    else pure { c with gain := gain, trimMax := trimMax, slew := slew, outMin := lo, outMax := hi
                       liftEnable := en, liftValue := lv, liftLead := ll, switchLead := sl, idle := idle }
  | _ => none

/-- Table 10-2: the group 1 values taken at first load. -/
def GenCfg.loaded (sec point : Nat) (slot : Option Nat) : GenCfg :=
  { sec := sec, point := point, tempSlot := slot, gain := 0, trimMax := 0, slew := 65535, outMin := 0
    outMax := 65535, liftEnable := false, liftValue := 0, liftLead := 0, switchLead := 0, idle := 0 }

/-- R154: store group 0. -/
def storeGenerator (i : Nat) (inUse : Bool) (sec point : Nat) (slot : Option Nat) (s : State) : State :=
  let g : Option Generator :=
    if inUse then
      match s.generatorAt i with
      | none => some ⟨GenCfg.loaded sec point slot, GenState.initial⟩
      | some g =>
        let same := g.cfg.sec == sec && g.cfg.point == point
        some ⟨{ g.cfg with sec := sec, point := point, tempSlot := slot }, if same then g.st else GenState.initial⟩
    else none
  s.withSs { s.ss with generators := s.ss.generators.set i g }

/-- R154: in RUN the last output, outside lift, must stay in the new range. -/
def outputStays (g : Generator) (c : GenCfg) (s : State) : Bool :=
  !s.running || g.st.inLift || (g.st.lastOutput.all (fun o => c.outMin ≤ o && o ≤ c.outMax))

/-- Table id 19. The state fields of Table 10-3 stand in no group, so a write of a group above 1, or of further words,
is refused with RANGE (log 107, DESIGN CHOICE). -/
def writeGenerator (level index group : Word) (fields : List Word) (s : State) : Outcome :=
  guardWrite (decide (index.toNat ≤ 23 ∧ group.toNat ≤ 1)) (if group = 0 then .setup else .engineer) level s <|
    let i := index.toNat
    if group = 0 then
      match fields with
      | [u, sc, p, k] =>
        match readYesNo u, readNat 0 11 sc, readNat 0 7 p, readOpt 0 95 k with
        | some u, some sc, some p, some k =>
          if (List.range 24).any (fun j => j != i && (s.generatorAt j).any (fun g =>
              g.cfg.sec == sc && g.cfg.point == p)) then refuse duplicateCode s
          else (storeGenerator i u sc p k s, Answer.ok [])
        | _, _, _, _ => refuse rangeCode s
      | _ => refuse rangeCode s
    else
      match readGeneratorSettings (GenCfg.loaded 0 0 none) fields with
      | none => refuse rangeCode s
      | some _ =>
        match s.generatorAt i with
        | none => refuse refAbsentCode s
        | some g =>
          match readGeneratorSettings g.cfg fields with
          | none => refuse rangeCode s
          | some c =>
            if outputStays g c s then
              (s.withSs { s.ss with generators := s.ss.generators.set i (some { g with cfg := c }) }, Answer.ok [])
            else refuse rangeCode s

/-! ### Read-only tables and the dispatch by table id (Table 11-4) -/

/-- Tables 15, 16, 20 and 21 are of class R. -/
def writeReadOnly (inRange : Bool) (level : Word) (s : State) : Outcome :=
  guardWrite inRange .readOnly level s (refuse accessCode s)

/-- R167 step 1 and the table's write. -/
def writeTable (level table index group : Word) (fields : List Word) (s : State) : Outcome :=
  match table.toNat with
  | 1 => writeSection level index group fields s
  | 2 => writeLink level index group fields s
  | 3 => writeRelay level index group fields s
  | 4 => writeChannelEntry level index group fields s
  | 5 => writeWatch level index group fields s
  | 6 => writeThreshold level index group fields s
  | 7 => writeCommandChannel level index group fields s
  | 8 => writeGrade level index group fields s
  | 9 => writePattern level index group fields s
  | 10 => writePlanner level index group fields s
  | 11 => writeSplice level index group fields s
  | 12 => writeStation level index group fields s
  | 13 => writePair level index group fields s
  | 14 => writeCutPlanner level index group fields s
  | 15 => writeReadOnly (decide (index = 0 ∧ group = 0)) level s
  | 16 => writeReadOnly (decide (index = 0)) level s
  | 17 => writeStackGate level index group fields s
  | 18 => writeCurve level index group fields s
  | 19 => writeGenerator level index group fields s
  | 20 => writeReadOnly (decide (index.toNat ≤ 191 ∧ group = 0)) level s
  | 21 => writeReadOnly (decide (index.toNat ≤ 11)) level s
  | _ => refuse unknownCode s

end Sys2Proof.Machine
end

