-- ==== Sys2Proof/Machine/Reads.lean ====
section
/-! DEFINITION. Machine/Reads.lean: TABLE_READ (11, R166): the words each table's chapter returns (R20, R41, R60,
R74, R77, R94, R113, R127, R142, R151, R163). Logs 20, 22 and 70 say how the parts the spec gives in prose are
coded, log 59 that a record's index is not among its words. -/

namespace Sys2Proof.Machine

/-! ### Names as words (R166: the place in the values column, none as absent) -/

/-- "set or clear": set 0, clear 1. -/
def setClear (b : Bool) : Word := yesNo b

def Confirmation.word : Confirmation → Word
  | .provisional => 0 | .confirmed => 1 | .carried => 2 | .verified => 3

/-- Table 2-1: NONE is the sixth value. -/
def causeWord : Option ZoneCause → Word
  | some .defect => 0 | some .lateSwap => 1 | some .jointUnknown => 2 | some .spliceFail => 3
  | some .slitterFault => 4 | none => 5

def ChannelMode.word : ChannelMode → Word
  | .pass => 1 | .replace => 2 | .clamp => 3 | .own => 4

def sourceWords : Option Source → List Word
  | some (.generator i) => [1, natWord i]
  | some (.command i) => [2, natWord i]
  | some .gate => [3, absentWord]
  | none => [absentWord, absentWord]

def WatchKind.word : WatchKind → Word
  | .report => 0 | .set => 1

def Owner.word : Owner → Word
  | .pt => 1 | .wm => 2 | .sc => 3 | .sp => 4 | .sg => 5 | .ss => 6

def CmdClass.word : CmdClass → Word
  | .splicer => 1 | .slitter => 2 | .knife => 3 | .stacker => 4

def PieceCause.word : PieceCause → Word
  | .zone => 0 | .tail => 1 | .gap => 2 | .overrun => 3 | .noOrder => 4 | .cancelled => 5 | .range => 6

def optCause (c : Option PieceCause) : Word :=
  match c with
  | some c => c.word
  | none => absentWord

/-- GOOD 0, SCRAP 1 (Table 8-2). -/
def goodWord (b : Bool) : Word := if b then 0 else 1

/-- Route and reason: none, PASS 1, DIVERT 2 (Table 8-7). -/
def routeWords : Option Route → List Word
  | none => [absentWord, absentWord]
  | some .pass => [1, absentWord]
  | some (.divert r) => [2, natWord r.code]

def keyWords : Option Key → List Word
  | some k => [byteWord k.station, byteWord k.channel]
  | none => [absentWord, absentWord]

/-- Absent words for a part of a record that is not held. -/
def absentWords (n : Nat) : List Word := List.replicate n absentWord

/-! ### Path, relay and channels -/

/-- Table id 1 (R20). The section id, which the request names as its index, is not sent again (log 59). -/
def sectionWords (i : Nat) (s : State) : List Word :=
  match s.sectionAt i with
  | none => 0 :: absentWords 7 ++ [0] ++ absentWords 8
  | some c =>
    let t := c.trk
    [c.cfg.kind.word, natWord c.cfg.primarySlot, optWord c.cfg.backupSlot, yesNo c.cfg.reckon
     , optWord c.cfg.refSlot, natWord c.cfg.margin, natWord c.cfg.exitDist, optWord c.cfg.down
     , natWord c.cfg.points.length] ++ c.cfg.points.flatMap Point.words ++
    [t.count, natWord t.source.code, t.primaryOffset, t.backupOffset, yesNo t.shadow, natWord t.remainder
     , natWord t.speed, t.snapshot]

/-- Table id 2 (R20): UNANCHORED 0, ANCHORED 1. -/
def linkWords (i : Nat) (s : State) : List Word :=
  match s.linkAt i with
  | none => absentWords 6 ++ [0, 0, 0]
  | some l =>
    [natWord l.up, natWord l.down, natWord l.ratio, setClear l.store, natWord l.storeWiden, natWord l.maxCorr
     , l.aUp, l.aDown, if l.anchored then 1 else 0]

/-- Table id 3 (R60): the fields of Table 3-2 in order; the window is 0 closed, 1 open. -/
def relayWords (s : State) : List Word :=
  [natWord s.fr.ownAddr.toNat, natWord s.fr.nominal, natWord s.fr.window, s.fr.state.word
   , halfWord s.fr.cycle, s.fr.sample, if s.fr.windowOpen then 1 else 0, natWord s.fr.badOutbound
   , setClear s.fr.frameFull]

/-- Table id 4. -/
def channelEntryWords (i : Nat) (s : State) : List Word :=
  match s.entryAt i with
  | none => [absentWord, absentWord, 0, absentWord, absentWord, absentWord]
  | some e => keyWords (some e.key) ++ [e.mode.word] ++ sourceWords e.source ++ [optWord e.band]

/-- Table id 5: FRESH 0, STALE 1. -/
def watchWords (i : Nat) (s : State) : List Word :=
  match s.slotAt i with
  | none => absentWords 3 ++ [0] ++ absentWords 7
  | some w =>
    keyWords (some w.key) ++ [w.kind.word, w.owner.word, natWord w.limit, w.value, w.aux, optHalf w.lastCycle
      , w.lastSample, freshWord w.fresh, natWord w.missRun]

/-- Table id 6. -/
def healthWords (i : Nat) (s : State) : List Word :=
  match s.healthAt i with
  | none => absentWords 5
  | some h => [natWord h.threshold, natWord h.bad, natWord h.late, natWord h.missRun, setClear h.suspect]

/-- Table 4-2. -/
def commandWords (c : Command) : List Word :=
  [halfWord c.tag, natWord c.verb.place] ++ listWords c.args ++
  (match c.role with
    | some r => [natWord r.sec, r.role.word]
    | none => [absentWord, absentWord]) ++
  [if c.accepted then 1 else 0, yesNo c.abort, optPos c.sendTime, optPos c.acceptTime, yesNo c.overdue]

/-- Table id 7 (R74). The pending slot is sent as a list of 0 or 1 command (log 88), and no unsolicited record as one
absent word (log 93). -/
def commandChannelWords (i : Nat) (s : State) : List Word :=
  match s.channelAt i with
  | none => []
  | some c =>
    [match c.cls with
      | some k => k.word
      | none => 0] ++ keyWords c.key ++
    [natWord c.depth, natWord c.acceptTimeout, natWord c.completeTimeout, natWord c.outstanding.length] ++
    c.outstanding.flatMap commandWords ++ [natWord c.pend.toList.length] ++ c.pend.toList.flatMap commandWords ++
    [halfWord c.nextTag] ++ listWords (c.recent.map halfWord) ++
    (match c.lastUnsol with
      | some u => u.value :: listWords u.words ++ [halfWord u.cycle]
      | none => [absentWord]) ++
    [if c.fault then 1 else 0]

/-! ### Grades, patterns, orders -/

/-- Table id 8 (R77): a group, then the loaded count. -/
def gradeWords (i group : Nat) (s : State) : List Word :=
  let g := s.gradeAt i
  (match group with
    | 0 =>
      match g with
      | some g => [yesNo g.released, natWord g.width] ++ g.papers.map optWord
      | none => absentWords 8
    | k + 1 =>
      match g.bind (fun g => g.gens[k]?) with
      | some x => [optWord x.curve, wordOf x.target, yesNo x.trim]
      | none => absentWords 3) ++ [natWord s.op.grades.length]

/-- Table id 9 (R77): the entry, then the loaded count. -/
def patternWords (i : Nat) (s : State) : List Word :=
  (match s.patternAt i with
    | some p =>
      [yesNo p.released, natWord p.width, natWord p.outs, natWord p.slits.length, natWord p.scores.length] ++
        p.slits.map natWord ++ p.scores.map natWord
    | none => absentWords 3 ++ [0, 0]) ++ [natWord s.op.patterns.length]

/-- B_proj, in two words: a position 0 and the position, FAR 1 and absent (log 20); none is absent (R166). -/
def projectionWords : Projection → List Word
  | .none => [absentWord, absentWord]
  | .at p => [0, p]
  | .far => [1, absentWord]

/-- Table id 10 (R94): Table 5-4, the open order's key and NEXT's key. -/
def plannerWords (s : State) : List Word :=
  [natWord s.op.presetDist, natWord s.op.minCommit, natWord s.op.gradeMargin] ++ projectionWords s.op.bproj ++
  [blockWord s.op.block, optWord s.op.runningGrade, optWord s.op.runningPattern] ++
  optOrder (s.openOrder.map (·.key)) ++ optOrder s.nextKey

/-- Table 9-3, in its order. -/
def Breakdown.words (b : Breakdown) : List Word :=
  [b.zone, b.tail, b.gap, b.overrun, b.cancelled, b.range, b.gateZone, b.cutFault, b.noLane, b.stackerBehind].map
    natWord

/-- ORDER_READ (R94, R151): Table 5-3 with the scrap breakdown. -/
def Order.words (o : Order) : List Word :=
  [o.key.number, natWord o.key.part, natWord o.grade, natWord o.pattern, natWord o.length, natWord o.sheets
   , natWord o.cuts, natWord o.stackCount, natWord o.lane, natWord o.overrun, natWord o.state.code] ++
  optBoundary o.start ++ optBoundary o.fin ++
  [natWord o.good, natWord o.scrap, natWord o.dropped, yesNo o.split, yesNo o.cancelled] ++ o.breakdown.words

/-- Table 9-4. -/
def Completion.words (c : Completion) : List Word :=
  [c.key.number, natWord c.key.part, if c.cancelled then 1 else 0, yesNo c.split, c.boundary, natWord c.good
   , natWord c.sheets, natWord c.scrap] ++ c.breakdown.words ++
  [natWord c.dropped, natWord c.short, natWord c.excess, halfWord c.cycle]

/-! ### Splicers, slitters, knife, stacker -/

/-- PLANNED 0, ISSUED 1, ACCEPTED 2 (Table 6-2). -/
def PlanState.word : PlanState → Word
  | .planned => 0 | .issued => 1 | .accepted => 2

/-- Table 6-2 with the remaining length and reserve of the last evaluation (R113). -/
def webStateWords (x : WebState) : List Word :=
  (match x.plan with
    | some p => [natWord p.kind.code, p.state.word, p.target, optPos p.boundary, yesNo p.early, optWord p.paper]
    | none => 0 :: absentWords 3 ++ [yesNo false, absentWord]) ++
  [optHalf x.spliceTag, optHalf x.prepareTag, optHalf x.settledTag] ++
  (match x.mark with
    | some m => [natWord m.slot, natWord m.serial, if m.created then 0 else 1]
    | none => absentWords 3) ++
  [yesNo x.blocked, natWord x.samples.length] ++ x.samples.flatMap (fun p => [p.1, natWord p.2]) ++
  [natWord x.k, natWord x.confidence, yesNo x.reelKnown, optHalf x.holdCycle, natWord x.diameter, x.cD
   , optHalf x.accounted, natWord x.countWait, natWord x.lastLength, natWord x.lastReserve]

/-- Table id 11 (R113): a group of Table 6-1, then the state; a record not in use has the state of Table 6-2. -/
def spliceWords (i group : Nat) (s : State) : List Word :=
  match s.webAt i with
  | none =>
    (if group = 0 then yesNo false :: absentWords 6 else absentWords 11) ++
      webStateWords (WebState.initial (WebCfg.loaded ⟨false, 0, .primary, 0, 0, 0, none⟩).k0)
  | some w =>
    let c := w.cfg
    (if group = 0 then
      [yesNo true, natWord c.sec, c.role.word, natWord c.channel, natWord c.diamSlot, natWord c.standbySlot
       , optWord c.countSlot]
    else
      [natWord c.core, natWord c.k0, natWord c.dMin, natWord c.tol, natWord c.baseReserve, natWord c.spliceLead
       , natWord c.issueMargin, natWord c.zoneLead, natWord c.zoneTrail, natWord c.widen, natWord c.failZone]) ++
    webStateWords w.st

/-- Table 7-2 and the lead distance last computed. -/
def slitterStateWords (x : Slitter) : List Word :=
  [natWord x.state.code, optWord x.pattern, yesNo x.atRisk] ++
  (match x.live with
    | some l => [natWord l.verb.place, halfWord l.tag]
    | none => absentWords 2) ++
  [optHalf x.settled, natWord x.lastLead]

/-- Table id 12 (R127): a group of Table 7-1, then the state; a record not in use has the state of Table 7-2 (R126). -/
def stationWords (i group : Nat) (s : State) : List Word :=
  match s.stationAt i with
  | none =>
    (if group = 0 then yesNo false :: absentWords 2 else absentWords 2) ++ slitterStateWords (Slitter.loaded 0 0)
  | some x =>
    (if group = 0 then [yesNo true, natWord x.cfg.channel, natWord x.cfg.slot]
    else [natWord x.cfg.leadTime, natWord x.cfg.faultZone]) ++ slitterStateWords x

def SwapStage.word : SwapStage → Word
  | .waiting => 0 | .moving => 1 | .late => 2

def DropProgress.word : DropProgress → Word
  | .notSent => 0 | .sent => 1 | .done => 2

def LiftProgress.word : LiftProgress → Word
  | .notSent => 0 | .sent => 1 | .done => 2 | .failed => 3 | .notNeeded => 4

/-- Table 7-3; no swap is one absent word for each of its words (log 93). -/
def swapWords : Option Swap → List Word
  | none => absentWords 11
  | some w =>
    [if w.kind = .boundary then (0 : Word) else 1] ++ optBoundary w.boundary ++
    [natWord w.pattern, natWord w.newStation, optWord w.oldStation, w.stage.word, w.drop.word, w.lift.word
     , optPos w.lateStart]

/-- Table id 13 (R127): late_step, the pair state, the swap and the cover run. -/
def pairWords (s : State) : List Word :=
  [natWord s.sp.lateStep, natWord s.pairState.code] ++ swapWords s.sp.swap ++
  [yesNo s.sp.cover.active, s.sp.cover.rear, s.sp.cover.start]

/-- The entries of the cut plan in order: PLANNED 0, SENT 1 (Table 8-2). -/
def cutPlanWords (s : State) : List Word :=
  natWord s.cp.plan.length :: s.cp.plan.flatMap (fun e =>
    [e.target, goodWord e.good, optCause e.cause] ++ optOrder e.order ++
    [if e.sent.isSome then 1 else 0, optHalf e.sent])

/-- Table id 14 (R142): a group of Table 8-1, max_piece being group 2 (log 81), then Table 8-3 and the planning point.
Of the piece list the length is sent: its pieces are read with their own table, since a reply has at most 8 parts (R165;
log 74). -/
def cutPlannerWords (group : Nat) (s : State) : List Word :=
  let p := s.cp
  (match group with
    | 0 => [optWord p.knife, p.role.word]
    | 1 => [natWord p.minPiece, natWord p.swapGap, natWord p.scrapLen, natWord p.horizon, natWord p.cutTol
            , natWord p.missDist]
    | _ => [natWord Config.maxPiece]) ++
  cutPlanWords s ++ [optPos p.base, optPos p.lastCut, yesNo p.frontFault] ++ optOrder p.rangeOrder ++
  [natWord p.pieces.length, optPos s.planningPoint]

/-- One piece of Table 8-7. -/
def Piece.words (p : Piece) : List Word :=
  [p.lead, p.trail, goodWord p.good, optCause p.cause] ++ optOrder p.order ++ [setClear p.cutFault] ++
  routeWords p.route

/-- Table id 16 (R142): the length of the list and up to 16 pieces from a place. -/
def pieceListWords (start : Nat) (s : State) : List Word :=
  natWord s.cp.pieces.length :: ((s.cp.pieces.drop start).take 16).flatMap Piece.words

/-- Table id 17 (R151): a group of Table 9-1, then Table 9-2. -/
def stackGateWords (group : Nat) (s : State) : List Word :=
  let g := s.sg
  let owedWords (d : Option OwedDrop) : List Word :=
    match d with
    | some d => optOrder (some d.order) ++ [natWord d.count]
    | none => absentWords 3
  (if group = 0 then [optWord g.channel, optWord g.slot] else [natWord g.gateLead, natWord g.laneLead]) ++
  [match g.published with
    | some .pass => 1
    | some .divert => 2
    | none => absentWord] ++
  (match g.forward with
    | some f => f.lead :: routeWords (some f.route)
    | none => absentWords 3) ++
  optOrder g.run.order ++ [natWord g.run.count] ++ owedWords g.owed ++ owedWords g.closeDrop ++
  [natWord g.cmds.length] ++
  g.cmds.flatMap (fun c =>
    [halfWord c.tag, natWord c.verb.place] ++ optOrder (some c.order) ++ [natWord c.arg]) ++
  (match g.laneSent with
    | some l => optOrder (some l.order) ++ [natWord l.lane]
    | none => absentWords 3) ++
  optOrder g.laneMissing ++ [natWord g.unassigned]

/-! ### Curves and generators -/

/-- Table id 18. -/
def curveWords (i : Nat) (s : State) : List Word :=
  let c := (s.ss.curves[i]?).getD []
  natWord c.length :: c.flatMap (fun b => [natWord b.v, natWord b.y])

/-- Table 10-3. -/
def genStateWords (x : GenState) : List Word :=
  [optWord x.inForce, natWord x.pending.length] ++ x.pending.flatMap (fun e => [e.pos, natWord e.grade]) ++
  [optWord x.lastOutput, yesNo x.inLift, wordOf x.lastTrim, yesNo x.curveAbsent, natWord x.lastBase
   , natWord x.lastSpeed]

/-- Table id 19 (R163): a group of Table 10-2, then the state; a record not in use has the state of Table 10-3. -/
def generatorWords (i group : Nat) (s : State) : List Word :=
  match s.generatorAt i with
  | none =>
    (if group = 0 then yesNo false :: absentWords 3 else absentWords 10) ++ genStateWords GenState.initial
  | some g =>
    let c := g.cfg
    (if group = 0 then [yesNo true, natWord c.sec, natWord c.point, optWord c.tempSlot]
    else
      [wordOf c.gain, natWord c.trimMax, natWord c.slew, natWord c.outMin, natWord c.outMax, yesNo c.liftEnable
       , natWord c.liftValue, natWord c.liftLead, natWord c.switchLead, natWord c.idle]) ++ genStateWords g.st

/-! ### The map (R41) -/

/-- The whole record of Table 2-1. The pattern change of a SPLICE or ZONE mark, which never is one, is sent as no
(log 63). -/
def Mark.words (m : Mark) : List Word :=
  [natWord m.slot, natWord m.serial, natWord m.kind.code, causeWord m.cause, natWord m.sec, m.pos, natWord m.lead
   , natWord m.trail, natWord m.widening, m.conf.word, setClear m.reckoned, optWord m.via, optWord m.verifiedAt
   , optWord m.origin] ++ optOrder m.order ++ [yesNo m.patternChange]

/-- Table id 20: the record in a slot; FREE is the slot with serial 0, which no mark has (log 22). -/
def markWords (slot : Nat) (s : State) : List Word :=
  match s.markInSlot slot with
  | some m => m.words
  | none => [natWord slot, 0]

/-- Table id 21: the length of a section's list and up to 20 marks from a place. -/
def mapListWords (sec start : Nat) (s : State) : List Word :=
  let l := if (s.sectionAt sec).isSome then (s.mapAt sec).marks else []
  natWord l.length :: ((l.drop start).take 20).flatMap (fun m => [natWord m.slot, natWord m.serial])

/-! ### TABLE_READ (R166) -/

/-- Which index and group a table has; none for an unknown table id. Every starting place of the piece list and of a
map list is a group it has: one at or beyond the list's length is answered with the length alone (log 116, DESIGN
CHOICE). -/
def tableHas (table index group : Nat) : Option Bool :=
  let one (n : Nat) : Option Bool := some (decide (index ≤ n ∧ group = 0))
  let two (n : Nat) : Option Bool := some (decide (index ≤ n ∧ group ≤ 1))
  match table with
  | 1 => one 11
  | 2 => one 10
  | 3 => one 0
  | 4 => one 127
  | 5 => one 95
  | 6 => some (decide (1 ≤ index ∧ index ≤ 62 ∧ group = 0))
  | 7 => one 23
  | 8 => some (decide (index ≤ 31 ∧ group ≤ 24))
  | 9 => one 63
  | 10 => one 0
  | 11 => two 5
  | 12 => two 1
  | 13 => one 0
  | 14 => some (decide (index = 0 ∧ group ≤ 2))
  | 15 => one 0
  | 16 => some (decide (index = 0))
  | 17 => two 0
  | 18 => one 63
  | 19 => two 23
  | 20 => one 191
  | 21 => some (decide (index ≤ 11))
  | _ => none

/-- The words of a read. -/
def tableWords (table index group : Nat) (s : State) : List Word :=
  match table with
  | 1 => sectionWords index s
  | 2 => linkWords index s
  | 3 => relayWords s
  | 4 => channelEntryWords index s
  | 5 => watchWords index s
  | 6 => healthWords index s
  | 7 => commandChannelWords index s
  | 8 => gradeWords index group s
  | 9 => patternWords index s
  | 10 => plannerWords s
  | 11 => spliceWords index group s
  | 12 => stationWords index group s
  | 13 => pairWords s
  | 14 => cutPlannerWords group s
  | 15 => cutPlanWords s
  | 16 => pieceListWords group s
  | 17 => stackGateWords group s
  | 18 => curveWords index s
  | 19 => generatorWords index group s
  | 20 => markWords index s
  | _ => mapListWords index group s

/-- R166: TABLE_READ of a table, an index and a group. An unknown table id is answered UNKNOWN and an index beyond the
table's RANGE, as R167 answers a write (log 98). -/
def readTable (table index group : Word) (s : State) : Answer :=
  match tableHas table.toNat index.toNat group.toNat with
  | none => Answer.refuse unknownCode
  | some false => Answer.refuse rangeCode
  | some true => Answer.ok (tableWords table.toNat index.toNat group.toNat s)

end Sys2Proof.Machine
end

