-- ==== Sys2Proof/Machine/Orders.lean ====
section
/-! DEFINITION. Machine/Orders.lean: the requests of the order queue (05, R79, R88 to R94) and the single
requests of PT, SC, WM and SP (R18, R40, R105, R124). Access levels and word counts are checked in Manage.lean. -/

namespace Sys2Proof.Machine

/-! ### ORDER_ADD (R79) -/

/-- The nine words of ORDER_ADD and ORDER_RUSH. -/
structure OrderWords where
  key : OrderKey
  grade : Nat
  pattern : Nat
  length : Nat
  sheets : Nat
  stackCount : Nat
  lane : Nat
  overrun : Nat
  deriving DecidableEq, Repr

def readOrder (words : List Word) : Option OrderWords :=
  match words with
  | [n, p, g, pt, l, sh, st, ln, ov] =>
    some { key := ⟨n, p.toNat⟩, grade := g.toNat, pattern := pt.toNat, length := l.toNat, sheets := sh.toNat
           stackCount := st.toNat, lane := ln.toNat, overrun := ov.toNat }
  | _ => none

/-- R79, check 3. -/
def OrderWords.inRange (o : OrderWords) : Bool :=
  o.key.number != 0 && o.key.part ≤ 3 && 3000 ≤ o.length && o.length ≤ 80000 && 1 ≤ o.sheets &&
  o.sheets ≤ 1000000 && 1 ≤ o.stackCount && o.stackCount ≤ 65535 && o.overrun ≤ 1000 && o.lane ≤ 4

/-- Outs of a loaded pattern. -/
def patternOuts (s : State) (pattern : Nat) : Nat :=
  match s.patternAt pattern with
  | some p => p.outs
  | none => 1

def Breakdown.zero : Breakdown :=
  { zone := 0, tail := 0, gap := 0, overrun := 0, cancelled := 0, range := 0, gateZone := 0, cutFault := 0
    noLane := 0, stackerBehind := 0 }

/-- R79: the record of an order that passes. -/
def newOrder (o : OrderWords) (s : State) : Order :=
  { key := o.key, grade := o.grade, pattern := o.pattern, length := o.length, sheets := o.sheets
    cuts := ceilDiv o.sheets (patternOuts s o.pattern), stackCount := o.stackCount, lane := o.lane
    overrun := o.overrun, state := .queued, start := none, fin := none, good := 0, scrap := 0, dropped := 0
    split := false, cancelled := false, breakdown := Breakdown.zero }

/-- Checks 3 to 8 of R79 on the words of an order. -/
def orderFault (o : OrderWords) (s : State) : Option Refused :=
  if !o.inRange then some ⟨rangeCode, 0⟩ else referenceCheck s o.grade o.pattern

/-- The place and state of an order in the queue. -/
def orderPlace (k : OrderKey) (s : State) : List Word :=
  match firstIndex s.op.queue.length (fun i => (s.op.queue[i]?).any (·.key == k)), s.orderAt k with
  | some i, some o => [natWord i, natWord o.state.code]
  | _, _ => []

/-- R79. -/
def orderAdd (words : List Word) (s : State) : Outcome :=
  match readOrder words with
  | none => refuse rangeCode s
  | some o =>
    if Config.queueCapacity ≤ s.op.queue.length then refuse queueFullCode s
    else if (s.orderAt o.key).isSome then refuse duplicateCode s
    else
      match orderFault o s with
      | some r => (s, ⟨r.code, r.sub, []⟩)
      | none =>
        let s := refreshNext (s.withOp { s.op with queue := s.op.queue ++ [newOrder o s] })
        (s, Answer.ok (orderPlace o.key s))

/-! ### ORDER_CANCEL (R89 to R91) -/

/-- R89: ORDER_CANCELLED. -/
def raiseCancelled (k : OrderKey) (s : State) : State := raiseNoPosition .orderCancelled k.number (natWord k.part) s

/-- R90: a COMMITTED order becomes a zero-quantity order. -/
def Order.cancelCommitted (o : Order) : Order :=
  { o with sheets := 0, cuts := 0, overrun := 0, lane := 0, cancelled := true }

/-- R91: a CUTTING order keeps what is tallied and sent; a sum beyond 1,000,000 is a free value (log 14). -/
def Order.cancelCutting (sent : Nat) (o : Order) : Order :=
  { o with cuts := fitTally (o.good + sent), overrun := 0, cancelled := true }

/-- The key of a request's two words. -/
def readOrderKey (words : List Word) : Option OrderKey :=
  match words with
  | [n, p] => some ⟨n, p.toNat⟩
  | _ => none

/-- R89. -/
def orderCancel (words : List Word) (s : State) : Outcome :=
  match readOrderKey words with
  | none => refuse rangeCode s
  | some k =>
    match s.orderAt k with
    | none => refuse refAbsentCode s
    | some o =>
      if o.cancelled then (s, Answer.ok [])
      else
        match o.state with
        | .queued | .next =>
          let rest := s.withOp { s.op with queue := s.op.queue.filter (fun x => x.key != k) }
          (refreshFrom s.nextKey (raiseCancelled k rest), Answer.ok [])
        | .committed =>
          (raiseCancelled k (quantityChanged k (s.adjustOrder k Order.cancelCommitted)), Answer.ok [])
        | .cutting =>
          (raiseCancelled k (quantityChanged k (s.adjustOrder k (Order.cancelCutting (s.goodSent k)))),
           Answer.ok [])
        | _ => refuse alreadyCutCode s

/-! ### ORDER_RUSH (R92) -/

/-- R92: a split is due, with the open order and the cuts it keeps. -/
def splitDue (s : State) : Option (Order × Nat) :=
  match s.openOrder with
  | none => none
  | some r =>
    let c := r.good + s.goodInHand r.key
    if c < r.cuts then some (r, c) else none

/-- R92: the remainder of a split order. Sheets that would be negative are a free value (log 67). -/
def remainderOf (r : Order) (c newSheets : Nat) : Order :=
  { r with
    key := ⟨r.key.number, r.key.part + 1⟩, sheets := fitSheets ((r.sheets : Int) - newSheets), cuts := r.cuts - c, state := .queued
    start := none, fin := none, good := 0, scrap := 0, dropped := 0, split := true
    breakdown := Breakdown.zero }

/-- R92: the queue with the rush order, and the remainder when there is one, ahead of the uncommitted orders. -/
def insertRush (rush : Order) (rest : Option Order) (queue : List Order) : List Order :=
  queue.takeWhile (·.start.isSome) ++ rush :: rest.toList ++ queue.dropWhile (·.start.isSome)

/-- R92: the queue after a rush that passed. -/
def takeRush (o : OrderWords) (s : State) : State :=
  match splitDue s with
  | none => refreshNext (s.withOp { s.op with queue := insertRush (newOrder o s) none s.op.queue })
  | some (r, c) =>
    let sheets := fitSheets ((c * patternOuts s r.pattern : Nat) : Int)
    let s := s.withOp { s.op with queue := insertRush (newOrder o s) (some (remainderOf r c sheets)) s.op.queue }
    let s := s.adjustOrder r.key (fun x => { x with cuts := c, sheets := sheets, split := true })
    raiseNoPosition .orderSplit r.key.number (natWord c) (quantityChanged r.key (refreshNext s))

/-- R92. A rush whose own key is the key the split's remainder would take is a DUPLICATE, with part 4 too (log 118,
DESIGN CHOICE). -/
def orderRush (words : List Word) (s : State) : Outcome :=
  match readOrder words with
  | none => refuse rangeCode s
  | some o =>
    let rest := (splitDue s).map (fun r => (⟨r.1.key.number, r.1.key.part + 1⟩ : OrderKey))
    let needed := if rest.isSome then 2 else 1
    if Config.queueCapacity < s.op.queue.length + needed then refuse queueFullCode s
    else if (s.orderAt o.key).isSome || rest.any (fun k => (s.orderAt k).isSome || k == o.key) then
      refuse duplicateCode s
    else if rest.any (fun k => 3 < k.part) then refuse rangeCode s
    else
      match orderFault o s with
      | some r => (s, ⟨r.code, r.sub, []⟩)
      | none =>
        let s := takeRush o s
        (s, Answer.ok ((orderPlace o.key s).take 1))

/-! ### ORDER_EDIT (R93) -/

/-- The fields an edit carries: the mask's bits 0 to 6 in the order of Table 5-3 (log 23). -/
structure OrderEdit where
  grade : Option Nat
  pattern : Option Nat
  length : Option Nat
  sheets : Option Nat
  stackCount : Option Nat
  lane : Option Nat
  overrun : Option Nat
  deriving DecidableEq, Repr

/-- The value of a masked field: a word for each bit that is set. -/
def takeField (mask : Nat) (bit : Nat) (ws : List Word) : Option (Option Nat × List Word) :=
  if mask.testBit bit then
    match ws with
    | w :: rest => some (some w.toNat, rest)
    | [] => none
  else some (none, ws)

/-- The mask and the fields it names, filling the words exactly. -/
def readEdit (mask : Word) (ws : List Word) : Option OrderEdit :=
  let m := mask.toNat
  if 128 ≤ m then none
  else do
    let (grade, ws) ← takeField m 0 ws
    let (pattern, ws) ← takeField m 1 ws
    let (length, ws) ← takeField m 2 ws
    let (sheets, ws) ← takeField m 3 ws
    let (stack, ws) ← takeField m 4 ws
    let (lane, ws) ← takeField m 5 ws
    let (overrun, ws) ← takeField m 6 ws
    if ws.isEmpty then pure ⟨grade, pattern, length, sheets, stack, lane, overrun⟩ else none

def OrderEdit.hasE (e : OrderEdit) : Bool := e.grade.isSome || e.pattern.isSome || e.length.isSome
def OrderEdit.hasF (e : OrderEdit) : Bool :=
  e.sheets.isSome || e.stackCount.isSome || e.lane.isSome || e.overrun.isSome

/-- The edit without its E fields, as OPERATE applies it. -/
def OrderEdit.onlyF (e : OrderEdit) : OrderEdit := { e with grade := none, pattern := none, length := none }

/-- The mask places of the E fields carried. -/
def OrderEdit.keptPlaces (e : OrderEdit) : List Nat :=
  (if e.grade.isSome then [0] else []) ++ (if e.pattern.isSome then [1] else []) ++
    (if e.length.isSome then [2] else [])

/-- R93 step 5: the edit's own fields in range. -/
def OrderEdit.inRange (e : OrderEdit) : Bool :=
  e.length.all (fun x => 3000 ≤ x && x ≤ 80000) && e.sheets.all (fun x => 1 ≤ x && x ≤ 1000000) &&
  e.stackCount.all (fun x => 1 ≤ x && x ≤ 65535) && e.overrun.all (· ≤ 1000) && e.lane.all (· ≤ 4)

/-- The record as the edit would leave it, before its cuts needed. -/
def Order.edited (o : Order) (e : OrderEdit) : Order :=
  { o with
    grade := e.grade.getD o.grade, pattern := e.pattern.getD o.pattern, length := e.length.getD o.length
    sheets := e.sheets.getD o.sheets, stackCount := e.stackCount.getD o.stackCount, lane := e.lane.getD o.lane
    overrun := e.overrun.getD o.overrun }

/-- R93: store an edit that passed. -/
def storeEdit (o : Order) (e : OrderEdit) (s : State) : State :=
  let x := o.edited e
  let x := { x with cuts := ceilDiv x.sheets (patternOuts s x.pattern) }
  let s := s.adjustOrder o.key (fun _ => x)
  if x.cuts != o.cuts || x.overrun != o.overrun || x.lane != o.lane then quantityChanged o.key s else s

/-- R93, steps 2 to 5, for the fields applied. -/
def applyEdit (k : OrderKey) (level : Word) (carried e : OrderEdit) (s : State) : Outcome :=
  match s.orderAt k with
  | none => refuse refAbsentCode s
  | some o =>
    if o.cancelled || (level == 2 && carried.hasE && o.working) then refuse inProgressCode s
    else if o.state == .stacking && (e.sheets.any (· != o.sheets) || e.overrun.any (· != o.overrun)) then
      refuse alreadyCutCode s
    else if !e.inRange then refuse rangeCode s
    else
      match referenceCheck s (o.edited e).grade (o.edited e).pattern with
      | some r => (s, ⟨r.code, r.sub, []⟩)
      | none =>
        (storeEdit o e s, if level == 1 && carried.hasE then Answer.kept carried.keptPlaces else Answer.ok [])

/-- R93. A mask that names no field is not one in which every field is of class E (log 68). -/
def orderEdit (level : Word) (words : List Word) (s : State) : Outcome :=
  match words with
  | n :: p :: mask :: ws =>
    match readEdit mask ws with
    | none => refuse rangeCode s
    | some e =>
      if level == 1 && e.hasE && !e.hasF then refuse accessCode s
      else applyEdit ⟨n, p.toNat⟩ level e (if level == 1 then e.onlyF else e) s
  | _ => refuse rangeCode s

/-! ### ORDER_READ and HISTORY_READ (R94) -/

/-- R94: an order by key or by queue place; one that is not in the queue is REF_ABSENT (log 66). -/
def orderRead (words : List Word) (s : State) : Outcome :=
  let o := match words with
    | [place] => s.op.queue[place.toNat]?
    | [n, p] => s.orderAt ⟨n, p.toNat⟩
    | _ => none
  match o with
  | some o => (s, Answer.ok o.words)
  | none => refuse refAbsentCode s

/-- R94: the completion records, newest first, after their count (log 104, DESIGN CHOICE). -/
def historyRead (s : State) : Outcome :=
  (s, Answer.ok (natWord s.op.history.length :: s.op.history.reverse.flatMap Completion.words))

/-! ### ANCHOR_LINK (R18) -/

/-- A section's cycle snapshot; a free section has none, so its value is free (log 42). -/
def snapshotOf (i : Nat) (s : State) : Word :=
  match s.sectionAt i with
  | some c => c.trk.snapshot
  | none => Config.absentSnapshot i

/-- R18. -/
def anchorLink (words : List Word) (s : State) : Outcome :=
  match words with
  | [l, p] =>
    if 10 < l.toNat ∨ 100000000 < p.toNat then refuse rangeCode s
    else
      match s.linkAt l.toNat with
      | none => refuse refAbsentCode s
      | some k =>
        let up := snapshotOf k.up s
        let down := shiftBy (snapshotOf k.down s) (roundDiv ((p.toNat : Int) * 4096) k.ratio)
        (s.setLink l.toNat (some { k with aUp := up, aDown := down, anchored := true }), Answer.ok [up, down])
  | _ => refuse rangeCode s

/-! ### SPLICE_NOW (R105) -/

/-- R105. -/
def spliceNow (words : List Word) (s : State) : Outcome :=
  match words with
  | [w] =>
    if !s.running then refuse notInRunCode s
    else if 5 < w.toNat then refuse rangeCode s
    else
      match s.webAt w.toNat with
      | none => refuse refAbsentCode s
      | some x =>
        if x.st.plan.isSome then refuse inProgressCode s
        else
          let target := shiftBy (webCount x s) x.cfg.spliceLead
          let s := s.adjustWeb w.toNat (WebState.makePlan (newPlan .operator target))
          (issueCheck w.toNat s, Answer.ok [target])
  | _ => refuse rangeCode s

/-! ### ZONE_ADD (R40) -/

/-- R40: the position a form names, for a section whose counter is given: ABSOLUTE 0, RELATIVE 1. -/
def zonePosition (form pos count : Word) : Option Word :=
  match form.toNat with
  | 0 => if (sdist count pos).natAbs ≤ 1073741824 then some pos else none
  | 1 => some (shiftBy count (-pos.toInt))
  | _ => none

/-- R40: the RANGE checks before the section is looked up, a form that is neither among them (log 62). -/
def zoneWordsFit (sec form pos lead trail : Word) : Bool :=
  sec.toNat ≤ 11 && lead.toNat ≤ 1000000 && trail.toNat ≤ 1000000 && form.toNat ≤ 1 &&
  (form != 1 || (decide (-1000000 ≤ pos.toInt) && decide (pos.toInt ≤ 10000000)))

/-- The result words of ZONE_ADD (R40, R173). -/
def CreateResult.words : CreateResult → List Word
  | .created slot serial => [0, natWord slot, natWord serial]
  | .merged slot serial => [1, natWord slot, natWord serial]
  | .dropped => [2]

/-- R40. -/
def zoneAdd (words : List Word) (s : State) : Outcome :=
  match words with
  | [sec, form, pos, lead, trail] =>
    if !s.running then refuse notInRunCode s
    else if !zoneWordsFit sec form pos lead trail then refuse rangeCode s
    else
      match s.sectionAt sec.toNat with
      | none => refuse refAbsentCode s
      | some c =>
        match zonePosition form pos c.trk.count with
        | none => refuse rangeCode s
        | some p =>
          let r := createMark
            { kind := .zone, cause := some .defect, sec := sec.toNat, pos := p, lead := lead.toNat
              trail := trail.toNat, widening := 0, conf := .confirmed, origin := none } s
          (r.1, Answer.ok r.2.words)
  | _ => refuse rangeCode s

/-! ### STATION_CLEAR (R124) -/

/-- The code of a station's state. -/
def stationStateWord (i : Nat) (s : State) : Word :=
  match s.stationAt i with
  | some x => natWord x.state.code
  | none => absentWord

/-- R124. -/
def stationClear (words : List Word) (s : State) : Outcome :=
  match words with
  | [w] =>
    let i := w.toNat
    if 1 < i then refuse rangeCode s
    else
      match s.stationAt i with
      | none => refuse refAbsentCode s
      | some x =>
        if x.state != .fault then (s, Answer.ok [stationStateWord i s])
        else if s.fresh x.cfg.slot && s.slotAux x.cfg.slot == 1 then
          let s := clearStation i s
          (s, Answer.ok [stationStateWord i s])
        else refuse inProgressCode s
  | _ => refuse rangeCode s

end Sys2Proof.Machine
end

