-- ==== Sys2Proof/Machine/Modes.lean ====
section
/-! DEFINITION. Machine/Modes.lean: SETUP and RUN, the checks and actions of entering RUN, RESET_TRACKING, CLEAR
and STATUS_READ (11, R168 to R171, R174). -/

namespace Sys2Proof.Machine

/-! ### MODE SETUP (R168) -/

/-- R168: the first loaded section that is not HELD and has a speed. -/
def movingSection (s : State) : Option Nat :=
  firstIndex 12 (fun i => (s.sectionAt i).any (fun c => c.trk.source != .held && c.trk.speed != 0))

/-- MODE_CHANGED (R173). -/
def raiseMode (m : Mode) (s : State) : State :=
  raise .modeChanged m.word (natWord s.fr.cycle.toNat) 0 (s.withMu { s.mu with mode := m })

/-- R168. -/
def modeSetup (s : State) : Outcome :=
  match s.mu.mode with
  | .setup => (s, Answer.ok [])
  | .run =>
    match movingSection s with
    | some i => (s, ⟨notStoppedCode, 0, [natWord i]⟩)
    | none => (raiseMode .setup s, Answer.ok [])

/-! ### The checks of MODE RUN (R169) -/

/-- A check that failed: subcode, table id and index of the record at fault. -/
structure Fail where
  sub : Nat
  table : Nat
  index : Option Nat
  deriving DecidableEq, Repr

/-- The first index of a table whose record fails a test. -/
def failing (sub table n : Nat) (bad : Nat → Bool) : Option Fail :=
  (firstIndex n bad).map (fun i => ⟨sub, table, some i⟩)

/-- A slot is loaded and owned by the block that acts on it. -/
def slotOwned (s : State) (slot : Nat) (o : Owner) : Bool := (s.slotAt slot).any (·.owner == o)

/-- A command channel is of a class. -/
def channelIs (s : State) (ch : Nat) (c : CmdClass) : Bool := (s.channelAt ch).any (fun x => x.cls == some c)

def boardSections (s : State) : List Nat :=
  (List.range 12).filter (fun i => (s.sectionAt i).any (fun c => c.cfg.kind == .board))

/-- R169.1: a loaded section other than BOARD names a loaded link that starts in it. -/
def badDownLink (s : State) (i : Nat) : Bool :=
  (s.sectionAt i).any (fun c => c.cfg.kind != .board &&
    !(c.cfg.down.any (fun l => (s.linkAt l).any (fun k => k.up == i))))

/-- R169.1: a loaded link joins two loaded sections. -/
def badLink (s : State) (i : Nat) : Bool :=
  (s.linkAt i).any (fun k => (s.sectionAt k.up).isNone || (s.sectionAt k.down).isNone)

/-- R169.1: the path. -/
def checkPath (s : State) : Option Fail :=
  match boardSections s with
  | [] => some ⟨1, 1, none⟩
  | _ :: b :: _ => some ⟨1, 1, some b⟩
  | [d] =>
    failing 1 1 12 (badDownLink s) <|> failing 1 2 11 (badLink s) <|>
      failing 1 1 12 (fun i => (s.sectionAt i).isSome && (s.path i d).isNone)

/-- R169.2: the points of BOARD. Ascending is taken as strictly ascending, so equal distances fail (log 108, DESIGN
CHOICE). -/
def boardPointsFit (c : SectionCfg) : Bool :=
  let once (u : PointUse) : Bool := c.points.countP (fun p => p.use == u) == 1
  let dist (u : PointUse) : Int := ((c.points.find? (fun p => p.use == u)).map (·.dist)).getD 0
  once .slitterA && once .slitterB && once .knife && once .gate && once .stacker &&
    decide (dist .knife < dist .gate) && decide (dist .gate < dist .stacker)

def checkPoints (s : State) : Option Fail :=
  match s.boardIndex, s.board with
  | some b, some c => if boardPointsFit c.cfg then none else some ⟨2, 1, some b⟩
  | _, _ => none

/-- R169.3: every loaded link is ANCHORED. -/
def checkAnchors (s : State) : Option Fail := failing 3 2 11 (fun i => (s.linkAt i).any (fun l => !l.anchored))

/-- A point's references: the sensor's slot and verified link, or a generator in use that names the point. -/
def pointFits (s : State) (sec i : Nat) (p : Point) : Bool :=
  let generatorFits (g : Nat) : Bool := (s.generatorAt g).any (fun x => x.cfg.sec == sec && x.cfg.point == i)
  match p.use with
  | .preheat g => generatorFits g
  | .glue g => generatorFits g
  | .jointSensor slot _ v _ _ => slotOwned s slot .wm && (s.linkAt v).isSome
  | _ => true

/-- R169.4: a section's slots and points. -/
def badSection (s : State) (i : Nat) : Bool :=
  (s.sectionAt i).any (fun c =>
    !(slotOwned s c.cfg.primarySlot .pt && c.cfg.backupSlot.all (fun k => slotOwned s k .pt) &&
      c.cfg.refSlot.all (fun k => slotOwned s k .pt) &&
      (indexedPoints c.cfg).all (fun ip => pointFits s i ip.1 ip.2)))

/-- R169.4: a loaded command channel has its OWN entry. -/
def badCommandChannel (s : State) (ch : Nat) : Bool :=
  (s.channelAt ch).any (fun c => c.cls.isSome &&
    !(s.entries.any (fun e => e.mode == .own && e.source == some (.command ch) && some e.key == c.key)))

/-- R169.4: an entry's generator or command channel. -/
def badEntry (s : State) (i : Nat) : Bool :=
  (s.entryAt i).any (fun e =>
    match e.source with
    | some (.generator g) => (s.generatorAt g).isNone
    | some (.command ch) => !((s.channelAt ch).any (·.cls.isSome))
    | _ => false)

/-- R169.4: a splice record. -/
def badWeb (s : State) (i : Nat) : Bool :=
  (s.webAt i).any (fun w =>
    !((s.sectionAt w.cfg.sec).any (fun c => c.cfg.kind == .web) && channelIs s w.cfg.channel .splicer &&
      slotOwned s w.cfg.diamSlot .sc && slotOwned s w.cfg.standbySlot .sc &&
      w.cfg.countSlot.all (fun k => slotOwned s k .sc)))

/-- R169.4: a slitter station, which must be in use. -/
def badStation (s : State) (i : Nat) : Bool :=
  !((s.stationAt i).any (fun x => channelIs s x.cfg.channel .slitter && slotOwned s x.cfg.slot .sp))

/-- R154, R169.4: a generator's point and temperature slot. -/
def badGenerator (s : State) (i : Nat) : Bool :=
  (s.generatorAt i).any (fun g =>
    !(((s.sectionAt g.cfg.sec).bind (fun c => c.cfg.points[g.cfg.point]?)).any (fun p =>
        p.use == .preheat i || p.use == .glue i) &&
      g.cfg.tempSlot.all (fun k => slotOwned s k .ss)))

/-- R169.4, in the order of its list. -/
def checkReferences (s : State) : Option Fail :=
  let knifeFits := s.cp.knife.any (fun ch => channelIs s ch .knife)
  let stackerFits := s.sg.channel.any (fun ch => channelIs s ch .stacker) &&
    s.sg.slot.all (fun k => slotOwned s k .sg)
  failing 4 1 12 (badSection s) <|> failing 4 7 24 (badCommandChannel s) <|> failing 4 4 128 (badEntry s) <|>
    failing 4 11 6 (badWeb s) <|> failing 4 12 2 (badStation s) <|>
    (if knifeFits then none else some ⟨4, 14, some 0⟩) <|>
    (if stackerFits then none else some ⟨4, 17, some 0⟩) <|> failing 4 19 24 (badGenerator s)

/-- R169.5 and R169.6. The record that check 6 names is the Cut Planner's, table 14 index 0 (log 109, DESIGN
CHOICE). -/
def checkCutRecord (s : State) : Option Fail :=
  if s.cp.swapGap < s.cp.minPiece then some ⟨5, 14, some 0⟩
  else if ((64 * s.cp.minPiece : Nat) : Int) < knifeToStacker s then some ⟨6, 14, some 0⟩
  else none

/-- R169: the first check that fails. -/
def runCheck (s : State) : Option Fail :=
  checkPath s <|> checkPoints s <|> checkAnchors s <|> checkReferences s <|> checkCutRecord s

/-! ### Entry into RUN (log 39) -/

/-- R169: each block's actions on entry into RUN, in the order log 39 gives. -/
def enterRun (s : State) : State :=
  let s := raiseMode .run s
  let s := restartTimer s.fr.clock s
  let s := stackEnterRun (retireMarks (channelsEnterRun s))
  let s := closeOrders (sweepOrders (refreshNext s))
  setpointEnterRun (knifeEnterRun (slitterEnterRun (spliceEnterRun s)))

/-- R168, R169. -/
def modeRun (s : State) : Outcome :=
  match s.mu.mode with
  | .run => (s, Answer.ok [])
  | .setup =>
    match runCheck s with
    | some f => (s, ⟨checkFailedCode, f.sub, [natWord f.table, optWord f.index]⟩)
    | none => (enterRun s, Answer.ok [])

/-- R168: MODE with its argument. -/
def modeRequest (words : List Word) (s : State) : Outcome :=
  match words with
  | [m] =>
    match m.toNat with
    | 0 => modeSetup s
    | 1 => modeRun s
    | _ => refuse rangeCode s
  | _ => refuse rangeCode s

/-! ### RESET_TRACKING (R19, R42, R74, R94, R113, R126, R142, R151, R163, R170) -/

/-- R94. -/
def Order.resetTracking (o : Order) : Order := { o with state := .queued, start := none, fin := none }

/-- R94. -/
def Planner.resetTracking (p : Planner) : Planner :=
  { p with queue := p.queue.map Order.resetTracking, bproj := .none, block := none, runningGrade := none
           runningPattern := none }

/-- R19. -/
def Link.unanchor (l : Link) : Link := { l with aUp := 0, aDown := 0, anchored := false }

/-- R126. -/
def Slitter.resetTracking (x : Slitter) : Slitter :=
  { x with state := .idle, pattern := none, atRisk := false, live := none, settled := none }

/-- R142. -/
def CutPlanner.resetTracking (p : CutPlanner) : CutPlanner :=
  { p with plan := [], base := none, lastCut := none, frontFault := true, rangeOrder := none, pieces := [] }

/-- R151: the state of Table 9-2 with the record kept. -/
def StackGate.resetTracking (g : StackGate) : StackGate :=
  { StackGate.initial with channel := g.channel, slot := g.slot, gateLead := g.gateLead, laneLead := g.laneLead }

/-- R170: every block's changes. -/
def resetAll (s : State) : State :=
  let s := s.withPt { s.pt with links := s.pt.links.map (Option.map Link.unanchor) }
  let s := s.withWm { s.wm with maps := s.wm.maps.map (fun m => { m with marks := [] }), boardChange := none }
  let s := s.withCcu { records := s.ccu.records.map Channel.resetTracking, gate := none }
  let s := s.withOp s.op.resetTracking
  let s := s.withSc (s.sc.map (Option.map (fun w => { w with st := WebState.initial w.cfg.k0 })))
  let s := s.withSp { s.sp with
    stations := s.sp.stations.map (Option.map Slitter.resetTracking), swap := none, cover := Cover.initial }
  let s := (s.withCp s.cp.resetTracking).withSg s.sg.resetTracking
  s.withSs { s.ss with
    generators := s.ss.generators.map (Option.map (fun g => { g with st := GenState.initial })) }

/-- R170. -/
def resetTracking (s : State) : Outcome :=
  if s.running then refuse notInSetupCode s else (resetAll s, Answer.ok [])

/-! ### CLEAR and STATUS_READ (R60, R171, R174) -/

/-- R60, R171: the counts cleared. -/
def clearCounts (s : State) : State :=
  s.withFr { s.fr with
    badOutbound := 0, health := s.fr.health.map (fun h => { h with bad := 0, late := 0 }) }

/-- R171: the reply carries the flags as they stood. -/
def clearAll (s : State) : Outcome := (clearFlags (clearCounts s), Answer.ok [s.flagWord])

/-- R174: the 23 status words and the own address; the subcode carries the flags (log 24). Words
9 and 10 count the whole queues, without this reply (log 115, DESIGN CHOICE). -/
def statusRead (s : State) : Outcome :=
  (s, ⟨0, s.flagWord.toNat,
    s.statusWords s.mu.events.length s.mu.replies.length ++ [natWord s.fr.ownAddr.toNat]⟩)

end Sys2Proof.Machine
end

