-- ==== Sys2Proof/Machine/Manage.lean ====
section
/-! DEFINITION. Machine/Manage.lean: the Management Unit's requests (11): their decoding (R164), the requests
that end in the reactions of the Order Planner, the replies and their queue (R165), and the requests of one
outbound frame. -/

namespace Sys2Proof.Machine

/-! ### Request kinds (Table 11-2) -/

inductive RequestKind where
  | tableWrite | tableRead | orderAdd | orderEdit | orderCancel | orderRush | orderRead | historyRead
  | anchorLink | spliceNow | zoneAdd | stationClear | mode | resetTracking | clear | statusRead
  deriving DecidableEq, Repr

/-- The request kind a channel code names (Table 11-2). -/
def RequestKind.ofCode (b : Byte) : Option RequestKind :=
  match b.toNat with
  | 1 => some .tableWrite | 2 => some .tableRead | 3 => some .orderAdd | 4 => some .orderEdit
  | 5 => some .orderCancel | 6 => some .orderRush | 7 => some .orderRead | 8 => some .historyRead
  | 9 => some .anchorLink | 10 => some .spliceNow | 11 => some .zoneAdd | 12 => some .stationClear
  | 13 => some .mode | 14 => some .resetTracking | 15 => some .clear | 16 => some .statusRead
  | _ => none

/-- Table 11-2: 0 VIEW, 1 OPERATE, 2 ENGINEER. TABLE_WRITE is checked under R167, so any level passes here. -/
def RequestKind.leastLevel : RequestKind → Nat
  | .tableWrite | .tableRead | .orderRead | .historyRead | .statusRead => 0
  | .orderAdd | .orderEdit | .orderCancel | .orderRush | .spliceNow | .zoneAdd | .stationClear | .clear => 1
  | .anchorLink | .mode | .resetTracking => 2

/-- R164, step 3. A table write carries at least table id, index and group, and an edit at least key and mask;
the words after them are checked with the fields they carry (log 21, 23). -/
def RequestKind.countFits (k : RequestKind) (n : Nat) : Bool :=
  match k with
  | .tableWrite => 3 ≤ n
  | .tableRead => n == 3
  | .orderAdd | .orderRush => n == 9
  | .orderEdit => 3 ≤ n
  | .orderCancel => n == 2
  | .orderRead => n == 1 || n == 2
  | .historyRead | .resetTracking | .clear | .statusRead => n == 0
  | .anchorLink => n == 2
  | .spliceNow | .stationClear | .mode => n == 1
  | .zoneAdd => n == 5

/-- R164, steps 2 and 3: the reply code of the first failure. -/
def requestFault (k : RequestKind) (level : Word) (words : List Word) : Option Nat :=
  if 2 < level.toNat ∨ level.toNat < k.leastLevel then some accessCode
  else if k.countFits words.length then none
  else some rangeCode

/-! ### Requests that end in the reactions of the Order Planner (log 9) -/

/-- A request passed: OK or KEPT. -/
def Answer.passed (a : Answer) : Bool := a.code ≤ 1

/-- Run a request as one event (R28, R81, R83). `force` says, of the state the request itself leaves, whether B_proj is
recomputed when it passes. -/
def settledWhen (force : State → Bool) (body : State → Outcome) (s : State) : Outcome :=
  let r := body s
  (settle s.signature (force r.1 && r.2.passed) (r.1.boardCount != s.boardCount) r.1, r.2)

/-- Run a request as one event whose recompute does not depend on what it did. -/
def settled (force : Bool) (body : State → Outcome) (s : State) : Outcome := settledWhen (fun _ => force) body s

/-- R88: the order of a key is committed, and its cuts needed, overrun allowance or lane have changed. -/
def figuresChanged (k : OrderKey) (s t : State) : Bool :=
  match s.orderAt k, t.orderAt k with
  | some a, some b => a.start.isSome && (a.cuts != b.cuts || a.overrun != b.overrun || a.lane != b.lane)
  | _, _ => false

/-- R90, R91: the open order has been cancelled. -/
def openCancelled (k : OrderKey) (s t : State) : Bool :=
  (s.openOrder.any (fun o => o.key == k && !o.cancelled)) && (t.orderAt k).any (·.cancelled)

/-- The key of a request's first two words. -/
def targetKey (words : List Word) : OrderKey :=
  match words with
  | n :: p :: _ => ⟨n, p.toNat⟩
  | _ => ⟨0, 0⟩

/-- R88, R93. -/
def editRequest (level : Word) (words : List Word) (s : State) : Outcome :=
  settledWhen (figuresChanged (targetKey words) s) (orderEdit level words) s

/-- R88 to R91. -/
def cancelRequest (words : List Word) (s : State) : Outcome :=
  let k := targetKey words
  settledWhen (fun t => figuresChanged k s t || openCancelled k s t) (orderCancel words) s

/-- R88, R92: a split changes the open order's cuts needed. -/
def rushRequest (words : List Word) (s : State) : Outcome :=
  settled (splitDue s).isSome (orderRush words) s

/-- R105. -/
def spliceNowRequest (words : List Word) (s : State) : Outcome := settled false (spliceNow words) s

/-- R40. -/
def zoneRequest (words : List Word) (s : State) : Outcome := settled false (zoneAdd words) s

/-- R124. -/
def clearStationRequest (words : List Word) (s : State) : Outcome := settled false (stationClear words) s

/-- R168, R169: the entry into RUN recomputes B_proj and allows the first attempt. -/
def modeChange (words : List Word) (s : State) : Outcome :=
  settled (!s.running && words == [1]) (modeRequest words) s

/-- R1. -/
def sectionRequest (level index group : Word) (fields : List Word) (s : State) : Outcome :=
  settled false (writeSection level index group fields) s

/-- R128: a write of group 1 in RUN re-plans. -/
def cutPlannerRequest (level index group : Word) (fields : List Word) (s : State) : Outcome :=
  settled (s.running && group == 1) (writeCutPlanner level index group fields) s

/-- R167: a TABLE_WRITE with its words. -/
def tableRequest (level : Word) (words : List Word) (s : State) : Outcome :=
  match words with
  | table :: index :: group :: fields =>
    match table.toNat with
    | 1 => sectionRequest level index group fields s
    | 14 => cutPlannerRequest level index group fields s
    | _ => writeTable level table index group fields s
  | _ => refuse rangeCode s

/-- R166: a TABLE_READ with its words. -/
def readRequest (words : List Word) (s : State) : Outcome :=
  match words with
  | [table, index, group] => (s, readTable table index group s)
  | _ => refuse rangeCode s

/-- A request's own action, by its kind. -/
def perform (k : RequestKind) (level : Word) (words : List Word) (s : State) : Outcome :=
  match k with
  | .tableWrite => tableRequest level words s
  | .tableRead => readRequest words s
  | .orderAdd => orderAdd words s
  | .orderEdit => editRequest level words s
  | .orderCancel => cancelRequest words s
  | .orderRush => rushRequest words s
  | .orderRead => orderRead words s
  | .historyRead => historyRead s
  | .anchorLink => anchorLink words s
  | .spliceNow => spliceNowRequest words s
  | .zoneAdd => zoneRequest words s
  | .stationClear => clearStationRequest words s
  | .mode => modeChange words s
  | .resetTracking => settled false resetTracking s
  | .clear => clearAll s
  | .statusRead => statusRead s

/-! ### Replies (R165) -/

/-- R165: parts of 24 words, at least one. -/
def partCount (words : Nat) : Nat := max 1 (ceilDiv words 24)

/-- Table 11-1: reply code + 256 × subcode + 65,536 × number of parts. -/
def Answer.value (a : Answer) : Word := natWord (a.code + 256 * a.sub + 65536 * partCount a.words.length)

/-- R165: the MREPLY items of a reply. -/
def Answer.parts (tag : Half) (a : Answer) : List Reply :=
  (List.range (partCount a.words.length)).map (fun i => ⟨tag, i, a.value, (a.words.drop (24 * i)).take 24⟩)

/-- R165: the reply fits in the queue as it stands. -/
def replyFits (a : Answer) (s : State) : Bool :=
  decide (s.mu.replies.length + partCount a.words.length ≤ Config.replyCapacity)

/-- REPLY_LOST is set (R165). -/
def loseReply (s : State) : State := s.withMu { s.mu with replyLost := true }

/-- Append a reply's items to the reply queue. -/
def queueReply (tag : Half) (a : Answer) (s : State) : State :=
  s.withMu { s.mu with replies := s.mu.replies ++ a.parts tag }

/-- R165: take a request and answer it, or neither when its reply would not fit. -/
def answer (tag : Half) (r : Outcome) (s : State) : State :=
  if replyFits r.2 s then queueReply tag r.2 r.1 else loseReply s

/-- R164, R165: take a request of a kind, whose action is given. -/
def takeRequest (k : RequestKind) (tag : Half) (level : Word) (words : List Word) (body : State → Outcome)
    (s : State) : State :=
  answer tag
    (match requestFault k level words with
      | some code => refuse code s
      | none => body s)
    s

/-- R164: one honoured MREQ item. -/
def takeItem (i : Item) (s : State) : State :=
  match RequestKind.ofCode i.channel with
  | none => answer i.tag (refuse unknownCode s) s
  | some k => takeRequest k i.tag i.value i.words (perform k i.value i.words) s

/-- R165: the MREQ items of one frame; the first 4 are honoured, each further one is answered BUSY. -/
def takeItems (items : List Item) (s : State) : State :=
  let s := (items.take 4).foldl (fun s i => takeItem i s) s
  (items.drop 4).foldl (fun s i => answer i.tag (refuse busyCode s) s) s

/-- R43, R59: requests reach MU only at a working address and in the cell controller's frames, so not in
LOST_CELL (log 6). -/
def State.reachable (s : State) : Bool := s.workingAddress && s.fr.state == .normal

/-- A request that is a command of its own (log 6). -/
def request (k : RequestKind) (tag : Half) (level : Word) (words : List Word) (body : State → Outcome)
    (s : State) : State :=
  if s.reachable then takeRequest k tag level words body s else s

/-- A TABLE_WRITE of one table, whose words after the table id are given. -/
def writeRequest (table : Word) (tag : Half) (level : Word) (words : List Word)
    (body : Word → Word → Word → List Word → State → Outcome) (s : State) : State :=
  request .tableWrite tag level (table :: words)
    (fun s =>
      match words with
      | index :: group :: fields => body level index group fields s
      | _ => refuse rangeCode s)
    s

end Sys2Proof.Machine
end

