-- ==== Sys2Proof/Machine/Commands.lean ====
section
/-! DEFINITION. Machine/Commands.lean: the meaning of each command, one definition per row of
spec/opcode_table.json. Every meaning answers a next state and leaves the queue of commands as it is. -/

namespace Sys2Proof.Machine

/-- What a meaning answers. -/
abbrev Result := Host.Outcome State Fault Refusal

/-! ### Reset, frames and timers -/

/-- R172: every block at its power-on values, the address sampled from the pins (R43). -/
def execPowerOnReset (pins : BitVec 6) (s : State) : Result := .next (State.afterReset pins s.pending)

/-- R45, R46, R164, R165: the frame is relayed, then the requests it held are taken. -/
def execOutboundFrame (bytes : List Byte) (now : Word) (s : State) : Result :=
  let r := relayOutbound bytes now s
  .next (takeItems r.2 r.1)

/-- R51, R52. -/
def execReturnFrame (bytes : List Byte) (s : State) : Result := .next (relayReturn bytes s)

/-- R53: the window's timer; nothing but the clock when it has not run out (log 5). -/
def execReturnWindowExpiry (now : Word) (s : State) : Result :=
  let s := setClock now s
  .next (if windowDue now s then expiry s else s)

/-- R54. -/
def execSlotStale (slot : Nat) (s : State) : Result := .next (staleStep slot s)

/-- R55: the own address and numbers that are no station's are not examined. -/
def execStationSuspect (station : Nat) (s : State) : Result :=
  .next (if 1 ≤ station ∧ station ≤ 62 ∧ station ≠ s.fr.ownAddr.toNat then suspectStep station s else s)

/-- R69. -/
def execCmdTimeout (channel : Nat) (tag : Half) (s : State) : Result := .next (timeoutStep channel tag s)

/-- R70. -/
def execCmdOverdue (channel : Nat) (tag : Half) (s : State) : Result := .next (overdueStep channel tag s)

/-- R112. -/
def execSpliceCountTaken (web : Nat) (s : State) : Result := .next (event (takeFromCount web) s)

/-- R57: nothing but the clock when the timer has not run out (log 5). -/
def execCellLost (now : Word) (s : State) : Result :=
  let s := setClock now s
  .next (if cellLossDue now s then loseCell now s else s)

/-- R58: nothing but the clock when no frame is due (log 5). -/
def execOriginateFrame (now : Word) (s : State) : Result :=
  let s := setClock now s
  .next (if originateDue now s then originate now s else s)

/-! ### Table writes -/

/-- R1, table id 1. -/
def execSectionWrite (tag : Half) (level : Word) (words : List Word) (s : State) : Result :=
  .next (writeRequest 1 tag level words sectionRequest s)

/-- R2, table id 2. -/
def execLinkWrite (tag : Half) (level : Word) (words : List Word) (s : State) : Result :=
  .next (writeRequest 2 tag level words writeLink s)

/-- R53, table id 3. -/
def execRelayRecordWrite (tag : Half) (level : Word) (words : List Word) (s : State) : Result :=
  .next (writeRequest 3 tag level words writeRelay s)

/-- R47, table id 4. -/
def execChannelTableWrite (tag : Half) (level : Word) (words : List Word) (s : State) : Result :=
  .next (writeRequest 4 tag level words writeChannelEntry s)

/-- R50, table id 5. -/
def execWatchTableWrite (tag : Half) (level : Word) (words : List Word) (s : State) : Result :=
  .next (writeRequest 5 tag level words writeWatch s)

/-- R55, table id 6. -/
def execStationThresholdWrite (tag : Half) (level : Word) (words : List Word) (s : State) : Result :=
  .next (writeRequest 6 tag level words writeThreshold s)

/-- R61, table id 7. -/
def execCommandChannelWrite (tag : Half) (level : Word) (words : List Word) (s : State) : Result :=
  .next (writeRequest 7 tag level words writeCommandChannel s)

/-- R75, table id 8. -/
def execGradeWrite (tag : Half) (level : Word) (words : List Word) (s : State) : Result :=
  .next (writeRequest 8 tag level words writeGrade s)

/-- R76, table id 9. -/
def execPatternWrite (tag : Half) (level : Word) (words : List Word) (s : State) : Result :=
  .next (writeRequest 9 tag level words writePattern s)

/-- R83, Table 5-4, table id 10. -/
def execPlannerRecordWrite (tag : Half) (level : Word) (words : List Word) (s : State) : Result :=
  .next (writeRequest 10 tag level words writePlanner s)

/-- R95, table id 11. -/
def execSpliceRecordWrite (tag : Half) (level : Word) (words : List Word) (s : State) : Result :=
  .next (writeRequest 11 tag level words writeSplice s)

/-- R114, table id 12. -/
def execSlitterStationWrite (tag : Half) (level : Word) (words : List Word) (s : State) : Result :=
  .next (writeRequest 12 tag level words writeStation s)

/-- R114, table id 13. -/
def execPairRecordWrite (tag : Half) (level : Word) (words : List Word) (s : State) : Result :=
  .next (writeRequest 13 tag level words writePair s)

/-- R128, table id 14. -/
def execCutPlannerRecordWrite (tag : Half) (level : Word) (words : List Word) (s : State) : Result :=
  .next (writeRequest 14 tag level words cutPlannerRequest s)

/-- R143, table id 17. -/
def execSgRecordWrite (tag : Half) (level : Word) (words : List Word) (s : State) : Result :=
  .next (writeRequest 17 tag level words writeStackGate s)

/-- R152, table id 18. -/
def execCurveWrite (tag : Half) (level : Word) (words : List Word) (s : State) : Result :=
  .next (writeRequest 18 tag level words writeCurve s)

/-- R154, table id 19. -/
def execGeneratorWrite (tag : Half) (level : Word) (words : List Word) (s : State) : Result :=
  .next (writeRequest 19 tag level words writeGenerator s)

/-- R167: any table id, checked and written or refused. -/
def execTableWrite (tag : Half) (level : Word) (words : List Word) (s : State) : Result :=
  .next (request .tableWrite tag level words (tableRequest level words) s)

/-- R166. -/
def execTableRead (tag : Half) (level : Word) (words : List Word) (s : State) : Result :=
  .next (request .tableRead tag level words (readRequest words) s)

/-! ### Orders -/

/-- R79. -/
def execOrderAdd (tag : Half) (level : Word) (words : List Word) (s : State) : Result :=
  .next (request .orderAdd tag level words (orderAdd words) s)

/-- R88, R93. -/
def execOrderEdit (tag : Half) (level : Word) (words : List Word) (s : State) : Result :=
  .next (request .orderEdit tag level words (editRequest level words) s)

/-- R88 to R91. -/
def execOrderCancel (tag : Half) (level : Word) (words : List Word) (s : State) : Result :=
  .next (request .orderCancel tag level words (cancelRequest words) s)

/-- R88, R92. -/
def execOrderRush (tag : Half) (level : Word) (words : List Word) (s : State) : Result :=
  .next (request .orderRush tag level words (rushRequest words) s)

/-- R94. -/
def execOrderRead (tag : Half) (level : Word) (words : List Word) (s : State) : Result :=
  .next (request .orderRead tag level words (orderRead words) s)

/-- R94. -/
def execHistoryRead (tag : Half) (level : Word) (words : List Word) (s : State) : Result :=
  .next (request .historyRead tag level words historyRead s)

/-! ### Tracking, splicing, zones and stations -/

/-- R18. -/
def execAnchorLink (tag : Half) (level : Word) (words : List Word) (s : State) : Result :=
  .next (request .anchorLink tag level words (anchorLink words) s)

/-- R105. -/
def execSpliceNow (tag : Half) (level : Word) (words : List Word) (s : State) : Result :=
  .next (request .spliceNow tag level words (spliceNowRequest words) s)

/-- R40. -/
def execZoneAdd (tag : Half) (level : Word) (words : List Word) (s : State) : Result :=
  .next (request .zoneAdd tag level words (zoneRequest words) s)

/-- R124. -/
def execStationClear (tag : Half) (level : Word) (words : List Word) (s : State) : Result :=
  .next (request .stationClear tag level words (clearStationRequest words) s)

/-! ### Modes, resets and status -/

/-- R168: MODE with argument 0. -/
def execModeSetup (tag : Half) (level : Word) (s : State) : Result :=
  .next (request .mode tag level [0] (modeChange [0]) s)

/-- R169: MODE with argument 1. -/
def execModeRun (tag : Half) (level : Word) (s : State) : Result :=
  .next (request .mode tag level [1] (modeChange [1]) s)

/-- R170. -/
def execResetTracking (tag : Half) (level : Word) (words : List Word) (s : State) : Result :=
  .next (request .resetTracking tag level words (settled false resetTracking) s)

/-- R171. -/
def execClear (tag : Half) (level : Word) (words : List Word) (s : State) : Result :=
  .next (request .clear tag level words clearAll s)

/-- R174. -/
def execStatusRead (tag : Half) (level : Word) (words : List Word) (s : State) : Result :=
  .next (request .statusRead tag level words statusRead s)

end Sys2Proof.Machine
end

