-- ==== Sys2Proof/Machine/Dispatch.lean ====
section
/-! DEFINITION. Machine/Dispatch.lean: the meaning of every command, one arm per row of the opcode table. -/

namespace Sys2Proof.Machine

def exec (i : Instr) (s : State) : Host.Outcome State Fault Refusal :=
  match i with
  | .powerOnReset pins => Sys2Proof.Machine.execPowerOnReset pins s
  | .outboundFrame bytes now => Sys2Proof.Machine.execOutboundFrame bytes now s
  | .returnFrame bytes => Sys2Proof.Machine.execReturnFrame bytes s
  | .returnWindowExpiry now => Sys2Proof.Machine.execReturnWindowExpiry now s
  | .slotStale slot => Sys2Proof.Machine.execSlotStale slot s
  | .stationSuspect station => Sys2Proof.Machine.execStationSuspect station s
  | .cmdTimeout channel tag => Sys2Proof.Machine.execCmdTimeout channel tag s
  | .cmdOverdue channel tag => Sys2Proof.Machine.execCmdOverdue channel tag s
  | .spliceCountTaken web => Sys2Proof.Machine.execSpliceCountTaken web s
  | .cellLost now => Sys2Proof.Machine.execCellLost now s
  | .originateFrame now => Sys2Proof.Machine.execOriginateFrame now s
  | .sectionWrite tag level words => Sys2Proof.Machine.execSectionWrite tag level words s
  | .linkWrite tag level words => Sys2Proof.Machine.execLinkWrite tag level words s
  | .relayRecordWrite tag level words => Sys2Proof.Machine.execRelayRecordWrite tag level words s
  | .channelTableWrite tag level words => Sys2Proof.Machine.execChannelTableWrite tag level words s
  | .watchTableWrite tag level words => Sys2Proof.Machine.execWatchTableWrite tag level words s
  | .stationThresholdWrite tag level words => Sys2Proof.Machine.execStationThresholdWrite tag level words s
  | .commandChannelWrite tag level words => Sys2Proof.Machine.execCommandChannelWrite tag level words s
  | .gradeWrite tag level words => Sys2Proof.Machine.execGradeWrite tag level words s
  | .patternWrite tag level words => Sys2Proof.Machine.execPatternWrite tag level words s
  | .plannerRecordWrite tag level words => Sys2Proof.Machine.execPlannerRecordWrite tag level words s
  | .spliceRecordWrite tag level words => Sys2Proof.Machine.execSpliceRecordWrite tag level words s
  | .slitterStationWrite tag level words => Sys2Proof.Machine.execSlitterStationWrite tag level words s
  | .pairRecordWrite tag level words => Sys2Proof.Machine.execPairRecordWrite tag level words s
  | .cutPlannerRecordWrite tag level words => Sys2Proof.Machine.execCutPlannerRecordWrite tag level words s
  | .sgRecordWrite tag level words => Sys2Proof.Machine.execSgRecordWrite tag level words s
  | .curveWrite tag level words => Sys2Proof.Machine.execCurveWrite tag level words s
  | .generatorWrite tag level words => Sys2Proof.Machine.execGeneratorWrite tag level words s
  | .tableWrite tag level words => Sys2Proof.Machine.execTableWrite tag level words s
  | .tableRead tag level words => Sys2Proof.Machine.execTableRead tag level words s
  | .orderAdd tag level words => Sys2Proof.Machine.execOrderAdd tag level words s
  | .orderEdit tag level words => Sys2Proof.Machine.execOrderEdit tag level words s
  | .orderCancel tag level words => Sys2Proof.Machine.execOrderCancel tag level words s
  | .orderRush tag level words => Sys2Proof.Machine.execOrderRush tag level words s
  | .orderRead tag level words => Sys2Proof.Machine.execOrderRead tag level words s
  | .historyRead tag level words => Sys2Proof.Machine.execHistoryRead tag level words s
  | .anchorLink tag level words => Sys2Proof.Machine.execAnchorLink tag level words s
  | .spliceNow tag level words => Sys2Proof.Machine.execSpliceNow tag level words s
  | .zoneAdd tag level words => Sys2Proof.Machine.execZoneAdd tag level words s
  | .stationClear tag level words => Sys2Proof.Machine.execStationClear tag level words s
  | .modeSetup tag level => Sys2Proof.Machine.execModeSetup tag level s
  | .modeRun tag level => Sys2Proof.Machine.execModeRun tag level s
  | .resetTracking tag level words => Sys2Proof.Machine.execResetTracking tag level words s
  | .clear tag level words => Sys2Proof.Machine.execClear tag level words s
  | .statusRead tag level words => Sys2Proof.Machine.execStatusRead tag level words s

end Sys2Proof.Machine
end

