-- ==== Sys2Proof/Safety.lean ====
section
/-! DEFINITION. Safety.lean: the terms in which statements about the part are made: the written tables and their
class S fields (11, R167), the bounds of the queues (R165, R173) and of the mark pool (R22, R23), what holds of the
command channels, the cut plan and the order queue, the state a cycle begins in, and the reply of a request that is
taken (Table 11-1). -/

namespace Sys2Proof.Machine

/-! ### The written tables -/

/-- The fields of a watch table entry that are written (R50); the rest is its slot. -/
structure WatchSetup where
  key : Key
  kind : WatchKind
  owner : Owner
  limit : Nat
  deriving DecidableEq, Repr

def WatchEntry.setup (w : WatchEntry) : WatchSetup := ⟨w.key, w.kind, w.owner, w.limit⟩

/-- The fields of a command channel record that are written (R61). -/
structure ChannelSetup where
  cls : Option CmdClass
  key : Option Key
  depth : Nat
  acceptTimeout : Nat
  completeTimeout : Nat
  deriving DecidableEq, Repr

def Channel.setup (c : Channel) : ChannelSetup := ⟨c.cls, c.key, c.depth, c.acceptTimeout, c.completeTimeout⟩

/-- The written fields of the Field Relay's tables (Tables 3-2, 3-3, 3-6, 3-7) and its address. -/
structure RelaySetup where
  ownAddr : BitVec 6
  nominal : Nat
  window : Nat
  channels : List (Option ChannelEntry)
  watch : List (Option WatchSetup)
  thresholds : List Nat
  deriving DecidableEq, Repr

def FieldRelay.setup (f : FieldRelay) : RelaySetup :=
  ⟨f.ownAddr, f.nominal, f.window, f.channels, f.watch.map (Option.map WatchEntry.setup), f.health.map (·.threshold)⟩

/-- The written fields of the path table (Tables 1-1, 1-2, R2): anchors and states are left out. -/
structure PathSetup where
  sections : List (Option SectionCfg)
  links : List (Option Link)
  deriving DecidableEq, Repr

def PathTracker.setup (p : PathTracker) : PathSetup :=
  ⟨p.sections.map (Option.map (·.cfg)), p.links.map (Option.map Link.unanchor)⟩

/-- The written fields of the Order Planner (Tables 5-1, 5-2, 5-4). -/
structure PlannerSetup where
  grades : List Grade
  patterns : List Pattern
  presetDist : Nat
  minCommit : Nat
  gradeMargin : Nat
  deriving DecidableEq, Repr

def Planner.setup (p : Planner) : PlannerSetup := ⟨p.grades, p.patterns, p.presetDist, p.minCommit, p.gradeMargin⟩

/-- The written fields of the slitter stations and the pair record (Table 7-1). -/
structure PairSetup where
  stations : List (Option SlitterCfg)
  lateStep : Nat
  deriving DecidableEq, Repr

def SlitterPair.setup (p : SlitterPair) : PairSetup := ⟨p.stations.map (Option.map (·.cfg)), p.lateStep⟩

/-- The written fields of the Cut Planner record (Table 8-1). -/
structure CutSetup where
  knife : Option Nat
  role : Role
  minPiece : Nat
  swapGap : Nat
  scrapLen : Nat
  horizon : Nat
  cutTol : Nat
  missDist : Nat
  deriving DecidableEq, Repr

def CutPlanner.setup (p : CutPlanner) : CutSetup :=
  ⟨p.knife, p.role, p.minPiece, p.swapGap, p.scrapLen, p.horizon, p.cutTol, p.missDist⟩

/-- The written fields of the Stack and Gate Unit record (Table 9-1). -/
structure GateSetup where
  channel : Option Nat
  slot : Option Nat
  gateLead : Nat
  laneLead : Nat
  deriving DecidableEq, Repr

def StackGate.setup (g : StackGate) : GateSetup := ⟨g.channel, g.slot, g.gateLead, g.laneLead⟩

/-- The written fields of the Setpoint Scheduler (Tables 10-1, 10-2). -/
structure SetpointSetup where
  curves : List (List Breakpoint)
  generators : List (Option GenCfg)
  deriving DecidableEq, Repr

def Setpoints.setup (x : Setpoints) : SetpointSetup := ⟨x.curves, x.generators.map (Option.map (·.cfg))⟩

/-- Every field that a TABLE_WRITE can store, of class S, E or F, and the own address. -/
structure Tables where
  relay : RelaySetup
  path : PathSetup
  channels : List ChannelSetup
  planner : PlannerSetup
  webs : List (Option WebCfg)
  pair : PairSetup
  cut : CutSetup
  gate : GateSetup
  setpoints : SetpointSetup
  deriving DecidableEq, Repr

def State.tables (s : State) : Tables :=
  ⟨s.fr.setup, s.pt.setup, s.ccu.records.map Channel.setup, s.op.setup, s.sc.map (Option.map (·.cfg)), s.sp.setup
   , s.cp.setup, s.sg.setup, s.ss.setup⟩

/-- The class S fields (R167): the path, link, relay, channel, watch, threshold and command channel records whole,
and group 0 of the splice, slitter station, Cut Planner, Stack and Gate Unit and generator records. -/
structure ClassS where
  relay : RelaySetup
  path : PathSetup
  channels : List ChannelSetup
  webs : List (Option SpliceHead)
  stations : List (Option (Nat × Nat))
  knife : Option Nat × Role
  stacker : Option Nat × Option Nat
  generators : List (Option (Nat × Nat × Option Nat))
  deriving DecidableEq, Repr

/-- Group 0 of a splice record in use (Table 6-1). -/
def WebCfg.head (c : WebCfg) : SpliceHead := ⟨true, c.sec, c.role, c.channel, c.diamSlot, c.standbySlot, c.countSlot⟩

def Tables.classS (t : Tables) : ClassS :=
  ⟨t.relay, t.path, t.channels, t.webs.map (Option.map WebCfg.head)
   , t.pair.stations.map (Option.map (fun c => (c.channel, c.slot))), (t.cut.knife, t.cut.role)
   , (t.gate.channel, t.gate.slot)
   , t.setpoints.generators.map (Option.map (fun c => (c.sec, c.point, c.tempSlot)))⟩

/-! ### Bounds -/

/-- R165, R173: the event queue holds at most 32 events and the reply queue at most 64 items. -/
abbrev State.queuesHeld (s : State) : Prop :=
  s.mu.events.length ≤ Config.eventCapacity ∧ s.mu.replies.length ≤ Config.replyCapacity

/-- R22, R23: no mark is listed under another section or in a slot that does not exist, and no slot twice. -/
def State.slotsSound (s : State) : Prop :=
  (∀ i, ∀ m ∈ (s.mapAt i).marks, m.sec = i ∧ m.slot < Config.markSlots) ∧ (s.allMarks.map (·.slot)).Nodup

/-- R23: at most 16 boundaries are held, and for each one that may still come a record is free. -/
abbrev State.reserveHeld (s : State) : Prop :=
  s.boundaryCount ≤ Config.boundaryLimit ∧
    s.markCount + (Config.boundaryLimit - s.boundaryCount) ≤ Config.markSlots

/-- R22, R23, R28: the map's lists and reserve are sound, and no change of the BOARD list waits to be announced: the
field that holds one is empty between commands (log 10). -/
def State.mapsSound (s : State) : Prop := s.slotsSound ∧ s.reserveHeld ∧ s.wm.boardChange = none

/-- R61 to R63, R66: the list holds at most the depth, which is 2 for a knife only; the tags of the list and of the
pending command are distinct and not 0, a command is pending only beside a full list, and at most 4 tags are recent. -/
def Channel.sound (c : Channel) : Prop :=
  1 ≤ c.depth ∧ c.depth ≤ 2 ∧ (c.depth = 2 → c.cls = some .knife) ∧ c.outstanding.length ≤ c.depth ∧
  (c.outstanding.map (·.tag) ++ (c.pend.map (·.tag)).toList).Nodup ∧ (∀ x ∈ c.outstanding, x.tag ≠ 0) ∧
  (∀ x, c.pend = some x → x.tag ≠ 0 ∧ c.outstanding.length = c.depth) ∧ c.nextTag ≠ 0 ∧ c.recent.length ≤ 4

/-- Every command channel record is sound. -/
def State.channelsSound (s : State) : Prop := ∀ i c, s.channelAt i = some c → c.sound

/-- R128, R129, R138, R140: the plan holds at most 16 entries, the SENT ones first; min_piece and each piece of the piece
list are at least 2,000 long; each piece begins where the one before it ends, and the last one ends at the last actual
cut. -/
def State.cutsSound (s : State) : Prop :=
  s.cp.plan.length ≤ Config.planCapacity ∧
  s.cp.plan.Pairwise (fun a b => b.sent.isSome = true → a.sent.isSome = true) ∧
  (∀ (i : Nat) (p q : Piece), s.cp.pieces[i]? = some p → s.cp.pieces[i + 1]? = some q → q.lead = p.trail) ∧
  (∀ p, s.cp.pieces.getLast? = some p → s.cp.lastCut = some p.trail) ∧
  2000 ≤ s.cp.minPiece ∧ ∀ p ∈ s.cp.pieces, 2000 ≤ sdist p.lead p.trail

/-- R78, R79, R94: at most 32 orders wait, with distinct keys, and at most 8 completion records are kept. -/
def State.ordersHeld (s : State) : Prop :=
  s.op.queue.length ≤ Config.queueCapacity ∧ (s.op.queue.map (·.key)).Nodup ∧
    s.op.history.length ≤ Config.historyCapacity

/-! ### Frames and cycles -/

/-- R45, R53, R57: a good frame has begun a cycle in NORMAL with no window open: the clock, the number, the sample time,
the window at its length, no station heard yet, and in RUN the cell-loss timer. -/
def State.begun (s : State) (cycle : Half) (now : Word) : State :=
  s.withFr { s.fr with
    clock := now, cycle := cycle, begun := true, sample := now, windowOpen := true, windowLen := s.fr.window
    timerStart := if s.mu.mode = .run then now else s.fr.timerStart
    timerPeriod := if s.mu.mode = .run then s.fr.nominal else s.fr.timerPeriod
    health := s.fr.health.map (fun h => { h with heard := false }) }

/-- R44, R45: what goes on to the field port of a frame that came as the bytes given, when its items have become those
given: the frame as it came, or composed anew with the originator flag alone kept. -/
def Frame.goesOn (f : Frame) (bytes : List Byte) (items : List Item) : List Byte :=
  if items = f.items then bytes else ({ f with flags := f.flags &&& 1, items := items } : Frame).compose

/-- No channel table entry is loaded: FR rewrites and appends nothing (R48, R49). -/
def State.noEntries (s : State) : Prop := ∀ i, s.entryAt i = none

/-- No job is served by a command channel: no knife, stacker, web or station names it. -/
def State.servesNoJob (s : State) (ch : Nat) : Prop :=
  s.cp.knife ≠ some ch ∧ s.sg.channel ≠ some ch ∧ (∀ i w, s.webAt i = some w → w.cfg.channel ≠ ch) ∧
    ∀ i x, s.stationAt i = some x → x.cfg.channel ≠ ch

/-! ### Requests and replies -/

/-- The row that an MREQ item is (Table 11-2, R164). None for an unknown request kind, and for a MODE item whose one
word is not 0 or 1. -/
def requestRow (i : Item) : Option Instr :=
  match RequestKind.ofCode i.channel with
  | none => none
  | some .tableWrite => some (.tableWrite i.tag i.value i.words)
  | some .tableRead => some (.tableRead i.tag i.value i.words)
  | some .orderAdd => some (.orderAdd i.tag i.value i.words)
  | some .orderEdit => some (.orderEdit i.tag i.value i.words)
  | some .orderCancel => some (.orderCancel i.tag i.value i.words)
  | some .orderRush => some (.orderRush i.tag i.value i.words)
  | some .orderRead => some (.orderRead i.tag i.value i.words)
  | some .historyRead => some (.historyRead i.tag i.value i.words)
  | some .anchorLink => some (.anchorLink i.tag i.value i.words)
  | some .spliceNow => some (.spliceNow i.tag i.value i.words)
  | some .zoneAdd => some (.zoneAdd i.tag i.value i.words)
  | some .stationClear => some (.stationClear i.tag i.value i.words)
  | some .mode =>
    match i.words with
    | [m] => if m = 0 then some (.modeSetup i.tag i.value) else if m = 1 then some (.modeRun i.tag i.value) else none
    | _ => none
  | some .resetTracking => some (.resetTracking i.tag i.value i.words)
  | some .clear => some (.clear i.tag i.value i.words)
  | some .statusRead => some (.statusRead i.tag i.value i.words)

/-- The state some commands leave, one after another. -/
def State.afterAll (s : State) (cs : List Instr) : State :=
  cs.foldl
    (fun s c =>
      match exec c s with
      | .next t => t
      | _ => s)
    s

/-- A reply of one part has been queued: its code, its subcode and its words (Table 11-1). -/
def State.replied (s : State) (tag : Half) (code sub : Nat) (words : List Word) : State :=
  s.withMu { s.mu with replies := s.mu.replies ++ [⟨tag, 0, BitVec.ofNat 32 (code + 256 * sub + 65536), words⟩] }

/-- R165: a reply of one part without words is queued, or lost when the queue is full. -/
def State.repliedOrLost (s : State) (tag : Half) (code : Nat) : State :=
  if s.mu.replies.length < Config.replyCapacity then s.replied tag code 0 [] else s.withMu { s.mu with replyLost := true }

/-- A request reaches the part and its reply of one part fits in the reply queue (R43, R165). -/
abbrev State.answers (s : State) : Prop := s.reachable = true ∧ s.mu.replies.length < Config.replyCapacity

/-- A read's reply has been queued: its words in parts of 24, each part with the number of parts (Table 11-1,
R165). -/
def State.repliedParts (s : State) (tag : Half) (words : List Word) : State :=
  let n := max 1 ((words.length + 23) / 24)
  s.withMu { s.mu with replies := s.mu.replies ++ (List.range n).map (fun i =>
    ⟨tag, i, BitVec.ofNat 32 (65536 * n), (words.drop (24 * i)).take 24⟩) }

/-- A request reaches the part and a reply of that many words fits in the reply queue (R43, R165). -/
abbrev State.answersWords (s : State) (words : Nat) : Prop :=
  s.reachable = true ∧ s.mu.replies.length + max 1 ((words + 23) / 24) ≤ Config.replyCapacity

/-- A request reaches the part in SETUP, where its one-part reply fits. -/
abbrev State.answersInSetup (s : State) : Prop := s.answers ∧ s.mu.mode = .setup

/-- The state with another projected boundary, which R81 recomputes at the end of a request. -/
def State.withProjection (s : State) (b : Projection) : State := s.withOp { s.op with bproj := b }

/-! ### Commands that can store a table -/

/-- The commands that can write a table: a reset, a frame (which may hold table writes) and the table writes. -/
def storesTables : Instr → Bool
  | .powerOnReset .. | .outboundFrame .. => true
  | .sectionWrite .. | .linkWrite .. | .relayRecordWrite .. | .channelTableWrite .. | .watchTableWrite ..
  | .stationThresholdWrite .. | .commandChannelWrite .. | .gradeWrite .. | .patternWrite ..
  | .plannerRecordWrite .. | .spliceRecordWrite .. | .slitterStationWrite .. | .pairRecordWrite ..
  | .cutPlannerRecordWrite .. | .sgRecordWrite .. | .curveWrite .. | .generatorWrite .. | .tableWrite .. => true
  | .returnFrame .. | .returnWindowExpiry .. | .slotStale .. | .stationSuspect .. | .cmdTimeout ..
  | .cmdOverdue .. | .spliceCountTaken .. | .cellLost .. | .originateFrame .. => false
  | .tableRead .. | .orderAdd .. | .orderEdit .. | .orderCancel .. | .orderRush .. | .orderRead ..
  | .historyRead .. | .anchorLink .. | .spliceNow .. | .zoneAdd .. | .stationClear .. | .modeSetup ..
  | .modeRun .. | .resetTracking .. | .clear .. | .statusRead .. => false

/-- The commands that can change the mode: a reset, a frame (which may hold a MODE request) and MODE itself. -/
def setsMode : Instr → Bool
  | .powerOnReset .. | .outboundFrame .. | .modeSetup .. | .modeRun .. => true
  | .returnFrame .. | .returnWindowExpiry .. | .slotStale .. | .stationSuspect .. | .cmdTimeout ..
  | .cmdOverdue .. | .spliceCountTaken .. | .cellLost .. | .originateFrame .. => false
  | .sectionWrite .. | .linkWrite .. | .relayRecordWrite .. | .channelTableWrite .. | .watchTableWrite ..
  | .stationThresholdWrite .. | .commandChannelWrite .. | .gradeWrite .. | .patternWrite ..
  | .plannerRecordWrite .. | .spliceRecordWrite .. | .slitterStationWrite .. | .pairRecordWrite ..
  | .cutPlannerRecordWrite .. | .sgRecordWrite .. | .curveWrite .. | .generatorWrite .. | .tableWrite .. => false
  | .tableRead .. | .orderAdd .. | .orderEdit .. | .orderCancel .. | .orderRush .. | .orderRead ..
  | .historyRead .. | .anchorLink .. | .spliceNow .. | .zoneAdd .. | .stationClear .. | .resetTracking ..
  | .clear .. | .statusRead .. => false

end Sys2Proof.Machine
end

