-- ==== Sys2Proof/Certificates/Slice0/Obligations.lean ====
section
/-! DEFINITION. Certificates/Slice0/Obligations.lean: the statements about the W640 for the provers. Each docstring
names the rules it rests on and, where a clause is the model's own choice, its log entry. -/

open Sys2Proof Sys2Proof.Machine

/-! ### The step, reset and the frames -/

/-- A step runs the command at the front on the state with the rest of the queue. That the block idles on an empty
queue is the model's choice (log 2). -/
def Obligations.StepTakesTheFront : Prop :=
  (∀ (c : Instr) (rest : List Instr) (s : State), s.pending = c :: rest → step s = exec c (s.withPending rest)) ∧
  ∀ s : State, s.pending = [] → step s = .next s

/-- Every row completes: in every state exec answers a next state, and the commands that wait stay as they are. What the
next state is the other statements say. That a row whose own condition does not hold leaves the state, or its clock
alone, changed is the model's choice (log 4, 5, 6), and so is the queue of waiting commands (log 46). -/
def Obligations.EveryCommandCompletes : Prop :=
  ∀ (c : Instr) (s : State), ∃ t, exec c s = .next t ∧ t.pending = s.pending

/-- R172, R43 with R19, R42, R60, R74, R94, R113, R126, R142, R151 and R163: what a power-on reset leaves. That the
commands which wait stay is the model's choice (log 46). -/
def Obligations.PowerOnReset : Prop :=
  ∀ (pins : BitVec 6) (s : State), ∃ t, exec (.powerOnReset pins) s = .next t ∧ t.pending = s.pending ∧
    t.fr.ownAddr = pins ∧ t.fr.state = .normal ∧ t.fr.begun = false ∧ t.fr.windowOpen = false ∧
    t.fr.badOutbound = 0 ∧ t.fr.frameFull = false ∧
    (∀ k, 1 ≤ k → k ≤ 62 → ∃ h, t.healthAt k = some h ∧ h.threshold = 0 ∧ h.bad = 0 ∧ h.late = 0 ∧ h.missRun = 0 ∧
      h.suspect = false) ∧
    (∀ i, t.sectionAt i = none ∧ t.linkAt i = none ∧ t.entryAt i = none ∧ t.slotAt i = none ∧ t.webAt i = none ∧
      t.stationAt i = none ∧ t.generatorAt i = none ∧ t.gradeAt i = none ∧ t.patternAt i = none ∧
      (t.mapAt i).marks = []) ∧
    t.wm.nextSerial = 1 ∧
    (∀ i c, t.channelAt i = some c → c.cls = none ∧ c.outstanding = [] ∧ c.pend = none ∧ c.nextTag = 1 ∧
      c.recent = [] ∧ c.lastUnsol = none ∧ c.fault = false) ∧
    t.ccu.gate = none ∧ t.op.queue = [] ∧ t.op.history = [] ∧ t.op.runningGrade = none ∧
    t.op.runningPattern = none ∧ t.sp.swap = none ∧ t.sp.cover.active = false ∧ t.cp.plan = [] ∧ t.cp.base = none ∧
    t.cp.pieces = [] ∧ t.sg.published = none ∧ t.sg.owed = none ∧ t.sg.cmds = [] ∧ t.sg.unassigned = 0 ∧
    (∀ c ∈ t.ss.curves, c = []) ∧
    t.mu = { mode := .setup, events := [], replies := [], eventsDropped := false, replyLost := false }

/-- R46: a bad frame on the cell port goes on as it came and is counted, saturating at 65,535; the cycle, the window,
the cell-loss timer and everything else but the clock's reading stay. -/
def Obligations.BadOutboundForwarded : Prop :=
  ∀ (bytes : List Byte) (now : Word) (s : State), goodOutbound bytes = none →
    ∃ c, exec (.outboundFrame bytes now) s = .next (s.withFr { s.fr with
      clock := c, badOutbound := min 65535 (s.fr.badOutbound + 1), fieldPort := s.fr.fieldPort ++ [bytes] })

/-- R45, R53, R57, R59: a good frame that brings nothing for the part itself begins a cycle, opens the window and goes
on as it came, unused flag bits and items of unknown kind included (log 17, 18). This is in SETUP, or in RUN with no
channel table entry loaded, where it restarts the cell-loss timer too. A SET item that a slot watches is stored; the
slot of a SUSPECT station stays STALE (log 72). In LOST_CELL the frame first ends that state and raises CELL_RESTORED,
whose position word is free (log 54), as is its value word for a number of frames beyond 32 bits (log 13). -/
def Obligations.OutboundBeginsCycle : Prop :=
  ∀ (bytes : List Byte) (f : Frame) (now : Word) (s : State), goodOutbound bytes = some f →
    s.mu.mode = .setup ∨ s.noEntries → s.fr.windowOpen = false →
    (∀ i ∈ f.items, i.readKind.isSome = true → ¬(s.workingAddress = true ∧ i.station = s.ownByte)) →
    (s.fr.state = .normal → (∀ i ∈ f.items, i.readKind = some .set → watchSlot i.key .set s = none) →
      exec (.outboundFrame bytes now) s = .next (sendField bytes (s.begun f.cycle now))) ∧
    (∀ i k w h, s.fr.state = .normal → s.wm.boardChange = none → f.items = [i] → i.readKind = some .set →
      watchSlot i.key .set s = some k → s.slotAt k = some w → s.healthAt i.station.toNat = some h →
      h.suspect = true ∨ w.owner = .sg ∨ w.owner = .ss →
      exec (.outboundFrame bytes now) s = .next (sendField bytes ((s.begun f.cycle now).adjustSlot k (fun w =>
        { w with value := i.value, aux := i.words.headD 0, lastCycle := some f.cycle, lastSample := now
                 fresh := !h.suspect, missRun := 0 })))) ∧
    (s.fr.state = .lostCell → f.items = [] →
      exec (.outboundFrame bytes now) s = .next (sendField bytes ((raiseNoPosition .cellRestored
        (natWord f.cycle.toNat) (natWord s.fr.originated) (s.withFr { s.fr with state := .normal })).begun
          f.cycle now)))

/-- R48, R49, R64 in RUN, with one channel table entry loaded. Its SET item passes (R47: with no source), takes the
source's value, is limited to the band around it, or gives way to the W640's own item. A generator or the gate may have
no value: the item is then left, and as an owned one a generator sends its idle value and the gate nothing. To items
that are not read (log 18) the entry adds an owned value, a completing one, or the commands of its command channel,
oldest first: one with an abort requested as ABORT, and else one not yet accepted. As many as the frame has room for are
placed and take their send time; without room for all of them FRAME_FULL is set. A frame whose items stay goes on as it
came, unused flag bits included (log 17). -/
def Obligations.OutboundRewritten : Prop :=
  ∀ (bytes : List Byte) (f : Frame) (now : Word) (s : State) (k : Nat) (e : ChannelEntry),
    goodOutbound bytes = some f → s.mu.mode = .run → s.fr.state = .normal → s.fr.windowOpen = false → k ≤ 127 →
    s.entryAt k = some e → (∀ j x, s.entryAt j = some x → j = k) →
    let begun := s.begun f.cycle now
    let sent := fun (t : State) (items : List Item) => (.next (sendField (f.goesOn bytes items) t) : Result)
    let own := fun (v : Word) => (⟨e.key.station, e.key.channel, 1, 0, v, []⟩ : Item)
    let treats := fun (t : State) (value : Option Word) (owned : List Item) =>
      (∀ i, f.items = [i] → i.readKind = some .set → i.key = e.key → watchSlot i.key .set s = none →
        ¬(s.workingAddress = true ∧ i.station = s.ownByte) →
        (e.mode = .pass → exec (.outboundFrame bytes now) s = sent begun [i]) ∧
        (e.mode = .replace → exec (.outboundFrame bytes now) s = sent t
          [match value with
            | some y => { i with value := y }
            | none => i]) ∧
        (∀ band, e.mode = .clamp → e.band = some band → exec (.outboundFrame bytes now) s = sent t
          [match value with
            | some y =>
              let y := y.toInt
              let v := i.value.toInt
              { i with value := BitVec.ofInt 32 (if v < y - band then y - band else if y + band < v then y + band else v) }
            | none => i]) ∧
        (e.mode = .own → exec (.outboundFrame bytes now) s = sent t owned)) ∧
      ((∀ i ∈ f.items, i.readKind = none) →
        let fills := fun (l : List Item) =>
          if l = [] then sent t f.items
          else if f.items.length < Config.outboundItems then sent t (f.items ++ l)
          else sent (t.withFr { t.fr with frameFull := true }) f.items
        (e.mode = .pass ∨ e.mode = .clamp → exec (.outboundFrame bytes now) s = sent begun f.items) ∧
        (e.mode = .replace → exec (.outboundFrame bytes now) s = fills (value.map own).toList) ∧
        (e.mode = .own → exec (.outboundFrame bytes now) s = fills owned))
    (∀ g, e.source = some (.generator g) →
      let r := generatorValue g begun
      treats r.1 (r.2.map natWord) (match r.2 with
        | some y => [own (natWord y)]
        | none => ((s.generatorAt g).map (fun x => own (natWord x.cfg.idle))).toList)) ∧
    (e.source = some .gate →
      let value : Option Word := s.ccu.gate.map (fun
        | .pass => 1
        | .divert => 0)
      treats begun value (value.map own).toList) ∧
    (e.source = none → e.mode = .pass → treats begun none []) ∧
    (∀ ch c key, e.source = some (.command ch) → e.mode = .own → (∀ i ∈ f.items, i.readKind = none) →
      s.channelAt ch = some c → c.key = some key → (c.outstanding.map (·.tag)).Nodup →
      let given := c.outstanding.filterMap (fun x =>
        if x.abort then some ⟨key.station, key.channel, 2, x.tag, 15, []⟩
        else if x.accepted then none
        else some ⟨key.station, key.channel, 2, x.tag, natWord x.verb.code, x.args⟩)
      let placed := given.take (Config.outboundItems - f.items.length)
      let stamped := begun.adjustChannel ch (fun c => { c with outstanding := c.outstanding.map (fun x =>
        if placed.any (fun i => i.tag == x.tag) then { x with sendTime := some (x.sendTime.getD now) } else x) })
      exec (.outboundFrame bytes now) s = sent
        (if placed.length < given.length then stamped.withFr { stamped.fr with frameFull := true } else stamped)
        (f.items ++ placed))

/-- R45, R164, R165: a frame of MREQ items to the part goes on without them, and then the first 4 act in order, each as
the row it spells (`requestRow`); each further one is answered BUSY, or its reply is lost in a full queue. An unknown
request kind is answered UNKNOWN. -/
def Obligations.FrameRequestsTaken : Prop :=
  ∀ (bytes : List Byte) (f : Frame) (now : Word) (s : State), goodOutbound bytes = some f →
    s.mu.mode = .setup ∨ s.noEntries → s.fr.state = .normal → s.fr.windowOpen = false → s.workingAddress = true →
    (∀ i ∈ f.items, i.readKind = some .mreq ∧ i.station = s.ownByte) →
    let relayed := sendField (f.goesOn bytes []) (s.begun f.cycle now)
    (∀ rows, (f.items.take 4).map requestRow = rows.map some →
      exec (.outboundFrame bytes now) s =
        .next ((f.items.drop 4).foldl (fun t i => t.repliedOrLost i.tag 2) (relayed.afterAll rows))) ∧
    (∀ i, f.items = [i] → RequestKind.ofCode i.channel = none →
      exec (.outboundFrame bytes now) s = .next (relayed.repliedOrLost i.tag 3))

/-- R52, with R43 for the own address: return frames that are late or bad are forwarded and counted, no more. -/
def Obligations.LateOrBadReturnCounted : Prop :=
  ∀ (bytes : List Byte) (s : State),
    let sent := s.withFr { s.fr with cellPort := s.fr.cellPort ++ [bytes] }
    (∀ f, goodReturn bytes = some f → ¬(s.fr.windowOpen = true ∧ f.cycle = s.fr.cycle) →
      ¬(s.workingAddress = true ∧ f.source = s.ownByte) →
      exec (.returnFrame bytes) s = .next (sent.adjustHealth f.source.toNat (fun h =>
        { h with late := min 65535 (h.late + 1) }))) ∧
    (∀ b, goodReturn bytes = none → bytes[2]? = some b → 1 ≤ b.toNat → b.toNat ≤ 62 →
      ¬(s.workingAddress = true ∧ b = s.ownByte) →
      exec (.returnFrame bytes) s = .next (sent.adjustHealth b.toNat (fun h =>
        { h with bad := min 65535 (h.bad + 1) }))) ∧
    (goodReturn bytes = none → (∀ b, bytes[2]? = some b → b.toNat = 0 ∨ 62 < b.toNat) →
      exec (.returnFrame bytes) s = .next sent)

/-- R51: an in-time frame of a station clears its miss run and stores a REPORT item in the slot that watches it, and the
slot's owner takes the value. Stack and Gate Unit and Setpoint Scheduler read their slots when they need them, Splice
Controller and Slitter Pair Controller take none in SETUP. Of a SUSPECT station the frame ends SUSPECT and raises
STATION_RESTORED, whose words are free (log 54).
Web Map (R13, R25, R27, R35 to R38), on a section that is not BOARD: the count becomes the point's baseline; a
detection in RUN gives the nearest splice in the match window its position and corrects its via-link, or makes a zone.
The matched mark is inserted again behind marks of equal position with e = 0 too (log 102). JOINT_MATCHED carries e
(log 53); the zone's record is free (log 11), and so is a length beyond 24 bits (log 12).
Left out: two marks equally near, an error beyond max_corr, other marks
of the via-link and a pool down to its reserve. Of PT's slots this says nothing (TrackCounterFollowsPrimary).
Splice Controller (R97, R98, R100): the diameter is recorded, and accepted or not as a sample, of which 4 are kept; two
or more samples give an estimate of K, which confirms K or replaces it; the remaining length (by exact numbers: log 15)
and the reserve follow.
Slitter Pair Controller (R123, R117, R119, R68): tool state FAULT is a fault with value 4, taken before the live command
(log 33); a report that shows the live command done settles its tag, asks for its abort and moves the station, and the
swap ends when both commands are done; any other report changes nothing. -/
def Obligations.InTimeReturnTaken : Prop :=
  ∀ (bytes : List Byte) (f : Frame) (s : State), goodReturn bytes = some f → s.fr.windowOpen = true →
    f.cycle = s.fr.cycle → ¬(s.workingAddress = true ∧ f.source = s.ownByte) → s.wm.boardChange = none →
    let heard := (s.withFr { s.fr with cellPort := s.fr.cellPort ++ [bytes] }).adjustHealth f.source.toNat (fun h =>
      { h with missRun := 0, heard := true, suspect := false })
    (∀ h, f.items = [] → s.healthAt f.source.toNat = some h → h.suspect = true →
      exec (.returnFrame bytes) s = .next (raiseSubject .stationRestored (natWord f.source.toNat) heard)) ∧
    (∀ i k w h, f.items = [i] → i.station = f.source → i.readKind = some .report →
      watchSlot i.key .report s = some k → s.slotAt k = some w →
      s.healthAt f.source.toNat = some h → h.suspect = false →
      let aux := i.words.headD 0
      let stored := heard.adjustSlot k (fun w =>
        { w with value := i.value, aux := aux, lastCycle := some s.fr.cycle, lastSample := s.fr.sample
                 fresh := true, missRun := 0 })
      (w.owner = .sg ∨ w.owner = .ss ∨ (w.owner = .sc ∨ w.owner = .sp) ∧ s.mu.mode = .setup →
        exec (.returnFrame bytes) s = .next stored) ∧
      (∀ sec c point p window link lead trail, w.owner = .wm → sec ≤ 11 → s.sectionAt sec = some c →
        c.cfg.points[point]? = some p → p.use = .jointSensor k window link lead trail →
        (∀ sec' c' point' p' a b d e, s.sectionAt sec' = some c' → c'.cfg.points[point']? = some p' →
          p'.use = .jointSensor k a b d e → sec' = sec ∧ point' = point) →
        let seen : Half := aux.truncate 16
        let old := ((s.mapAt sec).baselines[point]?).join
        let based := stored.adjustMap sec (fun m => { m with baselines := m.baselines.set point (some seen) })
        let pj := shiftBy (toTrack s ⟨sec, .primary⟩ i.value) (-p.dist)
        let widening := if s.uncertain sec then c.cfg.margin else 0
        let marks := (s.mapAt sec).marks
        let meets := fun (m : Mark) =>
          m.kind = .splice ∧ m.verifiedAt ≠ some point ∧ (sdist pj m.pos).natAbs ≤ window
        (s.mu.mode = .setup ∨ old = none ∨ old = some seen → exec (.returnFrame bytes) s = .next based) ∧
        ∀ before, s.mu.mode = .run → old = some before → before ≠ seen → s.isBoard sec = false →
          (∀ m, m ∈ marks → meets m → m.sec = sec →
            (∀ y ∈ marks, meets y → y = m ∨ (sdist pj m.pos).natAbs < (sdist pj y.pos).natAbs) →
            let e := sdist m.pos pj
            let verified : Mark :=
              { m with pos := pj, conf := .verified, widening := fitLength widening, reckoned := s.uncertain sec
                       verifiedAt := some point }
            let matched := raise .jointMatched (natWord m.slot) pj (wordOf e) (based.adjustMap sec (fun x =>
              { x with marks := insertMark verified (marks.filter (·.slot != m.slot)) }))
            (m.via = none → exec (.returnFrame bytes) s = .next matched) ∧
            (∀ via l, m.via = some via → s.linkAt via = some l → e.natAbs ≤ l.maxCorr →
              (∀ y ∈ marks, y.slot ≠ m.slot → y.via ≠ some via) →
              exec (.returnFrame bytes) s = .next (matched.adjustLink via (fun l =>
                { l with aDown := shiftBy l.aDown e })))) ∧
          ((∀ y ∈ marks, ¬meets y) → sec < s.wm.maps.length →
            Config.boundaryLimit - s.boundaryCount < s.freeCount →
            let zone : Mark :=
              { slot := s.freeSlot, serial := s.wm.nextSerial, kind := .zone, cause := some .jointUnknown, sec := sec
                pos := pj, lead := fitLength lead, trail := fitLength trail, widening := fitLength widening
                conf := .confirmed, reckoned := s.uncertain sec, via := none, verifiedAt := none, origin := none
                order := none, patternChange := false }
            let listed := based.adjustMap sec (fun x => { x with marks := insertMark zone marks })
            exec (.returnFrame bytes) s = .next (raise .jointUnexpected (natWord (sec * 8 + point)) pj
              (natWord (seen - before).toNat) (listed.withWm { listed.wm with
                nextSerial := if s.wm.nextSerial < 65535 then s.wm.nextSerial + 1 else 1 })))) ∧
      (∀ j v, w.owner = .sc → s.mu.mode = .run → j ≤ 5 → s.webAt j = some v → v.cfg.diamSlot = k →
        let now := s.count v.cfg.sec
        let d := i.value.toNat
        let accepted := s.held v.cfg.sec = false ∧ v.st.holdCycle ≠ some s.fr.cycle ∧
          ∀ newest, v.st.samples.getLast? = some newest → d + v.cfg.dMin ≤ newest.2
        ∃ t x, exec (.returnFrame bytes) s = .next t ∧ t.tables = s.tables ∧ t.mu.mode = .run ∧
          t.mu.replies = s.mu.replies ∧ t.webAt j = some x ∧ x.cfg = v.cfg ∧ x.st.diameter = d ∧ x.st.cD = now ∧
          (¬accepted → x.st.samples = v.st.samples ∧ x.st.reelKnown = v.st.reelKnown ∧ x.st.k = v.st.k ∧
            x.st.confidence = v.st.confidence) ∧
          (accepted → x.st.reelKnown = true ∧
            x.st.samples = (if v.st.samples.length < 4 then v.st.samples else v.st.samples.tail) ++ [(now, d)] ∧
            (x.st.samples.length = 1 → x.st.k = v.st.k ∧ x.st.confidence = v.st.confidence) ∧
            ∀ oldest more, x.st.samples = oldest :: more → more ≠ [] →
              let run := sdist oldest.1 now
              let estimate : Int := max 2048 (min 65535 (65536 * run / ((oldest.2 : Int) ^ 2 - (d : Int) ^ 2)))
              let confirms := (estimate - v.st.k).natAbs ≤ v.st.k * v.cfg.tol / 256
              (run ≤ 0 → x.st.k = v.st.k ∧ x.st.confidence = v.st.confidence) ∧
              (0 < run → confirms → x.st.k = v.st.k ∧ x.st.confidence = min 3 (v.st.confidence + 1)) ∧
              (0 < run → ¬confirms → (x.st.k : Int) = estimate ∧ x.st.confidence = 0)) ∧
          (x.st.reelKnown = true →
            x.st.lastLength = (if d ≤ v.cfg.core then 0 else (d ^ 2 - v.cfg.core ^ 2) * x.st.k / 65536) ∧
            x.st.lastReserve = v.cfg.baseReserve * (match x.st.confidence with
              | 0 => 8
              | 1 => 6
              | _ => 4) / 4)) ∧
      (∀ j y, w.owner = .sp → s.mu.mode = .run → j ≤ 1 → s.stationAt j = some y → y.cfg.slot = k →
        (∀ j' z, s.stationAt j' = some z → z.cfg.slot = k → j' = j) →
        let shows := fun (l : LiveCommand) => match l.verb with
          | .preset => i.value = natWord l.tag.toNat
          | .lift => aux = 1
          | .slitterDrop => aux = 2
          | _ => False
        (y.state = .fault ∨ aux ≠ 4 ∧ (∀ l, y.live = some l → ¬shows l) →
          exec (.returnFrame bytes) s = .next stored) ∧
        (∀ b, y.state ≠ .fault → aux = 4 → s.boardIndex = some b → s.mu.events.length < Config.eventCapacity →
          Config.boundaryLimit - s.boundaryCount < s.freeCount →
          ∃ t z later, exec (.returnFrame bytes) s = .next t ∧ t.stationAt j = some z ∧ z.state = .fault ∧
            z.live = none ∧ z.atRisk = decide (y.state = .engaged) ∧ z.pattern = y.pattern ∧
            t.mu.events = s.mu.events ++ ⟨.slitterFault, natWord j, materialAtStation j s, 4, s.fr.cycle⟩ :: later) ∧
        (∀ l c, y.state ≠ .fault → aux ≠ 4 → y.live = some l → shows l → s.channelAt y.cfg.channel = some c →
          c.pend.map (·.tag) ≠ some l.tag → c.outstanding.any (·.tag == l.tag) = true →
          let moved : Slitter := match l.verb with
            | .preset => { y with state := .preset }
            | .lift => { y with state := .idle, pattern := none }
            | _ => { y with state := .engaged }
          let told := (stored.adjustChannel y.cfg.channel (fun c =>
            { c with outstanding := c.outstanding.map (fun x =>
                if x.tag == l.tag then { x with abort := true } else x) })).adjustStation j (fun _ =>
              { moved with live := none, settled := some l.tag })
          (s.sp.swap = none → exec (.returnFrame bytes) s = .next told) ∧
          ∀ q, s.sp.swap = some q →
            (l.verb = .preset → q.stage ≠ .late → exec (.returnFrame bytes) s = .next told) ∧
            (l.verb ≠ .preset →
              let q' : Swap := if l.verb = .lift then { q with lift := .done } else { q with drop := .done }
              let ended := q'.drop = .done ∧ (q'.lift = .done ∨ q'.lift = .failed ∨ q'.lift = .notNeeded)
              (¬ended → exec (.returnFrame bytes) s = .next (told.withSp { told.sp with swap := some q' })) ∧
              (∀ pos, ended → q.boundary.map (·.pos) = some pos ∨ q.boundary = none ∧ q.lateStart = some pos →
                exec (.returnFrame bytes) s = .next (raise .swapDone (natWord q.newStation) pos
                  (match q.lateStart with
                    | some p => wordOf (sdist p s.sp.cover.rear)
                    | none => 0)
                  (told.withSp { told.sp with swap := none })))))))

/-- R65 to R67, R71, R62: what an in-time ACCEPT, DONE or REFUSE does to its command channel, in SETUP or where the
channel serves no job. An ACCEPT takes the accept time once; a DONE or a REFUSE of an outstanding command removes it,
remembers its tag and lets the pending command enter, its position translated. A DONE of another tag is unsolicited: a
recent tag is ignored, tag 0 is kept unless it repeats within 3 cycles, and any other tag is remembered. An ACCEPT or a
DONE ends FAULT with CHANNEL_RECOVERED, whose position and value words are free (log 54). The offset by which a position
of a freed section is translated is free (log 65). That a REFUSE with tag 0 is ignored like any unknown one is the
model's choice (log 77). -/
def Obligations.CommandAnswersTaken : Prop :=
  ∀ (bytes : List Byte) (f : Frame) (i : Item) (ch : Nat) (c : Channel) (h : Health) (s : State),
    goodReturn bytes = some f → s.fr.windowOpen = true → f.cycle = s.fr.cycle →
    ¬(s.workingAddress = true ∧ f.source = s.ownByte) → s.wm.boardChange = none → f.items = [i] →
    i.station = f.source → s.healthAt f.source.toNat = some h → h.suspect = false →
    channelOf i.key s = some ch → s.channelAt ch = some c → s.mu.mode = .setup ∨ s.servesNoJob ch →
    let heard := (s.withFr { s.fr with cellPort := s.fr.cellPort ++ [bytes] }).adjustHealth f.source.toNat (fun h =>
      { h with missRun := 0, heard := true })
    let found := c.outstanding.find? (·.tag == i.tag)
    let rest := c.outstanding.filter (·.tag != i.tag)
    let recent := if c.recent.length < 4 then c.recent ++ [i.tag] else c.recent.tail ++ [i.tag]
    (i.readKind = some .accept → c.fault = false →
      (∀ x, found = some x → x.accepted = false →
        exec (.returnFrame bytes) s = .next (heard.adjustChannel ch (fun c =>
          { c with outstanding := c.outstanding.map (fun y =>
              if y.tag == i.tag then { y with accepted := true, acceptTime := some s.fr.sample } else y) }))) ∧
      ((∀ x, found = some x → x.accepted = true) → exec (.returnFrame bytes) s = .next heard)) ∧
    (i.readKind = some .refuse ∨ i.readKind = some .done ∧ c.fault = false → found.isSome = true →
      (c.pend = none → exec (.returnFrame bytes) s = .next (heard.adjustChannel ch (fun c =>
        { c with outstanding := rest, recent := recent }))) ∧
      (∀ p, c.pend = some p → rest.length < c.depth →
        exec (.returnFrame bytes) s = .next (heard.adjustChannel ch (fun c =>
          { c with outstanding := rest ++ [translate s p], pend := none, recent := recent })))) ∧
    (i.readKind = some .refuse → found = none → exec (.returnFrame bytes) s = .next heard) ∧
    (i.readKind = some .done → c.fault = false → found = none →
      (c.recent.contains i.tag = true → exec (.returnFrame bytes) s = .next heard) ∧
      (c.recent.contains i.tag = false →
        (i.tag ≠ 0 → exec (.returnFrame bytes) s = .next (heard.adjustChannel ch (fun c =>
          { c with recent := recent }))) ∧
        (i.tag = 0 →
          let again := ∃ u, c.lastUnsol = some u ∧ u.value = i.value ∧ u.words = i.words ∧
            (s.fr.cycle - u.cycle).toNat ≤ 3
          (again → exec (.returnFrame bytes) s = .next heard) ∧
          (¬again → exec (.returnFrame bytes) s = .next (heard.adjustChannel ch (fun c =>
            { c with lastUnsol := some ⟨i.value, i.words, s.fr.cycle⟩ })))))) ∧
    (c.fault = true → found = none →
      i.readKind = some .accept ∨ i.readKind = some .done ∧ c.recent.contains i.tag = true →
      exec (.returnFrame bytes) s = .next (raiseSubject .channelRecovered (natWord ch)
        (heard.adjustChannel ch (fun c => { c with fault := false }))))

/-! ### Timers -/

/-- R53 to R56, R10, R69, R70, R112, Table 11-1: the steps of an expiry in R53's order (`expirySteps`) keep tables,
mode, replies and waiting commands; a part with a working address then sends its own return frame, with the status
item, up to 6 events and as many replies as its 24 items leave room for; and the window is closed. That nothing but the
clock follows when the timer has not run out is the model's choice (log 5).
The steps: every slot without a value in the cycle counts a miss, and then each slot's row acts; each station but the
own address counts one when it was not heard, and then its row acts; every section takes its cycle snapshot, where none
is RECKONED; each outstanding command's two rows act. That slots, stations and commands are taken in index and list
order is the model's choice (log 7). Where no limit, threshold or timeout is reached, that is all but
the splice count waits: in RUN a web whose last count is ahead waits one expiry more, here still below 3. That a count
is ahead as compared with the accounted count at the expiry is read from R112 (log 29, DEDUCED). -/
def Obligations.WindowExpires : Prop :=
  ∀ (now : Word) (s : State),
    (¬(s.fr.windowOpen = true ∧ s.fr.windowLen ≤ (now - s.fr.sample).toNat) →
      exec (.returnWindowExpiry now) s = .next (s.withFr { s.fr with clock := now })) ∧
    (s.fr.windowOpen = true → s.fr.windowLen ≤ (now - s.fr.sample).toNat →
      let x := expirySteps (s.withFr { s.fr with clock := now })
      let room := 23 - min 6 x.mu.events.length
      let left := x.withMu { x.mu with events := x.mu.events.drop 6, replies := x.mu.replies.drop room }
      let frame : Frame :=
        { kind := 2, flags := 0, source := s.ownByte, cycle := x.fr.cycle, sample := x.fr.sample
          items := statusItem x left.mu.events.length left.mu.replies.length ::
            ((x.mu.events.take 6).map (Event.item s.ownByte) ++ (x.mu.replies.take room).map (Reply.item s.ownByte)) }
      (s.workingAddress = true → exec (.returnWindowExpiry now) s = .next (left.withFr { x.fr with
        cellPort := x.fr.cellPort ++ [frame.compose], windowOpen := false })) ∧
      (s.workingAddress = false → exec (.returnWindowExpiry now) s = .next (x.withFr { x.fr with
        windowOpen := false })) ∧
      x.tables = s.tables ∧ x.mu.mode = s.mu.mode ∧ x.mu.replies = s.mu.replies ∧ x.pending = s.pending ∧
      (let slot := fun (w : WatchEntry) =>
        if w.lastCycle = some s.fr.cycle then w else { w with missRun := min 255 (w.missRun + 1) }
       let station := fun (h : Health) => if h.heard = true then h else { h with missRun := min 255 (h.missRun + 1) }
       let snapshots := fun (t : State) => t.withPt { t.pt with sections := t.pt.sections.map (Option.map (fun c =>
         { c with trk := { c.trk with snapshot := c.trk.count } })) }
       let counted := s.withFr { s.fr with clock := now, watch := s.fr.watch.map (Option.map slot) }
       let noneReckoned := fun (t : State) => ∀ i c, t.sectionAt i = some c → c.trk.source ≠ .reckoned
       (let examinedStations := (List.range' 1 62).foldl
          (fun t k => if k = s.fr.ownAddr.toNat then t else (t.adjustHealth k station).afterAll [.stationSuspect k])
          (counted.afterAll ((List.range 96).map .slotStale))
        let examined := (List.range 24).foldl
          (fun t ch => (((t.channelAt ch).map (fun c => c.outstanding.map (·.tag))).getD []).foldl
            (fun t tag => t.afterAll [.cmdTimeout ch tag, .cmdOverdue ch tag]) t)
          (snapshots examinedStations)
        noneReckoned examinedStations → examinedStations.wm.boardChange = none → examined.wm.boardChange = none →
        (s.mu.mode = .setup ∨ ∀ i w, examined.webAt i = some w → w.cfg.countSlot ≠ none → w.st.countAhead = false) →
        x = examined) ∧
       ((∀ k w, s.slotAt k = some w → w.fresh = true → (slot w).missRun < w.limit) →
        (∀ k h, 1 ≤ k → k ≤ 62 → k ≠ s.fr.ownAddr.toNat → s.healthAt k = some h → h.threshold ≠ 0 →
          h.suspect = false → (station h).missRun < h.threshold) →
        noneReckoned s → s.wm.boardChange = none →
        (s.mu.mode = .setup ∨ ∀ ch c, s.channelAt ch = some c → ∀ y ∈ c.outstanding,
          (∀ sent, y.accepted = false → y.sendTime = some sent →
            (s.fr.sample - sent).toNat < c.acceptTimeout * 1000) ∧
          (∀ acc, y.accepted = true → y.overdue = false → y.acceptTime = some acc →
            (s.fr.sample - acc).toNat < c.completeTimeout * 1000)) →
        (s.mu.mode = .setup ∨ ∀ i w, s.webAt i = some w → w.st.countWait < 2) →
        x = (snapshots (counted.withFr { counted.fr with health := x.fr.health })).withSc x.sc ∧
        (∀ k, 1 ≤ k → x.healthAt k =
          if k ≤ 62 ∧ k ≠ s.fr.ownAddr.toNat then (s.healthAt k).map station else s.healthAt k) ∧
        ∀ i, x.webAt i = (s.webAt i).map (fun w =>
          if s.mu.mode = .run ∧ i ≤ 5 ∧ w.cfg.countSlot ≠ none ∧ w.st.countAhead = true then
            { w with st := { w.st with countWait := w.st.countWait + 1 } }
          else w))))

/-- R54, R55: a FRESH slot whose miss run has reached its limit becomes STALE, and any other slot stays; a station whose
miss run has reached its threshold becomes SUSPECT with its slots STALE, and any other stays. The owners are blocks
that keep what they hold, or, for a slot, the Path Tracker without a section that names it. That each row acts alone on
the counts as they stand is the model's choice (log 4); the event's position word is free (log 54). -/
def Obligations.MissesAreActedOn : Prop :=
  (∀ (k : Nat) (s : State) (w : WatchEntry), s.slotAt k = some w →
    (w.fresh = true → w.limit ≤ w.missRun → s.wm.boardChange = none →
      (w.owner ≠ .pt ∨ ∀ i c, s.sectionAt i = some c →
        c.cfg.primarySlot ≠ k ∧ c.cfg.backupSlot ≠ some k ∧ c.cfg.refSlot ≠ some k) →
      exec (.slotStale k) s = .next (s.adjustSlot k (fun w => { w with fresh := false }))) ∧
    (¬(w.fresh = true ∧ w.limit ≤ w.missRun) → exec (.slotStale k) s = .next s)) ∧
  ∀ (k : Nat) (s : State) (h : Health), 1 ≤ k → k ≤ 62 → s.healthAt k = some h →
    (k ≠ s.fr.ownAddr.toNat → h.threshold ≠ 0 → h.threshold ≤ h.missRun → h.suspect = false →
      s.fr.watch.length ≤ 96 → s.wm.boardChange = none →
      (∀ i w, s.slotAt i = some w → w.key.station.toNat = k → w.owner ≠ .pt) →
      let suspected := raiseNoPosition .stationSuspect (natWord k) (natWord h.missRun)
        (s.adjustHealth k (fun h => { h with suspect := true }))
      exec (.stationSuspect k) s = .next (suspected.withFr { suspected.fr with
        watch := s.fr.watch.map (Option.map (fun w =>
          if w.key.station.toNat = k then { w with fresh := false } else w)) })) ∧
    (k = s.fr.ownAddr.toNat ∨ h.threshold = 0 ∨ h.missRun < h.threshold ∨ h.suspect = true →
      exec (.stationSuspect k) s = .next s)

/-- R69, R70 in RUN (R74). A command that no ACCEPT has answered at its accept timeout leaves its channel, here one that
serves no job: its tag is not remembered, the pending command enters the list with its position translated (by a free
offset where its section has been freed: log 65), CMD_TIMEOUT is raised and the channel is in FAULT. An accepted command
past its complete timeout becomes overdue once, with CMD_OVERDUE, and stays in the list. That each row examines its
command alone, and does nothing before the time, is the model's choice (log 4); so is the word of the verb (log 70). -/
def Obligations.CommandTimesOutOrOverdue : Prop :=
  ∀ (ch : Nat) (tag : Half) (s : State) (c : Channel) (x : Command), s.mu.mode = .run → s.channelAt ch = some c →
    c.outstanding.find? (·.tag == tag) = some x →
    (∀ sent, x.accepted = false → x.sendTime = some sent → s.wm.boardChange = none →
      let rest := c.outstanding.filter (·.tag != tag)
      let timedOut := fun (f : Channel → Channel) => (.next
        ((raise .cmdTimeout (natWord ch) (natWord tag.toNat) (natWord x.verb.place)
          (s.adjustChannel ch f)).adjustChannel ch (fun c => { c with fault := true })) : Result)
      (s.servesNoJob ch → c.acceptTimeout * 1000 ≤ (s.fr.sample - sent).toNat →
        (c.pend = none → exec (.cmdTimeout ch tag) s = timedOut (fun c => { c with outstanding := rest })) ∧
        ∀ p, c.pend = some p → rest.length < c.depth →
          exec (.cmdTimeout ch tag) s = timedOut (fun c =>
            { c with outstanding := rest ++ [translate s p], pend := none })) ∧
      ((s.fr.sample - sent).toNat < c.acceptTimeout * 1000 → exec (.cmdTimeout ch tag) s = .next s)) ∧
    (∀ acc, x.accepted = true → x.overdue = false → x.acceptTime = some acc →
      (c.completeTimeout * 1000 ≤ (s.fr.sample - acc).toNat →
        ∃ t, exec (.cmdOverdue ch tag) s = .next t ∧ exec (.cmdOverdue ch tag) t = .next t ∧
          t = raise .cmdOverdue (natWord ch) (natWord tag.toNat) (natWord x.verb.place) (s.adjustChannel ch (fun c =>
            { c with outstanding := c.outstanding.map (fun y =>
                if y.tag == tag then { y with overdue := true } else y) }))) ∧
      ((s.fr.sample - acc).toNat < c.completeTimeout * 1000 → exec (.cmdOverdue ch tag) s = .next s))

/-- R69 with R109, R123, R139, R148, R149: the job that a command served is told TIMEOUT before CMD_TIMEOUT is raised. A
runout or operator splice that is not yet accepted ends with SPLICE_REFUSED 2; a station that follows the command
becomes FAULT with SLITTER_FAULT 2; a cut at the head of the plan is missed with CUT_MISSED 3; a LANE or a DROP fails
with its event. The examination alone is the model's choice (log 4), and so are the word of the verb (log 70) and that
a plan's tags and mark are cleared with it (log 30). -/
def Obligations.TimeoutToldToTheJob : Prop :=
  ∀ (ch : Nat) (tag : Half) (s : State) (c : Channel) (x : Command) (sent : Word), s.mu.mode = .run →
    s.channelAt ch = some c → c.outstanding.find? (·.tag == tag) = some x → x.accepted = false →
    x.sendTime = some sent → c.acceptTimeout * 1000 ≤ (s.fr.sample - sent).toNat → s.wm.boardChange = none →
    c.pend = none →
    let dropped := s.adjustChannel ch (fun c => { c with outstanding := c.outstanding.filter (·.tag != tag) })
    let reported := fun (t : State) => (.next
      ((raise .cmdTimeout (natWord ch) (natWord tag.toNat) (natWord x.verb.place) t).adjustChannel ch (fun c =>
        { c with fault := true })) : Result)
    (∀ i w p, c.cls = some .splicer → i ≤ 5 → s.webAt i = some w → w.cfg.channel = ch →
      (∀ j v, s.webAt j = some v → v.cfg.channel = ch → j = i) → w.st.spliceTag = some tag → w.st.plan = some p →
      p.kind ≠ .grade → w.st.mark = none → w.st.reelKnown = false →
      exec (.cmdTimeout ch tag) s = reported ((raise .spliceRefused (natWord i) p.target 2 dropped).adjustWeb i (fun x =>
        { x with plan := none, spliceTag := none, prepareTag := none, mark := none }))) ∧
    (∀ i y l b, c.cls = some .slitter → i ≤ 1 → s.stationAt i = some y → y.cfg.channel = ch →
      (∀ j z, s.stationAt j = some z → z.cfg.channel = ch → j = i) → y.live = some l → l.tag = tag →
      s.boardIndex = some b → s.mu.events.length < Config.eventCapacity →
      Config.boundaryLimit - s.boundaryCount < s.freeCount →
      ∃ t z later, exec (.cmdTimeout ch tag) s = .next t ∧ t.stationAt i = some z ∧ z.state = .fault ∧ z.live = none ∧
        z.atRisk = decide (y.state = .engaged) ∧
        t.mu.events = s.mu.events ++ ⟨.slitterFault, natWord i, materialAtStation i s, 2, s.fr.cycle⟩ :: later) ∧
    (∀ e rest, c.cls = some .knife → s.cp.knife = some ch → s.cp.plan = e :: rest → e.sent = some tag →
      s.mu.events.length < Config.eventCapacity →
      ∃ t d later, exec (.cmdTimeout ch tag) s = .next t ∧ t.cp.frontFault = true ∧ t.channelAt ch = some d ∧
        d.fault = true ∧
        t.mu.events = s.mu.events ++ ⟨.cutMissed, natWord tag.toNat, e.target, 3, s.fr.cycle⟩ :: later) ∧
    ∀ k, c.cls = some .stacker → s.sg.channel = some ch → s.sg.cmds.find? (·.tag == tag) = some k →
      s.sg.owed = none →
      let ended := dropped.withSg { s.sg with cmds := s.sg.cmds.filter (·.tag != tag) }
      (k.verb = .lane → exec (.cmdTimeout ch tag) s =
        reported (raise .laneFailed k.order.number (natWord tag.toNat) (natWord k.arg) ended)) ∧
      (k.verb ≠ .lane → exec (.cmdTimeout ch tag) s =
        reported (raise .dropFailed k.order.number (natWord tag.toNat) (natWord (k.arg + 2097152)) ended))

/-- R112, R111, R99: with no plan, a count that has waited 3 expiries is taken as an unsolicited splice at the slot's
position (by a free offset where its section is free: log 65): a confirmed mark in a free record (which one is free: log
11; a length beyond 24 bits too: log 12), a new reel, the count accounted. That the row takes a count that has already
waited, with no count raised first, is the model's choice (log 4), and so is that the count in the slot at the time
becomes the accounted one (log 122). -/
def Obligations.SpliceCountIsTaken : Prop :=
  ∀ (i : Nat) (w : Web) (slot : Nat) (s : State), s.mu.mode = .run → s.webAt i = some w →
    w.cfg.countSlot = some slot → s.wm.boardChange = none →
    (3 ≤ w.st.countWait → w.st.plan = none → w.st.spliceTag = none → w.st.prepareTag = none → w.st.mark = none →
      s.isBoard w.cfg.sec = false → w.cfg.sec < s.wm.maps.length → s.mu.events.length < Config.eventCapacity →
      Config.boundaryLimit - s.boundaryCount < s.freeCount →
      ∃ t x, exec (.spliceCountTaken i) s = .next t ∧ t.webAt i = some x ∧ x.cfg = w.cfg ∧ x.st.plan = none ∧
        x.st.accounted = some ((s.slotAux slot).truncate 16) ∧ x.st.countWait = 0 ∧ x.st.samples = [] ∧
        x.st.reelKnown = false ∧ x.st.confidence = 0 ∧ x.st.k = w.cfg.k0 ∧ x.st.holdCycle = some s.fr.cycle ∧
        (t.mapAt w.cfg.sec).marks = insertMark
          { slot := s.freeSlot, serial := s.wm.nextSerial, kind := .splice, cause := none, sec := w.cfg.sec
            pos := toTrack s w.cfg.posRole (s.slotValue slot), lead := fitLength w.cfg.zoneLead
            trail := fitLength w.cfg.zoneTrail, widening := fitLength (0 + s.reckonWidening w.cfg.sec)
            conf := .confirmed, reckoned := s.uncertain w.cfg.sec, via := none, verifiedAt := none
            origin := some i, order := none, patternChange := false } (s.mapAt w.cfg.sec).marks ∧
        t.mu.events = s.mu.events ++
          [⟨.spliceUnplanned, natWord i, toTrack s w.cfg.posRole (s.slotValue slot), 0, s.fr.cycle⟩]) ∧
    (w.st.countWait < 3 → exec (.spliceCountTaken i) s = .next s)

/-- R57, R58: in RUN, at three nominal periods without a good frame, FR enters LOST_CELL, raises CELL_LOST and originates a
frame at once; in LOST_CELL it originates one each nominal period. The frame begins a cycle, has flag bit 0 set and
source 0, and holds the items FR appends (R49). The window of the last cycle has already expired. That nothing but the
clock follows before the time is the model's choice (log 5), and the event's position word is free (log 54). -/
def Obligations.CellLossOriginates : Prop :=
  ∀ (now : Word) (s : State), s.fr.windowOpen = false →
    let originated := fun (x : State) (count : Nat) =>
      let begun := x.withFr { x.fr with
        clock := now, cycle := s.fr.cycle + 1, begun := true, sample := now, windowOpen := true
        windowLen := s.fr.window, health := s.fr.health.map (fun h => { h with heard := false })
        originated := count, lastOriginated := now }
      let own := appendOwn (begun, []) [] 0
      sendField ({ kind := 1, flags := 1, source := 0, cycle := s.fr.cycle + 1, sample := now, items := own.2 } :
        Frame).compose own.1
    (s.mu.mode = .run → s.fr.state = .normal →
      (3 * s.fr.timerPeriod ≤ (now - s.fr.timerStart).toNat →
        let lost := raiseNoPosition .cellLost (natWord s.fr.cycle.toNat) (now - s.fr.sample) (s.withFr { s.fr with
          state := .lostCell })
        exec (.cellLost now) s = .next (originated lost 1) ∧ (originated lost 1).fr.state = .lostCell ∧
          (originated lost 1).tables = s.tables ∧ (originated lost 1).mu.mode = .run) ∧
      ((now - s.fr.timerStart).toNat < 3 * s.fr.timerPeriod →
        exec (.cellLost now) s = .next (s.withFr { s.fr with clock := now }))) ∧
    (s.fr.state = .lostCell →
      (s.fr.nominal ≤ (now - s.fr.lastOriginated).toNat →
        let t := originated s (s.fr.originated + 1)
        exec (.originateFrame now) s = .next t ∧ t.fr.state = .lostCell ∧ t.tables = s.tables ∧
          t.mu.mode = s.mu.mode) ∧
      ((now - s.fr.lastOriginated).toNat < s.fr.nominal →
        exec (.originateFrame now) s = .next (s.withFr { s.fr with clock := now })))

/-! ### Table writes

Each is stated for the row's own command; TABLE_WRITE with the table id in front is the same command
(`Obligations.TableWriteIsTheRow`). -/

/-- R1, R3 to R5, R42, R167: a section write that passes its checks stores the record. A section newly loaded starts in
HELD with its counter at 0, an empty list and no baselines; a loaded one keeps counter and offsets and restarts the
rest, and its sensors' baselines are lost. Kind NONE frees a record that no loaded link names and whose list is empty,
and is otherwise answered IN_USE; the other words of such a write are checked (log 19). That a BOARD record with a
downstream link passes the checks is the model's choice (log 99), and so are that a point's words leave out the fields
its kind does not have (log 110) and that freeing raises no SOURCE_SWITCH (log 117). Only B_proj may be recomputed
beside (R81). -/
def Obligations.SectionWriteStores : Prop :=
  ∀ (tag : Half) (index : Word) (fields : List Word) (kind : Option SectionKind) (c : SectionCfg) (s : State),
    s.answersInSetup → index.toNat ≤ 11 → readSection fields = some (kind, c) →
    sectionFits index.toNat kind c s = true → s.wm.boardChange = none →
    (kind.isSome = true →
      (s.sectionAt index.toNat = none → ∃ b, exec (.sectionWrite tag 2 (index :: 0 :: fields)) s = .next
        (((((s.setSection index.toNat (some
          { cfg := c
            trk := { count := 0, source := .held, primaryOffset := 0, backupOffset := 0, shadow := false, base := 0
                     remainder := 0, lastUpdate := 0, history := [], speed := 0, snapshot := 0 } })).adjustMap
          index.toNat (fun _ => { marks := [], lastSeen := 0, baselines := List.replicate 8 none })).withProjection
            b).replied tag 0 0 []))) ∧
      (∀ old, s.sectionAt index.toNat = some old →
        let stored := (s.setSection index.toNat (some
          { cfg := c, trk := { old.trk with source := .held, shadow := false, remainder := 0, history := [] } })
          ).adjustMap index.toNat (fun m => { m with baselines := List.replicate 8 none })
        (old.trk.source = .held → ∃ b, exec (.sectionWrite tag 2 (index :: 0 :: fields)) s = .next
          ((stored.withProjection b).replied tag 0 0 [])) ∧
        (old.trk.source ≠ .held → ∃ b, exec (.sectionWrite tag 2 (index :: 0 :: fields)) s = .next
          (((raise .sourceSwitch (natWord index.toNat) old.trk.count 4 stored).withProjection b).replied
            tag 0 0 [])))) ∧
    (kind = none →
      let named := ∃ k l, k ≤ 10 ∧ s.linkAt k = some l ∧ (l.up = index.toNat ∨ l.down = index.toNat)
      (s.sectionAt index.toNat = none ∨ ¬named ∧ (s.mapAt index.toNat).marks = [] →
        ∃ b, exec (.sectionWrite tag 2 (index :: 0 :: fields)) s = .next
          (((s.setSection index.toNat none).withProjection b).replied tag 0 0 [])) ∧
      ((s.sectionAt index.toNat).isSome = true → named ∨ (s.mapAt index.toNat).marks ≠ [] →
        exec (.sectionWrite tag 2 (index :: 0 :: fields)) s = .next (s.replied tag 8 0 [])))

/-- R2, R3, R167: a link write that passes leaves the link UNANCHORED with both anchors 0; one that names no sections
frees a link that nothing names, and is answered IN_USE where a loaded section or point names the link. That the store
flag's word is 0 for set is the model's choice (log 20). -/
def Obligations.LinkWriteStores : Prop :=
  ∀ (tag : Half) (index up down r st widen corr : Word) (s : State), s.answersInSetup → index.toNat ≤ 10 →
    (up.toNat ≤ 11 → down.toNat ≤ 11 → up ≠ down → 2048 ≤ r.toNat → r.toNat ≤ 8192 → st.toNat ≤ 1 →
      widen.toNat ≤ 1000000 → corr.toNat ≤ 100000 →
      exec (.linkWrite tag 2 [index, 0, up, down, r, st, widen, corr]) s = .next ((s.setLink index.toNat (some
        { up := up.toNat, down := down.toNat, ratio := r.toNat, store := decide (st = 0), storeWiden := widen.toNat
          maxCorr := corr.toNat, aUp := 0, aDown := 0, anchored := false })).replied tag 0 0 [])) ∧
    (up = absentWord → down = absentWord →
      (linkInUse index.toNat s = false → exec (.linkWrite tag 2 [index, 0, up, down, r, st, widen, corr]) s = .next
        ((s.setLink index.toNat none).replied tag 0 0 [])) ∧
      (linkInUse index.toNat s = true → exec (.linkWrite tag 2 [index, 0, up, down, r, st, widen, corr]) s = .next
        (s.replied tag 8 0 [])))

/-- R53, R55, R167: the nominal period and the return window, written together; the open window keeps its length. The
same words with the table id in front are a TABLE_WRITE. And the SUSPECT threshold of a station. -/
def Obligations.RelayAndThresholdWritesStore : Prop :=
  (∀ (tag : Half) (n w : Word) (s : State), s.answersInSetup → 500 ≤ n.toNat → n.toNat ≤ 4000 → 100 ≤ w.toNat →
    w.toNat + 100 ≤ n.toNat →
    exec (.relayRecordWrite tag 2 [0, 0, n, w]) s = .next
      ((s.withFr { s.fr with nominal := n.toNat, window := w.toNat }).replied tag 0 0 []) ∧
    exec (.tableWrite tag 2 [3, 0, 0, n, w]) s = .next
      ((s.withFr { s.fr with nominal := n.toNat, window := w.toNat }).replied tag 0 0 [])) ∧
  ∀ (tag : Half) (index t : Word) (s : State), s.answersInSetup → 1 ≤ index.toNat → index.toNat ≤ 62 →
    t.toNat ≤ 255 → exec (.stationThresholdWrite tag 2 [index, 0, t]) s = .next
      ((s.adjustHealth index.toNat (fun h => { h with threshold := t.toNat })).replied tag 0 0 [])

/-- R47, R167: a channel table entry is stored, a band with any mode (log 64), or freed with mode NONE, whatever its
source (log 19). -/
def Obligations.ChannelEntryWriteStores : Prop :=
  ∀ (tag : Half) (index : Word) (fields : List Word) (mode : Option ChannelMode) (k : Key) (src : Option Source)
    (band : Option Nat) (s : State), s.answersInSetup → index.toNat ≤ 127 →
    readChannelEntry fields = some (mode, k, src, band) →
    ¬(s.workingAddress = true ∧ k.station = s.ownByte) →
    (∀ m, mode = some m → sourceAgrees m src = true ∧ (m = .clamp → band.isSome = true)) →
    (∀ j e, s.entryAt j = some e → j ≠ index.toNat → e.key ≠ k) →
    exec (.channelTableWrite tag 2 (index :: 0 :: fields)) s = .next
      ((s.withFr { s.fr with channels := s.fr.channels.set index.toNat (mode.map (fun m =>
        { key := k, mode := m, source := src, band := band })) }).replied tag 0 0 [])

/-- R50, R167: a watch table entry is stored with its slot at the load values, or freed with owner NONE, its
other words checked all the same (log 19). -/
def Obligations.WatchWriteStores : Prop :=
  ∀ (tag : Half) (index : Word) (fields : List Word) (k : Key) (kind : WatchKind) (owner : Option Owner)
    (limit : Nat) (s : State), s.answersInSetup → index.toNat ≤ 95 →
    readWatchEntry fields = some (k, kind, owner, limit) → ¬(s.workingAddress = true ∧ k.station = s.ownByte) →
    (∀ j w, s.slotAt j = some w → j ≠ index.toNat → ¬(w.key = k ∧ w.kind = kind)) →
    exec (.watchTableWrite tag 2 (index :: 0 :: fields)) s = .next
      ((s.withFr { s.fr with watch := s.fr.watch.set index.toNat (owner.map (fun o =>
        { key := k, kind := kind, owner := o, limit := limit, value := 0, aux := 0, lastCycle := none
          lastSample := 0, fresh := false, missRun := 0 })) }).replied tag 0 0 [])

/-- R61, R167: a command channel record is stored, or freed with class NONE; its lists, recent tags and last
unsolicited record are emptied, FAULT ends and the next tag is kept. A record freed has no key to check (log 19). -/
def Obligations.CommandChannelWriteStores : Prop :=
  ∀ (tag : Half) (index : Word) (fields : List Word) (cls : Option CmdClass) (k : Option Key)
    (depth accept complete : Nat) (s : State), s.answersInSetup → index.toNat ≤ 23 →
    readCommandChannel fields = some (cls, k, depth, accept, complete) → (depth = 2 → cls = some .knife) →
    (∀ x, k = some x → ¬(s.workingAddress = true ∧ x.station = s.ownByte)) →
    (∀ j c x, s.channelAt j = some c → j ≠ index.toNat → c.cls.isSome = true → k = some x → c.key ≠ some x) →
    exec (.commandChannelWrite tag 2 (index :: 0 :: fields)) s = .next
      ((s.adjustChannel index.toNat (fun c =>
        { cls := cls, key := k, depth := depth, acceptTimeout := accept, completeTimeout := complete
          outstanding := [], pend := none, nextTag := c.nextTag, recent := [], lastUnsol := none
          fault := false })).replied tag 0 0 [])

/-- R75 to R77, R167: group 0 of the grade at the loaded count loads a grade whose generators name no curve; a
generator's group of a loaded grade that no committed order names is replaced; a pattern is loaded at the loaded count.
Taken in both modes. At OPERATE only the released flag of a loaded pattern is written, whatever the values of its E
words (log 49), and KEPT names the places of the four E fields (log 78). -/
def Obligations.GradeAndPatternWritesStore : Prop :=
  ∀ (tag : Half) (index : Word) (s : State), s.answers →
    (∀ (rel : Word) fields w, index.toNat ≤ 31 → index.toNat = s.op.grades.length → rel.toNat ≤ 1 →
      readGradeWebs fields = some w →
      let g : Grade := { released := decide (rel = 0), width := w.1, papers := w.2
                         gens := List.replicate 24 { curve := none, target := 0, trim := false } }
      exec (.gradeWrite tag 2 (index :: 0 :: rel :: fields)) s = .next
        ((s.withOp { s.op with grades := s.op.grades ++ [g] }).replied tag 0 0 [])) ∧
    (∀ (group : Word) fields x old, index.toNat ≤ 31 → 1 ≤ group.toNat → group.toNat ≤ 24 →
      readGradeGen fields = some x → s.gradeAt index.toNat = some old →
      (∀ o ∈ s.op.queue, o.grade = index.toNat → o.state ≠ .committed ∧ o.state ≠ .cutting ∧ o.state ≠ .stacking) →
      let g : Grade := { old with gens := old.gens.set (group.toNat - 1) x }
      exec (.gradeWrite tag 2 (index :: group :: fields)) s = .next
        ((s.withOp { s.op with grades := s.op.grades.set index.toNat g }).replied tag 0 0 [])) ∧
    (∀ (rel : Word) fields w o slits scores, index.toNat ≤ 63 → index.toNat = s.op.patterns.length → rel.toNat ≤ 1 →
      readPatternBody fields = some (w, o, slits, scores) →
      let p : Pattern := { released := decide (rel = 0), width := w, outs := o, slits := slits, scores := scores }
      exec (.patternWrite tag 2 (index :: 0 :: rel :: fields)) s = .next
        ((s.withOp { s.op with patterns := s.op.patterns ++ [p] }).replied tag 0 0 [])) ∧
    ∀ (rel : Word) fields old, index.toNat ≤ 63 → rel.toNat ≤ 1 → s.patternAt index.toNat = some old →
      patternShape fields = true →
      let p : Pattern := { old with released := decide (rel = 0) }
      exec (.patternWrite tag 1 (index :: 0 :: rel :: fields)) s = .next
        ((s.withOp { s.op with patterns := s.op.patterns.set index.toNat p }).replied tag 1 0 [1, 2, 3, 4])

/-- Tables 5-4, 7-1 and 10-1, R152, R167: the planner's three settings, the pair's late step and a curve, taken in both
modes. A curve is written whole; count 0 frees it. -/
def Obligations.PlannerPairAndCurveWritesStore : Prop :=
  ∀ (tag : Half) (s : State), s.answers →
    (∀ a b c : Word, a.toNat ≤ 10000000 → b.toNat ≤ 10000000 → c.toNat ≤ 10000000 →
      exec (.plannerRecordWrite tag 2 [0, 0, a, b, c]) s = .next
        ((s.withOp { s.op with presetDist := a.toNat, minCommit := b.toNat, gradeMargin := c.toNat }).replied
          tag 0 0 [])) ∧
    (∀ n : Word, 5000 ≤ n.toNat → n.toNat ≤ 1000000 →
      exec (.pairRecordWrite tag 2 [0, 0, n]) s = .next
        ((s.withSp { s.sp with lateStep := n.toNat }).replied tag 0 0 [])) ∧
    ∀ index : Word, index.toNat ≤ 63 →
      (∀ fields bs, readCurve fields = some bs → exec (.curveWrite tag 2 (index :: 0 :: fields)) s = .next
        ((s.withSs { s.ss with curves := s.ss.curves.set index.toNat bs }).replied tag 0 0 [])) ∧
      exec (.curveWrite tag 2 [index, 0, 0]) s = .next
        ((s.withSs { s.ss with curves := s.ss.curves.set index.toNat [] }).replied tag 0 0 []) ∧
      ∀ v1 y1 v2 y2 : Word, v1.toNat < v2.toNat → v2.toNat ≤ 6000 → y1.toNat ≤ 65535 → y2.toNat ≤ 65535 →
        exec (.curveWrite tag 2 [index, 0, 2, v1, y1, v2, y2]) s = .next ((s.withSs { s.ss with
          curves := s.ss.curves.set index.toNat [⟨v1.toNat, y1.toNat⟩, ⟨v2.toNat, y2.toNat⟩] }).replied tag 0 0 [])

/-- R95, Table 6-1, R167: group 0 in SETUP loads a web, with the group 1 values of first load and the state of
Table 6-2 (last length, reserve and splice count, which that table does not have, at the values of log 43), and
rewrites a loaded web's references, or frees it, its other words checked (log 19); group 1, taken in both modes,
replaces the settings. -/
def Obligations.SpliceWriteStores : Prop :=
  ∀ (tag : Half) (index : Word) (fields : List Word) (s : State), index.toNat ≤ 5 →
    (∀ h, s.answersInSetup → readSpliceHead fields = some h →
      (∀ j w, s.webAt j = some w → j ≠ index.toNat → w.cfg.sec ≠ h.sec ∧ w.cfg.channel ≠ h.channel) →
      (h.inUse = true → s.webAt index.toNat = none →
        exec (.spliceRecordWrite tag 2 (index :: 0 :: fields)) s = .next
          ((s.withSc (s.sc.set index.toNat (some
            { cfg := { sec := h.sec, role := h.role, channel := h.channel, diamSlot := h.diamSlot
                       standbySlot := h.standbySlot, countSlot := h.countSlot, core := 1000, k0 := 25000, dMin := 200
                       tol := 16, baseReserve := 500000, spliceLead := 150000, issueMargin := 10000, zoneLead := 1000
                       zoneTrail := 1000, widen := 2000, failZone := 100000 }
              st := WebState.initial 25000 }))).replied tag 0 0 [])) ∧
      (∀ w, h.inUse = true → s.webAt index.toNat = some w →
        exec (.spliceRecordWrite tag 2 (index :: 0 :: fields)) s = .next
          ((s.withSc (s.sc.set index.toNat (some
            { cfg := { w.cfg with sec := h.sec, role := h.role, channel := h.channel, diamSlot := h.diamSlot
                                  standbySlot := h.standbySlot, countSlot := h.countSlot }
              st := WebState.initial w.cfg.k0 }))).replied tag 0 0 [])) ∧
      (h.inUse = false → exec (.spliceRecordWrite tag 2 (index :: 0 :: fields)) s = .next
        ((s.withSc (s.sc.set index.toNat none)).replied tag 0 0 []))) ∧
    (∀ w cfg, s.answers → s.webAt index.toNat = some w → readSpliceSettings w.cfg fields = some cfg →
      exec (.spliceRecordWrite tag 2 (index :: 1 :: fields)) s = .next
        ((s.withSc (s.sc.set index.toNat (some { w with cfg := cfg }))).replied tag 0 0 []))

/-- R114, R121, R167: group 0 in SETUP puts a station in use, IDLE when it is newly so and otherwise in the state it had
(a new channel drops the command it followed), or out of use, with which a cover run ends unless a LATE swap or the
other station's fault at risk keeps it; group 1, taken in both modes, replaces lead time and fault zone. That the run
ends without its last zone in SETUP is the model's choice (log 32), and so is a new station's last lead 0 (log 43). -/
def Obligations.StationWriteStores : Prop :=
  ∀ (tag : Half) (index : Word) (s : State), index.toNat ≤ 1 →
    (∀ u c k : Word, s.answersInSetup → c.toNat ≤ 23 → k.toNat ≤ 95 →
      (∀ y, s.stationAt (1 - index.toNat) = some y → y.cfg.channel ≠ c.toNat ∧ y.cfg.slot ≠ k.toNat) →
      (u = 0 → s.stationAt index.toNat = none → exec (.slitterStationWrite tag 2 [index, 0, u, c, k]) s = .next
        ((s.withSp { s.sp with stations := s.sp.stations.set index.toNat (some
          { cfg := { channel := c.toNat, slot := k.toNat, leadTime := 400, faultZone := 20000 }, state := .idle
            pattern := none, atRisk := false, live := none, settled := none, lastLead := 0 }) }).replied tag 0 0 [])) ∧
      (∀ x, u = 0 → s.stationAt index.toNat = some x →
        exec (.slitterStationWrite tag 2 [index, 0, u, c, k]) s = .next
          ((s.withSp { s.sp with stations := s.sp.stations.set index.toNat (some
            { x with cfg := { x.cfg with channel := c.toNat, slot := k.toNat }
                     live := if x.cfg.channel = c.toNat then x.live else none
                     settled := if x.cfg.channel = c.toNat then x.settled else none }) }).replied tag 0 0 [])) ∧
      (u = 1 →
        let kept := (∃ w, s.sp.swap = some w ∧ w.stage = .late) ∨
          ∃ y, s.stationAt (1 - index.toNat) = some y ∧ y.state = .fault ∧ y.atRisk = true
        (kept → exec (.slitterStationWrite tag 2 [index, 0, u, c, k]) s = .next
          ((s.withSp { s.sp with stations := s.sp.stations.set index.toNat none }).replied tag 0 0 [])) ∧
        (¬kept → exec (.slitterStationWrite tag 2 [index, 0, u, c, k]) s = .next
          ((s.withSp { s.sp with
            stations := s.sp.stations.set index.toNat none
            cover := { s.sp.cover with active := false } }).replied tag 0 0 [])))) ∧
    (∀ t z : Word, ∀ x, s.answers → t.toNat ≤ 10000 → z.toNat ≤ 1000000 → s.stationAt index.toNat = some x →
      exec (.slitterStationWrite tag 2 [index, 1, t, z]) s = .next
        ((s.adjustStation index.toNat (fun x =>
          { x with cfg := { x.cfg with leadTime := t.toNat, faultZone := z.toNat } })).replied tag 0 0 []))

/-- R128, R136, R143, R167: group 0 in SETUP stores the knife or stacker channel with role or slot. Group 1 of the Cut
Planner, here in SETUP, stores its six settings, and that of the Stack and Gate Unit, in both modes, the two leads. -/
def Obligations.CutAndGateWritesStore : Prop :=
  ∀ (tag : Half) (s : State),
    (∀ k r knife role, s.answersInSetup → s.wm.boardChange = none → readOpt 0 23 k = some knife →
      readRole r = some role → exec (.cutPlannerRecordWrite tag 2 [0, 0, k, r]) s = .next
        ((s.withCp { s.cp with knife := knife, role := role }).replied tag 0 0 [])) ∧
    (∀ a b c d e f : Word, s.answersInSetup → s.wm.boardChange = none → 2000 ≤ a.toNat → a.toNat ≤ 10000 →
      2000 ≤ b.toNat → b.toNat ≤ 40000 → 2000 ≤ c.toNat → c.toNat ≤ 80000 → 10000 ≤ d.toNat → d.toNat ≤ 2000000 →
      e.toNat ≤ 10000 → 100 ≤ f.toNat → f.toNat ≤ 100000 →
      exec (.cutPlannerRecordWrite tag 2 [0, 1, a, b, c, d, e, f]) s = .next
        ((s.withCp { s.cp with minPiece := a.toNat, swapGap := b.toNat, scrapLen := c.toNat, horizon := d.toNat
                               cutTol := e.toNat, missDist := f.toNat }).replied tag 0 0 [])) ∧
    (∀ a b c k, s.answersInSetup → readOpt 0 23 a = some c → readOpt 0 95 b = some k →
      exec (.sgRecordWrite tag 2 [0, 0, a, b]) s = .next
        ((s.withSg { s.sg with channel := c, slot := k }).replied tag 0 0 [])) ∧
    ∀ a b : Word, s.answers → a.toNat ≤ 100000 → b.toNat ≤ 1000000 →
      exec (.sgRecordWrite tag 2 [0, 1, a, b]) s = .next
        ((s.withSg { s.sg with gateLead := a.toNat, laneLead := b.toNat }).replied tag 0 0 [])

/-- R154, Table 10-2, R167: group 0 in SETUP puts a generator in use with the group 1 values of first load, or out of
use, its other words checked (log 19); group 1 replaces the settings unless, in RUN and outside lift, the last output
would leave the range. -/
def Obligations.GeneratorWriteStores : Prop :=
  ∀ (tag : Half) (index : Word) (s : State), index.toNat ≤ 23 →
    (∀ u sec point k slot, s.answersInSetup → sec.toNat ≤ 11 → point.toNat ≤ 7 → readOpt 0 95 k = some slot →
      (∀ j g, s.generatorAt j = some g → j ≠ index.toNat → ¬(g.cfg.sec = sec.toNat ∧ g.cfg.point = point.toNat)) →
      (u = 0 → s.generatorAt index.toNat = none →
        exec (.generatorWrite tag 2 [index, 0, u, sec, point, k]) s = .next
          ((s.withSs { s.ss with generators := s.ss.generators.set index.toNat (some
            { cfg := { sec := sec.toNat, point := point.toNat, tempSlot := slot, gain := 0, trimMax := 0
                       slew := 65535, outMin := 0, outMax := 65535, liftEnable := false, liftValue := 0
                       liftLead := 0, switchLead := 0, idle := 0 }
              st := GenState.initial }) }).replied tag 0 0 [])) ∧
      (∀ g, u = 0 → s.generatorAt index.toNat = some g →
        let same := g.cfg.sec = sec.toNat ∧ g.cfg.point = point.toNat
        exec (.generatorWrite tag 2 [index, 0, u, sec, point, k]) s = .next
          ((s.withSs { s.ss with generators := s.ss.generators.set index.toNat (some
            { cfg := { g.cfg with sec := sec.toNat, point := point.toNat, tempSlot := slot }
              st := if same then g.st else GenState.initial }) }).replied tag 0 0 [])) ∧
      (u = 1 → exec (.generatorWrite tag 2 [index, 0, u, sec, point, k]) s = .next
        ((s.withSs { s.ss with generators := s.ss.generators.set index.toNat none }).replied tag 0 0 []))) ∧
    (∀ fields g cfg, s.answers → s.generatorAt index.toNat = some g →
      readGeneratorSettings g.cfg fields = some cfg →
      (s.mu.mode = .setup ∨ g.st.inLift = true ∨ g.st.lastOutput = none ∨
        ∃ o, g.st.lastOutput = some o ∧ cfg.outMin ≤ o ∧ o ≤ cfg.outMax) →
      exec (.generatorWrite tag 2 (index :: 1 :: fields)) s = .next
        ((s.withSs { s.ss with generators := s.ss.generators.set index.toNat (some { g with cfg := cfg }) }).replied
          tag 0 0 []))

/-- R167: TABLE_WRITE with a table id in front of the words is that table's own command; the tables of class R are
refused with ACCESS and an unknown id with UNKNOWN, for any number of field words: that the table's own checks look
at their number is the model's choice (log 21). -/
def Obligations.TableWriteIsTheRow : Prop :=
  ∀ (tag : Half) (level : Word) (w : List Word) (s : State),
    exec (.tableWrite tag level (1 :: w)) s = exec (.sectionWrite tag level w) s ∧
    exec (.tableWrite tag level (2 :: w)) s = exec (.linkWrite tag level w) s ∧
    exec (.tableWrite tag level (3 :: w)) s = exec (.relayRecordWrite tag level w) s ∧
    exec (.tableWrite tag level (4 :: w)) s = exec (.channelTableWrite tag level w) s ∧
    exec (.tableWrite tag level (5 :: w)) s = exec (.watchTableWrite tag level w) s ∧
    exec (.tableWrite tag level (6 :: w)) s = exec (.stationThresholdWrite tag level w) s ∧
    exec (.tableWrite tag level (7 :: w)) s = exec (.commandChannelWrite tag level w) s ∧
    exec (.tableWrite tag level (8 :: w)) s = exec (.gradeWrite tag level w) s ∧
    exec (.tableWrite tag level (9 :: w)) s = exec (.patternWrite tag level w) s ∧
    exec (.tableWrite tag level (10 :: w)) s = exec (.plannerRecordWrite tag level w) s ∧
    exec (.tableWrite tag level (11 :: w)) s = exec (.spliceRecordWrite tag level w) s ∧
    exec (.tableWrite tag level (12 :: w)) s = exec (.slitterStationWrite tag level w) s ∧
    exec (.tableWrite tag level (13 :: w)) s = exec (.pairRecordWrite tag level w) s ∧
    exec (.tableWrite tag level (14 :: w)) s = exec (.cutPlannerRecordWrite tag level w) s ∧
    exec (.tableWrite tag level (17 :: w)) s = exec (.sgRecordWrite tag level w) s ∧
    exec (.tableWrite tag level (18 :: w)) s = exec (.curveWrite tag level w) s ∧
    exec (.tableWrite tag level (19 :: w)) s = exec (.generatorWrite tag level w) s ∧
    (s.answers → level.toNat ≤ 2 →
      (∀ fields, exec (.tableWrite tag level (15 :: 0 :: 0 :: fields)) s = .next (s.replied tag 5 0 [])) ∧
      (∀ group fields, exec (.tableWrite tag level (16 :: 0 :: group :: fields)) s = .next (s.replied tag 5 0 [])) ∧
      (∀ index fields, index.toNat ≤ 191 →
        exec (.tableWrite tag level (20 :: index :: 0 :: fields)) s = .next (s.replied tag 5 0 [])) ∧
      (∀ index group fields, index.toNat ≤ 11 →
        exec (.tableWrite tag level (21 :: index :: group :: fields)) s = .next (s.replied tag 5 0 [])) ∧
      ∀ table index group fields, table.toNat = 0 ∨ 21 < table.toNat →
        exec (.tableWrite tag level (table :: index :: group :: fields)) s = .next (s.replied tag 3 0 []))

/-- R167: in RUN a write of a class S field group at ENGINEER, with an index and group its table has, is answered
NOT_IN_SETUP and changes nothing, for any number of field words (log 21). -/
def Obligations.ClassSRefusedInRun : Prop :=
  ∀ (tag : Half) (index : Word) (fields : List Word) (s : State), s.answers → s.mu.mode = .run →
    let w := index :: 0 :: fields
    (index.toNat ≤ 11 → s.wm.boardChange = none →
      exec (.sectionWrite tag 2 w) s = .next (s.replied tag 6 0 [])) ∧
    (index.toNat ≤ 10 → exec (.linkWrite tag 2 w) s = .next (s.replied tag 6 0 [])) ∧
    (index = 0 → exec (.relayRecordWrite tag 2 w) s = .next (s.replied tag 6 0 []) ∧
      exec (.sgRecordWrite tag 2 w) s = .next (s.replied tag 6 0 []) ∧
      (s.wm.boardChange = none → exec (.cutPlannerRecordWrite tag 2 w) s = .next (s.replied tag 6 0 []))) ∧
    (index.toNat ≤ 127 → exec (.channelTableWrite tag 2 w) s = .next (s.replied tag 6 0 [])) ∧
    (index.toNat ≤ 95 → exec (.watchTableWrite tag 2 w) s = .next (s.replied tag 6 0 [])) ∧
    (1 ≤ index.toNat → index.toNat ≤ 62 →
      exec (.stationThresholdWrite tag 2 w) s = .next (s.replied tag 6 0 [])) ∧
    (index.toNat ≤ 23 → exec (.commandChannelWrite tag 2 w) s = .next (s.replied tag 6 0 []) ∧
      exec (.generatorWrite tag 2 w) s = .next (s.replied tag 6 0 [])) ∧
    (index.toNat ≤ 5 → exec (.spliceRecordWrite tag 2 w) s = .next (s.replied tag 6 0 [])) ∧
    (index.toNat ≤ 1 → exec (.slitterStationWrite tag 2 w) s = .next (s.replied tag 6 0 []))

/-! ### Reads and the order queue -/

/-- R166, R165: a read at any level changes nothing and is answered with the table's words, in parts of 24; an
unknown table id and an index or group the table does not have are refused. The words of a loaded link are those of
R20, with the store flag's word 0 for set (log 20); those of a free record are as log 22 has them. The refusals of an
unknown table id and of an index beyond the table are the model's choice (log 98), and so are the words of a point
(log 110) and the answer to a starting place beyond the length of a list (log 116). -/
def Obligations.TableReadAnswers : Prop :=
  ∀ (tag : Half) (level table index group : Word) (s : State), level.toNat ≤ 2 →
    (tableHas table.toNat index.toNat group.toNat = some true →
      s.answersWords (tableWords table.toNat index.toNat group.toNat s).length →
      exec (.tableRead tag level [table, index, group]) s = .next
        (s.repliedParts tag (tableWords table.toNat index.toNat group.toNat s))) ∧
    (∀ l, s.answers → table = 2 → group = 0 → index.toNat ≤ 10 → s.linkAt index.toNat = some l →
      exec (.tableRead tag level [table, index, group]) s = .next (s.replied tag 0 0
        [natWord l.up, natWord l.down, natWord l.ratio, if l.store then 0 else 1, natWord l.storeWiden
         , natWord l.maxCorr, l.aUp, l.aDown, if l.anchored then 1 else 0])) ∧
    (s.answers → table.toNat = 0 ∨ 21 < table.toNat →
      exec (.tableRead tag level [table, index, group]) s = .next (s.replied tag 3 0 [])) ∧
    (s.answers → tableHas table.toNat index.toNat group.toNat = some false →
      exec (.tableRead tag level [table, index, group]) s = .next (s.replied tag 4 0 []))

/-- R78, R79: an order that passes the checks is appended. It is NEXT when no other order waits uncommitted, and
QUEUED when one that is NEXT does. The reply carries its place and state (log 24). -/
def Obligations.OrderAddTaken : Prop :=
  ∀ (tag : Half) (level n p g pt len sh st lane ov : Word) (gr : Grade) (pat : Pattern) (s : State), s.answers →
    1 ≤ level.toNat → level.toNat ≤ 2 → s.op.queue.length < Config.queueCapacity → s.orderAt ⟨n, p.toNat⟩ = none →
    n ≠ 0 → p.toNat ≤ 3 → 3000 ≤ len.toNat → len.toNat ≤ 80000 → 1 ≤ sh.toNat → sh.toNat ≤ 1000000 →
    1 ≤ st.toNat → st.toNat ≤ 65535 → lane.toNat ≤ 4 → ov.toNat ≤ 1000 →
    s.gradeAt g.toNat = some gr → gr.released = true → s.patternAt pt.toNat = some pat → pat.released = true →
    pat.width ≤ gr.width →
    let o : Order :=
      { key := ⟨n, p.toNat⟩, grade := g.toNat, pattern := pt.toNat, length := len.toNat, sheets := sh.toNat
        cuts := ceilDiv sh.toNat pat.outs, stackCount := st.toNat, lane := lane.toNat, overrun := ov.toNat
        state := .queued, start := none, fin := none, good := 0, scrap := 0, dropped := 0, split := false
        cancelled := false, breakdown := ⟨0, 0, 0, 0, 0, 0, 0, 0, 0, 0⟩ }
    let next : Order := { o with state := .next }
    (s.nextOrder.isSome = true → s.nextKey = s.nextOrder.map (·.key) →
      exec (.orderAdd tag level [n, p, g, pt, len, sh, st, lane, ov]) s = .next
        ((s.withOp { s.op with queue := s.op.queue ++ [o] }).replied tag 0 0 [natWord s.op.queue.length, 0])) ∧
    ((∀ x ∈ s.op.queue, x.start.isSome = true ∧ x.state ≠ .next) →
      exec (.orderAdd tag level [n, p, g, pt, len, sh, st, lane, ov]) s = .next
        ((s.withOp { s.op with queue := s.op.queue ++ [next], block := none }).replied tag 0 0
          [natWord s.op.queue.length, 1]))

/-- R93: for an order not yet committed, in both modes, an edit of the sheets required sets them and the cuts needed; at
OPERATE a sheet length carried with it, in range or not (log 49), is kept as it was and named by its place (log 23); at
ENGINEER a sheet length is set; all other fields and records stay. For a committed one the sheets, overrun allowance and
lane are set and the rest of the record but its state and end boundary stays: in SETUP nothing but B_proj may be
recomputed beside, in RUN the Cut Planner may re-plan and a commit may follow (R83, R88, R136). The start boundary stays
in RUN where the queue holds distinct keys (R78, R79). -/
def Obligations.OrderEditTaken : Prop :=
  ∀ (tag : Half) (n p len sh : Word) (o : Order) (gr : Grade) (pat : Pattern) (s : State), s.answers →
    s.wm.boardChange = none → s.orderAt ⟨n, p.toNat⟩ = some o → o.cancelled = false →
    s.gradeAt o.grade = some gr → gr.released = true → s.patternAt o.pattern = some pat → pat.released = true →
    pat.width ≤ gr.width →
    let cuts := ceilDiv sh.toNat pat.outs
    let k : OrderKey := ⟨n, p.toNat⟩
    (o.start = none → o.state = .queued ∨ o.state = .next → (∀ x ∈ s.op.queue, x.key = k → x = o) →
      (1 ≤ sh.toNat → sh.toNat ≤ 1000000 →
        exec (.orderEdit tag 1 [n, p, 8, sh]) s = .next
          ((s.adjustOrder k (fun _ => { o with sheets := sh.toNat, cuts := cuts })).replied tag 0 0 []) ∧
        exec (.orderEdit tag 1 [n, p, 12, len, sh]) s = .next
          ((s.adjustOrder k (fun _ => { o with sheets := sh.toNat, cuts := cuts })).replied tag 1 0 [2])) ∧
      (3000 ≤ len.toNat → len.toNat ≤ 80000 → exec (.orderEdit tag 2 [n, p, 4, len]) s = .next
        ((s.adjustOrder k (fun _ =>
          { o with length := len.toNat, cuts := ceilDiv o.sheets pat.outs })).replied tag 0 0 [])) ∧
      exec (.orderEdit tag 1 [n, p, 4, len]) s = .next (s.replied tag 5 0 [])) ∧
    (∀ ov lane level : Word, o.start.isSome = true → o.state = .committed ∨ o.state = .cutting → 1 ≤ sh.toNat →
      sh.toNat ≤ 1000000 → ov.toNat ≤ 1000 → lane.toNat ≤ 4 → 1 ≤ level.toNat → level.toNat ≤ 2 →
      let edited : Order := { o with sheets := sh.toNat, cuts := cuts, lane := lane.toNat, overrun := ov.toNat }
      (s.mu.mode = .setup → ∃ b, exec (.orderEdit tag level [n, p, 104, sh, lane, ov]) s = .next
        (((s.adjustOrder k (fun _ => edited)).withProjection b).replied tag 0 0 [])) ∧
      (s.mu.mode = .run → ∃ t x, exec (.orderEdit tag level [n, p, 104, sh, lane, ov]) s = .next t ∧
        t.mu.mode = .run ∧ t.tables = s.tables ∧ t.mu.replies = s.mu.replies ++ [⟨tag, 0, 65536, []⟩] ∧
        t.orderAt k = some x ∧ { x with state := o.state, start := o.start, fin := o.fin } = edited ∧
        (s.ordersHeld → x.start = o.start)))

/-- R89 to R91, R88: an order not committed leaves the queue in both modes, and a NEXT that was it is designated afresh
(R78); a COMMITTED one becomes a zero-quantity order; a CUTTING one keeps the cuts tallied and sent, a sum beyond the
range being free (log 14). In SETUP only B_proj may be recomputed beside; in RUN the Cut Planner may re-plan and a
commit may follow, and the start boundary stays where the queue holds distinct keys (R78, R79). A later one is refused
with ALREADY_CUT, an unknown key with REF_ABSENT, and a cancelled order is answered OK with nothing changed. The
position word of ORDER_CANCELLED is free (log 54). -/
def Obligations.OrderCancelTaken : Prop :=
  ∀ (tag : Half) (level n p : Word) (s : State), s.answers → s.wm.boardChange = none → 1 ≤ level.toNat →
    level.toNat ≤ 2 →
    let k : OrderKey := ⟨n, p.toNat⟩
    let cancel := exec (.orderCancel tag level [n, p]) s
    (s.orderAt k = none → cancel = .next (s.replied tag 14 0 [])) ∧
    ∀ o, s.orderAt k = some o → (∀ x ∈ s.op.queue, x.key = k → x = o) →
      (o.cancelled = true → cancel = .next (s.replied tag 0 0 [])) ∧
      (o.cancelled = false →
        (o.start = none → o.state = .queued ∨ o.state = .next → cancel = .next
          ((refreshFrom s.nextKey (raiseNoPosition .orderCancelled n (natWord p.toNat) (s.withOp { s.op with
            queue := s.op.queue.filter (fun x => x.key != k) }))).replied tag 0 0 [])) ∧
        (∀ after : Order,
          o.state = .committed ∧ after = { o with sheets := 0, cuts := 0, overrun := 0, lane := 0, cancelled := true } ∨
          o.state = .cutting ∧
            after = { o with cuts := fitTally (o.good + s.goodSent k), overrun := 0, cancelled := true } →
          (s.mu.mode = .setup → ∃ b, cancel = .next (((raiseNoPosition .orderCancelled n (natWord p.toNat)
            (s.adjustOrder k (fun _ => after))).withProjection b).replied tag 0 0 [])) ∧
          (s.mu.mode = .run → o.start.isSome = true → ∃ t x, cancel = .next t ∧ t.mu.mode = .run ∧
            t.tables = s.tables ∧ t.mu.replies = s.mu.replies ++ [⟨tag, 0, 65536, []⟩] ∧ t.orderAt k = some x ∧
            { x with state := o.state, start := o.start, fin := o.fin } = after ∧
            (s.ordersHeld → x.start = o.start))) ∧
        (o.state = .stacking ∨ o.state = .done ∨ o.state = .cancelled → cancel = .next (s.replied tag 10 0 [])))

/-- R92: the rush order goes in behind the committed orders and becomes NEXT, the reply carrying its place in one word
(log 24). An open order that still needs cuts is split at the pieces it has in hand, and the rest becomes an order of
the next part behind the rush; figures outside the range of the sheets required are free (log 67), as is the position
word of ORDER_SPLIT (log 54). With no open order, or one that needs no more cuts, nothing else changes, in both modes.
With a split only B_proj may be recomputed beside in SETUP; in RUN the Cut Planner may re-plan and a commit follow. -/
def Obligations.OrderRushTaken : Prop :=
  ∀ (tag : Half) (level n p g pt len sh st lane ov : Word) (gr : Grade) (pat : Pattern) (s : State),
    s.answers → s.wm.boardChange = none → 1 ≤ level.toNat → level.toNat ≤ 2 →
    s.orderAt ⟨n, p.toNat⟩ = none →
    n ≠ 0 → p.toNat ≤ 3 → 3000 ≤ len.toNat → len.toNat ≤ 80000 → 1 ≤ sh.toNat → sh.toNat ≤ 1000000 →
    1 ≤ st.toNat → st.toNat ≤ 65535 → lane.toNat ≤ 4 → ov.toNat ≤ 1000 →
    s.gradeAt g.toNat = some gr → gr.released = true → s.patternAt pt.toNat = some pat → pat.released = true →
    pat.width ≤ gr.width →
    let o : Order :=
      { key := ⟨n, p.toNat⟩, grade := g.toNat, pattern := pt.toNat, length := len.toNat, sheets := sh.toNat
        cuts := ceilDiv sh.toNat pat.outs, stackCount := st.toNat, lane := lane.toNat, overrun := ov.toNat
        state := .queued, start := none, fin := none, good := 0, scrap := 0, dropped := 0, split := false
        cancelled := false, breakdown := ⟨0, 0, 0, 0, 0, 0, 0, 0, 0, 0⟩ }
    let front := s.op.queue.takeWhile (·.start.isSome)
    let back := s.op.queue.dropWhile (·.start.isSome)
    let rush := exec (.orderRush tag level [n, p, g, pt, len, sh, st, lane, ov]) s
    ((∀ r, s.openOrder = some r → r.cuts ≤ r.good + s.goodInHand r.key) →
      s.op.queue.length < Config.queueCapacity → rush = .next ((s.withOp { s.op with
        queue := (front ++ o :: back).map (Order.designate (some o.key)), block := none }).replied tag 0 0
          [natWord front.length])) ∧
    ∀ r rp, s.openOrder = some r → (∀ x ∈ s.op.queue, x.key = r.key → x = r) → s.patternAt r.pattern = some rp →
      r.good + s.goodInHand r.key < r.cuts → r.key.part + 1 ≤ 3 →
      s.op.queue.length + 2 ≤ Config.queueCapacity → s.orderAt ⟨r.key.number, r.key.part + 1⟩ = none →
      o.key ≠ ⟨r.key.number, r.key.part + 1⟩ →
      let c := r.good + s.goodInHand r.key
      let sheets := fitSheets ((c * rp.outs : Nat) : Int)
      let rest : Order :=
        { r with key := ⟨r.key.number, r.key.part + 1⟩, sheets := fitSheets ((r.sheets : Int) - sheets)
                 cuts := r.cuts - c, state := .queued, start := none, fin := none, good := 0, scrap := 0, dropped := 0
                 split := true, breakdown := ⟨0, 0, 0, 0, 0, 0, 0, 0, 0, 0⟩ }
      let divided := (s.withOp { s.op with
        queue := ((front ++ o :: rest :: back).map (fun x => if x.key = r.key then
          { x with cuts := c, sheets := sheets, split := true } else x)).map (Order.designate (some o.key))
        block := none })
      (s.mu.mode = .setup → ∃ b, rush = .next
        (((raiseNoPosition .orderSplit r.key.number (natWord c) divided).withProjection b).replied tag 0 0
          [natWord front.length])) ∧
      (s.mu.mode = .run → ∃ t x, rush = .next t ∧ t.mu.mode = .run ∧ t.tables = s.tables ∧
        t.mu.replies = s.mu.replies ++ [⟨tag, 0, 65536, [natWord front.length]⟩] ∧
        t.op.queue.map (·.key) = divided.op.queue.map (·.key) ∧ t.orderAt r.key = some x ∧ x.cuts = c ∧
        x.sheets = sheets ∧ x.split = true)

/-- R94, Table 5-3, Table 9-4, at any level and in either mode: an order is read by its key or its place in the queue,
with the breakdown of its scrap (R151), and the completion records newest first, in parts of 24 words (R165, R166);
nothing changes. That an order that is not in the queue is answered REF_ABSENT is the model's choice (log 66), and so
are the words of flags (log 20), of an absent boundary (log 93) and the number of records before them (log 104). -/
def Obligations.OrderAndHistoryReads : Prop :=
  ∀ (tag : Half) (level : Word) (s : State), level.toNat ≤ 2 →
    (∀ n p o, s.answersWords 32 → s.orderAt ⟨n, p.toNat⟩ = some o →
      exec (.orderRead tag level [n, p]) s = .next (s.repliedParts tag
        ([o.key.number, natWord o.key.part, natWord o.grade, natWord o.pattern, natWord o.length, natWord o.sheets
          , natWord o.cuts, natWord o.stackCount, natWord o.lane, natWord o.overrun, natWord o.state.code] ++
          optBoundary o.start ++ optBoundary o.fin ++
          [natWord o.good, natWord o.scrap, natWord o.dropped, if o.split then 0 else 1, if o.cancelled then 0 else 1
           , natWord o.breakdown.zone, natWord o.breakdown.tail, natWord o.breakdown.gap
           , natWord o.breakdown.overrun, natWord o.breakdown.cancelled, natWord o.breakdown.range
           , natWord o.breakdown.gateZone, natWord o.breakdown.cutFault, natWord o.breakdown.noLane
           , natWord o.breakdown.stackerBehind]))) ∧
    (∀ (place : Word) o, s.answersWords 32 → s.op.queue[place.toNat]? = some o →
      exec (.orderRead tag level [place]) s = .next (s.repliedParts tag o.words)) ∧
    (∀ n p, s.answers → s.orderAt ⟨n, p.toNat⟩ = none →
      exec (.orderRead tag level [n, p]) s = .next (s.replied tag 14 0 [])) ∧
    (∀ place : Word, s.answers → s.op.queue.length ≤ place.toNat →
      exec (.orderRead tag level [place]) s = .next (s.replied tag 14 0 [])) ∧
    (s.op.history = [] → s.answers → exec (.historyRead tag level []) s = .next (s.replied tag 0 0 [0])) ∧
    ∀ older x, s.op.history = older ++ [x] → s.answersWords (1 + 22 * s.op.history.length) →
      exec (.historyRead tag level []) s = .next (s.repliedParts tag
        (natWord s.op.history.length :: (x.words ++ older.reverse.flatMap Completion.words)))

/-! ### Links, splices, zones and stations -/

/-- R18, in either mode: the anchors are taken from the cycle snapshots of the two sections, and the reply carries
them; P and the link index have their ranges. -/
def Obligations.AnchorLinkTaken : Prop :=
  ∀ (tag : Half) (l p : Word) (s : State), s.answers →
    (l.toNat ≤ 10 → p.toNat ≤ 100000000 →
      (∀ k u d, s.linkAt l.toNat = some k → s.sectionAt k.up = some u → s.sectionAt k.down = some d →
        let down := shiftBy d.trk.snapshot (roundDiv ((p.toNat : Int) * 4096) k.ratio)
        exec (.anchorLink tag 2 [l, p]) s = .next ((s.setLink l.toNat (some
          { k with aUp := u.trk.snapshot, aDown := down, anchored := true })).replied tag 0 0
            [u.trk.snapshot, down])) ∧
      (s.linkAt l.toNat = none → exec (.anchorLink tag 2 [l, p]) s = .next (s.replied tag 14 0 []))) ∧
    (10 < l.toNat ∨ 100000000 < p.toNat → exec (.anchorLink tag 2 [l, p]) s = .next (s.replied tag 4 0 []))

/-- R105, R106, R62: in RUN an operator splice is planned splice_lead ahead and, with room on the splicer's channel,
issued at once, its target translated to the splicer's raw count (by a free offset where the section of that count is
free: log 65); the reply carries the target, and with the plan made the web is no longer blocked (Table 6-2). In SETUP
and while a plan is held it is refused. -/
def Obligations.SpliceNowTaken : Prop :=
  ∀ (tag : Half) (level i : Word) (w : Web) (s : State), s.answers → 1 ≤ level.toNat → level.toNat ≤ 2 →
    i.toNat ≤ 5 → s.webAt i.toNat = some w → s.wm.boardChange = none →
    (∀ c, s.mu.mode = .run → w.st.plan = none → w.cfg.spliceLead ≤ 10000000 →
      s.channelAt w.cfg.channel = some c → c.cls = some .splicer → c.outstanding.length < c.depth →
      let target := shiftBy (s.count w.cfg.sec) w.cfg.spliceLead
      let t := chooseTag c 8 c.nextTag
      let cmd : Command :=
        { tag := t, verb := .spliceAt, args := [target - offsetOf s w.cfg.posRole], role := some w.cfg.posRole
          accepted := false, abort := false, sendTime := none, acceptTime := none, overdue := false }
      let plan : SplicePlan :=
        { kind := .operator, state := .issued, target := target, boundary := none, early := false, paper := none }
      exec (.spliceNow tag level [i]) s = .next
        (((s.adjustChannel w.cfg.channel (fun c =>
          { c with outstanding := c.outstanding ++ [cmd], nextTag := tagAfter t })).adjustWeb i.toNat (fun x =>
            { x with plan := some plan, spliceTag := some t, blocked := false })).replied tag 0 0 [target])) ∧
    (s.mu.mode = .run → w.st.plan.isSome = true →
      exec (.spliceNow tag level [i]) s = .next (s.replied tag 9 0 [])) ∧
    (s.mu.mode = .setup → exec (.spliceNow tag level [i]) s = .next (s.replied tag 7 0 []))

/-- R40, R22 to R25, R27, R28 in RUN: the position is the one asked for, or at the distance downstream of the counter
point. With room in the pool the zone is listed with a new slot (which one is free: log 11) and serial, with RECKONED
and the margin where the section is RECKONED or HELD. Within the boundary reserve it is merged into the nearest splice
or zone of the section, or dropped with MAP_FULL where there is none; a lead, trail or widening that then passes 24 bits
is free (log 12). The reply says which. In BOARD, here with no order open or waiting, the change is announced: Cut
Planner and command channels alone may follow it, and not even they where no cut is PLANNED. In SETUP the request is
refused. -/
def Obligations.ZoneAddTaken : Prop :=
  ∀ (tag : Half) (level sec form pos lead trail : Word) (c : Section) (s : State), s.answers → 1 ≤ level.toNat →
    level.toNat ≤ 2 → sec.toNat ≤ 11 → s.sectionAt sec.toNat = some c → lead.toNat ≤ 1000000 →
    trail.toNat ≤ 1000000 → s.wm.boardChange = none →
    let result := exec (.zoneAdd tag level [sec, form, pos, lead, trail]) s
    (s.mu.mode = .run →
      ∀ p, (form = 0 ∧ p = pos ∧ (sdist c.trk.count pos).natAbs ≤ 1073741824) ∨
          (form = 1 ∧ p = shiftBy c.trk.count (-pos.toInt) ∧ -1000000 ≤ pos.toInt ∧ pos.toInt ≤ 10000000) →
        let widening := fitLength (if s.uncertain sec.toNat then c.cfg.margin else 0)
        let marks := (s.mapAt sec.toNat).marks
        let answered := fun (x : State) (words : List Word) =>
          (s.isBoard sec.toNat = false → result = .next (x.replied tag 0 0 words)) ∧
          (s.isBoard sec.toNat = true → s.openOrder = none → s.nextOrder = none →
            ∃ u : State, result = .next (u.replied tag 0 0 words) ∧ u.fr = s.fr ∧ u.pt = s.pt ∧ u.wm = x.wm ∧ u.sc = s.sc ∧
              u.sp = s.sp ∧ u.sg = s.sg ∧ u.ss = s.ss ∧ u.op = { s.op with bproj := .none } ∧ u.pending = s.pending ∧
              u.tables = s.tables ∧ u.mu.mode = .run ∧ u.mu.replies = s.mu.replies ∧
              ((∀ e ∈ s.cp.plan, e.sent.isSome = true) → u.cp = s.cp ∧ u.ccu = s.ccu ∧ u.mu = s.mu))
        (Config.boundaryLimit - s.boundaryCount < s.freeCount →
          let m : Mark :=
            { slot := s.freeSlot, serial := s.wm.nextSerial, kind := .zone, cause := some .defect, sec := sec.toNat
              pos := p, lead := lead.toNat, trail := trail.toNat, widening := widening, conf := .confirmed
              reckoned := s.uncertain sec.toNat, via := none, verifiedAt := none, origin := none, order := none
              patternChange := false }
          let listed := listMark m s
          answered (listed.withWm { listed.wm with
            nextSerial := if s.wm.nextSerial < 65535 then s.wm.nextSerial + 1 else 1 })
              [0, natWord s.freeSlot, natWord s.wm.nextSerial]) ∧
        (s.freeCount ≤ Config.boundaryLimit - s.boundaryCount →
          (∀ before old after, marks = before ++ old :: after → old.sec = sec.toNat → old.kind ≠ .boundary →
            (∀ x ∈ before ++ after, x.slot ≠ old.slot) →
            (∀ x ∈ before, x.kind ≠ .boundary → (sdist old.pos p).natAbs < (sdist x.pos p).natAbs) →
            (∀ x ∈ after, x.kind ≠ .boundary → (sdist old.pos p).natAbs ≤ (sdist x.pos p).natAbs) →
            let d := sdist old.pos p
            let front := min (-((old.lead + old.widening : Nat) : Int)) (d - ((lead.toNat + widening : Nat) : Int))
            let rear := max ((old.trail + old.widening : Nat) : Int) (d + ((trail.toNat + widening : Nat) : Int))
            let merged : Mark :=
              { old with kind := .zone, cause := if old.cause = none then some .defect else old.cause
                         lead := fitLength (-front).toNat, trail := fitLength rear.toNat, widening := 0
                         conf := .confirmed, reckoned := old.reckoned || s.uncertain sec.toNat, verifiedAt := none
                         origin := none }
            answered (s.adjustMap sec.toNat (fun x => { x with marks := before ++ merged :: after }))
              [1, natWord old.slot, natWord old.serial]) ∧
          ((∀ x ∈ marks, x.kind = .boundary) →
            result = .next ((raise .mapFull sec p 2 s).replied tag 0 0 [2])))) ∧
    (s.mu.mode = .setup → result = .next (s.replied tag 7 0 []))

/-- R124 with R116, R121, R125: a station that is not FAULT stays as it is; a FAULT station whose report slot is not FRESH
or does not show the tool state UP is refused; one whose slot shows it becomes IDLE. With a swap held in SETUP that
needs the old station's LIFT, the lift is then done; in RUN the new station of a held swap is preset again where its
channel has room; a cover run that nothing else keeps ends. Recovery is not due where the other station is ENGAGED, no
pattern runs, or the part is in SETUP. The reply carries the station's state (log 24); that a cover run ends in SETUP
with no zone is the model's choice (log 32). -/
def Obligations.StationClearTaken : Prop :=
  ∀ (tag : Half) (level i : Word) (x : Slitter) (s : State), s.answers → 1 ≤ level.toNat → level.toNat ≤ 2 →
    i.toNat ≤ 1 → s.stationAt i.toNat = some x → s.wm.boardChange = none →
    let clear := exec (.stationClear tag level [i]) s
    let idle := s.adjustStation i.toNat (fun x =>
      { x with state := .idle, pattern := none, atRisk := false, live := none })
    let up := s.fresh x.cfg.slot = true ∧ s.slotAux x.cfg.slot = 1
    let otherAtRisk := ∃ y, s.stationAt (1 - i.toNat) = some y ∧ y.state = .fault ∧ y.atRisk = true
    let settled := s.mu.mode = .setup ∨ s.op.runningPattern = none ∨
      ∃ y, s.stationAt (1 - i.toNat) = some y ∧ y.state = .engaged
    (x.state ≠ .fault → clear = .next (s.replied tag 0 0 [natWord x.state.code])) ∧
    (x.state = .fault → ¬up → clear = .next (s.replied tag 9 0 [])) ∧
    (x.state = .fault → up →
      (s.sp.swap = none → s.sp.cover.active = false → settled → clear = .next (idle.replied tag 0 0 [0])) ∧
      (s.mu.mode = .setup → s.sp.swap = none → s.sp.cover.active = true →
        (otherAtRisk → clear = .next (idle.replied tag 0 0 [0])) ∧
        (¬otherAtRisk → clear = .next ((idle.withSp { idle.sp with
          cover := { s.sp.cover with active := false } }).replied tag 0 0 [0]))) ∧
      (s.mu.mode = .run → s.sp.swap = none → s.sp.cover.active = true → ¬otherAtRisk → settled →
        s.openOrder = none → s.nextOrder = none →
        ∃ t y, clear = .next t ∧ t.stationAt i.toNat = some y ∧ y.state = .idle ∧ y.atRisk = false ∧
          t.sp.cover.active = false ∧ t.mu.replies = s.mu.replies ++ [⟨tag, 0, 65536, [0]⟩]) ∧
      (∀ w, s.mu.mode = .setup → s.sp.swap = some w → s.sp.cover.active = false → w.drop ≠ .done →
        (w.oldStation = some i.toNat → w.lift = .notSent ∨ w.lift = .failed → clear = .next ((idle.withSp { idle.sp with
          swap := some { w with lift := .done } }).replied tag 0 0 [0])) ∧
        (w.oldStation ≠ some i.toNat → clear = .next (idle.replied tag 0 0 [0]))) ∧
      (∀ w c pat, s.mu.mode = .run → s.sp.swap = some w → w.newStation = i.toNat → w.oldStation ≠ some i.toNat →
        s.sp.cover.active = false → s.channelAt x.cfg.channel = some c → c.cls = some .slitter →
        c.outstanding.length < c.depth → s.patternAt w.pattern = some pat → 1 ≤ pat.outs → pat.outs ≤ 7 →
        pat.slits.length ≤ 6 → pat.scores.length ≤ 10 →
        let t := chooseTag c 8 c.nextTag
        let cmd : Command :=
          { tag := t, verb := .preset, role := none, accepted := false, abort := false, sendTime := none
            args := [natWord pat.outs, natWord pat.slits.length, natWord pat.scores.length] ++ pat.slits.map natWord ++
              pat.scores.map natWord
            acceptTime := none, overdue := false }
        clear = .next (((idle.adjustChannel x.cfg.channel (fun c =>
          { c with outstanding := c.outstanding ++ [cmd], nextTag := tagAfter t })).adjustStation i.toNat (fun x =>
            { x with state := .presetting, pattern := some w.pattern, live := some ⟨.preset, t⟩ })).replied tag 0 0 [1])))

/-! ### Modes, resets and status -/

/-- R168, R169: MODE SETUP ends RUN when no section that is not HELD moves, and is refused with the first that does;
in SETUP it changes nothing. MODE RUN enters RUN when every check passes, keeping the tables, the waiting commands and
the earlier replies. The first check that fails is answered with its subcode and record, so without a BOARD section
subcode 1 of table 1 (no index word is stated: log 25). That equal distances of KNIFE, GATE and STACKER fail, and which
record check 6 names, is the model's choice (log 108, 109). In RUN it changes nothing. -/
def Obligations.ModeRequestsTaken : Prop :=
  ∀ (tag : Half) (s : State), s.answers → s.wm.boardChange = none →
    (s.mu.mode = .setup → exec (.modeSetup tag 2) s = .next (s.replied tag 0 0 [])) ∧
    (s.mu.mode = .run → (∀ i c, s.sectionAt i = some c → c.trk.source = .held ∨ c.trk.speed = 0) →
      exec (.modeSetup tag 2) s = .next ((raise .modeChanged 0 (natWord s.fr.cycle.toNat) 0
        (s.withMu { s.mu with mode := .setup })).replied tag 0 0 [])) ∧
    (∀ i c, s.mu.mode = .run → i ≤ 11 → s.sectionAt i = some c → c.trk.source ≠ .held → c.trk.speed ≠ 0 →
      (∀ j d, j < i → s.sectionAt j = some d → d.trk.source = .held ∨ d.trk.speed = 0) →
      exec (.modeSetup tag 2) s = .next (s.replied tag 17 0 [natWord i])) ∧
    (s.mu.mode = .run → exec (.modeRun tag 2) s = .next (s.replied tag 0 0 [])) ∧
    (s.mu.mode = .setup →
      (runCheck s = none → ∃ t, exec (.modeRun tag 2) s = .next t ∧ t.mu.mode = .run ∧ t.tables = s.tables ∧
        t.pending = s.pending ∧ t.mu.replies = s.mu.replies ++ [⟨tag, 0, 65536, []⟩]) ∧
      (∀ f, runCheck s = some f → exec (.modeRun tag 2) s = .next
        (s.replied tag 16 f.sub [natWord f.table, optWord f.index])) ∧
      ((∀ i c, s.sectionAt i = some c → c.cfg.kind ≠ .board) →
        exec (.modeRun tag 2) s = .next (s.replied tag 16 1 [1, absentWord])))

/-- R170 with R19, R42, R74, R94, R113, R126, R142, R151 and R163: RESET_TRACKING empties all tracking in SETUP,
keeping every table, the counters, the next serial and the next tags; in RUN it is refused. That no order is NEXT
until one is designated again (log 38), and what the cover run's positions become (log 43), is the model's. -/
def Obligations.ResetTrackingTaken : Prop :=
  ∀ (tag : Half) (s : State), s.answers → s.wm.boardChange = none →
    (s.mu.mode = .run → exec (.resetTracking tag 2 []) s = .next (s.replied tag 6 0 [])) ∧
    (s.mu.mode = .setup → ∃ t, exec (.resetTracking tag 2 []) s = .next t ∧
      t.tables = s.tables ∧ t.pending = s.pending ∧ t.fr = s.fr ∧ t.pt.sections = s.pt.sections ∧
      t.pt.links = s.pt.links.map (Option.map (fun l => { l with aUp := 0, aDown := 0, anchored := false })) ∧
      t.wm.maps = s.wm.maps.map (fun m => { m with marks := [] }) ∧ t.wm.nextSerial = s.wm.nextSerial ∧
      t.ccu.gate = none ∧
      t.ccu.records = s.ccu.records.map (fun c =>
        { c with outstanding := [], pend := none, recent := [], lastUnsol := none, fault := false }) ∧
      t.op = { s.op with
        queue := s.op.queue.map (fun o => { o with state := .queued, start := none, fin := none })
        bproj := .none, block := none, runningGrade := none, runningPattern := none } ∧
      t.sc = s.sc.map (Option.map (fun w => { w with st := WebState.initial w.cfg.k0 })) ∧
      t.sp.stations = s.sp.stations.map (Option.map (fun x =>
        { x with state := .idle, pattern := none, atRisk := false, live := none, settled := none })) ∧
      t.sp.swap = none ∧ t.sp.cover = { active := false, rear := 0, start := 0 } ∧
      t.cp = { s.cp with plan := [], base := none, lastCut := none, frontFault := true, rangeOrder := none
                         pieces := [] } ∧
      t.sg = { StackGate.initial with channel := s.sg.channel, slot := s.sg.slot, gateLead := s.sg.gateLead
                                      laneLead := s.sg.laneLead } ∧
      t.ss.curves = s.ss.curves ∧
      t.ss.generators = s.ss.generators.map (Option.map (fun g => { g with st := GenState.initial })) ∧
      t.mu = { s.mu with replies := s.mu.replies ++ [⟨tag, 0, 65536, []⟩] })

/-- R171 with R60, R174, Tables 11-1 and 11-7: CLEAR at OPERATE or above clears counts and sticky flags, its one word
holding the flags as they stood (log 24); STATUS_READ at any level answers the 23 status words and the own address,
with the flags in the subcode (log 24), and changes nothing else; words 9 and 10 count the whole queues (log 115). Both
in either mode. -/
def Obligations.ClearAndStatusTaken : Prop :=
  ∀ (tag : Half) (level : Word) (s : State), s.answers → level.toNat ≤ 2 →
    let flags : Nat := (if s.fr.frameFull then 1 else 0) + (if s.mu.eventsDropped then 2 else 0) +
      if s.mu.replyLost then 4 else 0
    (1 ≤ level.toNat → exec (.clear tag level []) s = .next
      (((s.withFr { s.fr with
        badOutbound := 0, frameFull := false
        health := s.fr.health.map (fun h => { h with bad := 0, late := 0 }) }).withMu { s.mu with
          eventsDropped := false, replyLost := false }).replied tag 0 0 [BitVec.ofNat 32 flags])) ∧
    exec (.statusRead tag level []) s = .next (s.replied tag 0 flags
      ([if s.mu.mode = .setup then 0 else 1, if s.fr.state = .normal then 0 else 1, natWord s.pairState.code
        , natWord s.markCount, natWord s.freeCount, natWord s.op.queue.length
        , match s.op.block with
          | some c => natWord c.code
          | none => 0
        , natWord (s.fr.health.countP (·.suspect)), natWord (s.ccu.records.countP (·.fault))
        , natWord s.mu.events.length, natWord s.mu.replies.length] ++
        (List.range 12).map (fun i =>
          match s.sectionAt i with
          | some c => natWord c.trk.source.code
          | none => 0) ++ [natWord s.fr.ownAddr.toNat]))

/-! ### What the blocks compute -/

/-- R6, R8 in SETUP: an in-time REPORT on a section's primary counter. In PRIMARY the counter follows it, never
backward; in another source state PRIMARY takes over at the counter as it stands, which the offset records. The
section's marks stay. That a slot which is the section's speed reference too acts as primary first is the model's
choice (log 111). -/
def Obligations.TrackCounterFollowsPrimary : Prop :=
  ∀ (bytes : List Byte) (f : Frame) (i : Item) (k : Nat) (w : WatchEntry) (sec : Nat) (c : Section) (h : Health)
    (s : State), goodReturn bytes = some f → s.fr.windowOpen = true → f.cycle = s.fr.cycle →
    ¬(s.workingAddress = true ∧ f.source = s.ownByte) → s.wm.boardChange = none → s.mu.mode = .setup →
    f.items = [i] → i.station = f.source → i.readKind = some .report → watchSlot i.key .report s = some k →
    s.slotAt k = some w → w.owner = .pt → s.healthAt f.source.toNat = some h → h.suspect = false →
    s.sectionAt sec = some c → sec ≤ 11 → c.cfg.primarySlot = k → c.cfg.backupSlot ≠ some k →
    ∃ t x, exec (.returnFrame bytes) s = .next t ∧ t.sectionAt sec = some x ∧ x.cfg = c.cfg ∧
      x.trk.source = .primary ∧ x.trk.lastUpdate = s.fr.sample ∧ (t.mapAt sec).marks = (s.mapAt sec).marks ∧
      (c.trk.source = .primary → x.trk.primaryOffset = c.trk.primaryOffset ∧
        x.trk.count = if 0 ≤ sdist c.trk.count (i.value + c.trk.primaryOffset) then i.value + c.trk.primaryOffset
          else c.trk.count) ∧
      (c.trk.source ≠ .primary → x.trk.count = c.trk.count ∧ x.trk.primaryOffset = c.trk.count - i.value)

/-- R14 to R16: carry over an anchored link rounds to nearest, ties away from zero, limits the distance to 2^30 with
LINK_RANGE raised, and gives no result over an unanchored link; inverse carry of a carried position differs by at
most 1. A length is carried downstream and back upstream with the same rounding, and comes back within 1.
LINK_RANGE's value word is free (log 54). -/
def Obligations.CarryOverALink : Prop :=
  ∀ (link : Nat) (l : Link) (p : Word) (s : State), s.linkAt link = some l → 2048 ≤ l.ratio → l.ratio ≤ 8192 →
    let d := sdist l.aUp p
    let limited : Int := if 1073741824 < d then 1073741824 else if d < -1073741824 then -1073741824 else d
    (l.anchored = false → carryOver link p s = (s, none) ∧ inverseOver link p s = (s, none)) ∧
    (l.anchored = true → ∃ D : Int,
      (2 * (D * l.ratio - limited * 4096)).natAbs ≤ l.ratio ∧
      ((2 * (D * l.ratio - limited * 4096)).natAbs = l.ratio → (limited * 4096).natAbs < (D * l.ratio).natAbs) ∧
      (d.natAbs ≤ 1073741824 → carryOver link p s = (s, some (shiftBy l.aDown D, false))) ∧
      (1073741824 < d.natAbs → carryOver link p s =
        (raiseNoValue .linkRange (natWord link) p s, some (shiftBy l.aDown D, true))) ∧
      (d.natAbs ≤ 536870912 → ∃ q, inverseOver link (shiftBy l.aDown D) s = (s, some q) ∧
        (sdist p q).natAbs ≤ 1)) ∧
    ∀ n : Nat,
      (2 * ((carryLength l n : Int) * l.ratio - n * 4096)).natAbs ≤ l.ratio ∧
      ((2 * ((carryLength l n : Int) * l.ratio - n * 4096)).natAbs = l.ratio → n * 4096 < carryLength l n * l.ratio) ∧
      (2 * ((carryLengthUp l n : Int) * 4096 - n * l.ratio)).natAbs ≤ 4096 ∧
      ((2 * ((carryLengthUp l n : Int) * 4096 - n * l.ratio)).natAbs = 4096 →
        n * l.ratio < carryLengthUp l n * 4096) ∧
      carryLengthUp l (carryLength l n) ≤ n + 1 ∧ n ≤ carryLengthUp l (carryLength l n) + 1

/-- R153: the base value of a curve at a speed: the first value up to the first breakpoint, the last from the last on,
and between two breakpoints, which are the only two around the speed, the straight line rounded to nearest with ties
away from zero; it lies between their values, and from 0 to 65,535. -/
def Obligations.CurveValueIsInterpolated : Prop :=
  ∀ (bs : List Breakpoint) (v : Nat), bs.Pairwise (fun a b => a.v < b.v) → (∀ b ∈ bs, b.y ≤ 65535) →
    (∀ a, bs.head? = some a → v ≤ a.v → curveValue bs v = a.y) ∧
    (∀ a, bs.getLast? = some a → a.v ≤ v → curveValue bs v = a.y) ∧
    (∀ k a b, bs[k]? = some a → bs[k + 1]? = some b → a.v ≤ v → v < b.v →
      ((min a.y b.y : Nat) : Int) ≤ curveValue bs v ∧ curveValue bs v ≤ ((max a.y b.y : Nat) : Int) ∧
      ∃ D : Int, curveValue bs v = a.y + D ∧
        let exact := ((b.y : Int) - a.y) * (v - a.v)
        let span := (b.v : Int) - a.v
        (2 * (D * span - exact)).natAbs ≤ span.natAbs ∧
        ((2 * (D * span - exact)).natAbs = span.natAbs → exact.natAbs < (D * span).natAbs)) ∧
    (∀ a z, bs.head? = some a → bs.getLast? = some z → a.v < v → v < z.v →
      ∃! k, ∃ x y, bs[k]? = some x ∧ bs[k + 1]? = some y ∧ x.v ≤ v ∧ v < y.v) ∧
    (bs ≠ [] → 0 ≤ curveValue bs v ∧ curveValue bs v ≤ 65535)

/-- R157, R160: outside lift the output stays in the generator's range and moves at most the slew limit from the
last output, taking the clamped value at once when there is none; in lift it is the lift value. The generator keeps
what was sent. -/
def Obligations.GeneratorOutputHeld : Prop :=
  ∀ (i o : Nat) (g : Generator) (s : State), s.generatorAt i = some g → g.cfg.outMin ≤ g.cfg.outMax →
    (∀ y, g.st.lastOutput = some y → g.st.inLift = true ∨ g.cfg.outMin ≤ y ∧ y ≤ g.cfg.outMax) →
    (generatorValue i s).2 = some o →
    ∃ x, (generatorValue i s).1.generatorAt i = some x ∧ x.cfg = g.cfg ∧ x.st.lastOutput = some o ∧
      x.st.inLift = liftsNow g s ∧ x.st.inForce = g.st.inForce ∧ x.st.pending = g.st.pending ∧
      x.st.curveAbsent = false ∧
      (liftsNow g s = true → o = g.cfg.liftValue) ∧
      (liftsNow g s = false → g.cfg.outMin ≤ o ∧ o ≤ g.cfg.outMax ∧
        (g.st.inLift = false → ∀ y, g.st.lastOutput = some y → o ≤ y + g.cfg.slew ∧ y ≤ o + g.cfg.slew) ∧
        (g.st.inLift = true ∨ g.st.lastOutput = none →
          (o : Int) = clampInt g.cfg.outMin g.cfg.outMax (x.st.lastBase + x.st.lastTrim)))

/-- R22, R23, R26: the operations of the map list no mark twice or in a slot or section that does not exist, and keep a
record free for every boundary that may still come, whichever free record a creation takes (log 11). -/
def Obligations.MapOperationsSound : Prop :=
  ∀ s : State, s.slotsSound → s.reserveHeld →
    (∀ q : CreateRequest, q.kind ≠ .boundary → (createMark q s).1.slotsSound ∧ (createMark q s).1.reserveHeld) ∧
    (∀ sec pos order change,
      (createBoundary sec pos order change s).1.slotsSound ∧ (createBoundary sec pos order change s).1.reserveHeld ∧
      ((createBoundary sec pos order change s).2 = none ↔ s.boundaryCount = Config.boundaryLimit)) ∧
    (∀ slot serial sec pos conf, (moveMark slot serial sec pos conf s).1.slotsSound ∧
      (moveMark slot serial sec pos conf s).1.reserveHeld) ∧
    (∀ slot serial widening, (narrowMark slot serial widening s).1.slotsSound ∧
      (narrowMark slot serial widening s).1.reserveHeld) ∧
    ∀ slot serial, (deleteMark slot serial s).1.slotsSound ∧ (deleteMark slot serial s).1.reserveHeld

/-- R62, R63: a command that is taken gets a tag that is not 0 and not in use on its channel; it enters the outstanding
list, its position translated (by a free offset where its section is free: log 65), while there is room, and otherwise
the pending slot. -/
def Obligations.IssuedTagIsFresh : Prop :=
  ∀ (ch : Nat) (v : Verb) (args : List Word) (role : Option PosRole) (x : Issued) (c : Channel) (s : State),
    s.channelAt ch = some c → c.nextTag ≠ 0 → c.outstanding.length ≤ 2 → c.recent.length ≤ 4 →
    (issueCommand ch v args role s).2 = some x →
    x.tag ≠ 0 ∧ c.tagInUse x.tag = false ∧ c.cls = some v.cls ∧
    let cmd : Command :=
      { tag := x.tag, verb := v, args := args, role := role, accepted := false, abort := false, sendTime := none
        acceptTime := none, overdue := false }
    ∃ d, (issueCommand ch v args role s).1.channelAt ch = some d ∧ d.nextTag ≠ 0 ∧ d.recent = c.recent ∧
      (c.outstanding.length < c.depth →
        d.outstanding = c.outstanding ++ [translate s cmd] ∧ d.pend = c.pend ∧ x.superseded = none) ∧
      (c.depth ≤ c.outstanding.length →
        d.outstanding = c.outstanding ∧ d.pend = some cmd ∧ x.superseded = c.pend.map (·.tag))

/-- R130 to R133, Table 8-1: the next cut lies between min_piece and max_piece ahead of the last; a GOOD piece has
the sheet length of the order it belongs to and no cause, and every other piece has a cause. -/
def Obligations.NextCutWithinLimits : Prop :=
  ∀ (s : State) (found : List (OrderKey × Nat)) (c : Word), s.cp.minPiece ≤ s.cp.swapGap → 1 ≤ s.cp.minPiece →
    s.cp.minPiece ≤ 80000 → s.cp.scrapLen ≤ 80000 → (∀ o ∈ s.op.queue, o.length ≤ 80000) →
    let e := (nextCut s found c).entry
    e.sent = none ∧
    (∃ n : Nat, e.target = shiftBy c n ∧ s.cp.minPiece ≤ n ∧ n ≤ 80000) ∧
    (e.good = true → e.cause = none ∧
      ∃ o ∈ s.op.queue, e.order = some o.key ∧ e.target = shiftBy c o.length ∧ s.cp.minPiece ≤ o.length) ∧
    (e.good = false → e.cause.isSome = true)

/-- R144, R146: a piece passes the gate exactly when it is GOOD, without CUT_FAULT and zone, its order has a lane and
the stacker is ready; the decision is published when it differs from the last value. -/
def Obligations.GateDecisionPublished : Prop :=
  ∀ (p : Piece) (s : State),
    (routeOf s p = .pass ↔ p.good = true ∧ p.cutFault = false ∧ s.boardOverlap ⟨p.lead + 1, p.trail⟩ = [] ∧
      (∃ k o, p.order = some k ∧ s.orderAt k = some o ∧ o.lane ≠ 0) ∧
      (∀ ch c, s.sg.channel = some ch → s.channelAt ch = some c → c.pend = none) ∧
      ∀ k, s.sg.slot = some k → s.fresh k = true ∧ s.slotValue k = 1) ∧
    (p.good = false → routeOf s p = .divert .scrap) ∧
    (p.good = true → p.cutFault = true → routeOf s p = .divert .cutFault) ∧
    (decidePiece p s).2 = routeOf s p ∧
    (decidePiece p s).1.sg.published = some (if routeOf s p = .pass then .pass else .divert) ∧
    (s.sg.published ≠ some (if routeOf s p = .pass then .pass else .divert) →
      (decidePiece p s).1.ccu.gate = some (if routeOf s p = .pass then .pass else .divert)) ∧
    (s.sg.published = some (if routeOf s p = .pass then .pass else .divert) →
      (decidePiece p s).1.ccu = s.ccu)

/-- R138, R140, R145 in RUN: COMPLETE for the head of the plan is a cut at the actual position, or at the target where
the DONE has no words. When it lies min_piece or more ahead of the last actual cut (the plan base, where there is
none), one piece from there to the cut is appended to the piece list, with the entry's kind, cause and order key, with
CUT_FAULT when front fault or the deviation has it, and with a forward route for its leading edge; a forward PASS it no
longer merits is withdrawn before the gate. Otherwise no piece is formed, the last actual cut stays and front fault is
set. A deviation beyond cut_tol, and a cut that forms no piece, raise CUT_OFF_TOL, here where no forward decision is
held. The entry leaves the plan, whose base its target becomes. -/
def Obligations.KnifeDoneFormsPiece : Prop :=
  ∀ (bytes : List Byte) (f : Frame) (i : Item) (ch b : Nat) (c : Channel) (x : Command) (e : CutEntry)
    (rest : List CutEntry) (gate : Word) (h : Health) (s : State),
    goodReturn bytes = some f → s.fr.windowOpen = true → f.cycle = s.fr.cycle →
    ¬(s.workingAddress = true ∧ f.source = s.ownByte) → s.wm.boardChange = none → f.items = [i] →
    i.station = f.source → s.healthAt f.source.toNat = some h → h.suspect = false → i.readKind = some .done →
    i.value = 1 → s.mu.mode = .run → channelOf i.key s = some ch → s.channelAt ch = some c → c.cls = some .knife →
    c.fault = false → s.cp.knife = some ch → c.outstanding.find? (·.tag == i.tag) = some x →
    s.cp.plan = e :: rest → e.sent = some i.tag → s.boardIndex = some b → s.materialAt .gate = some gate →
    let a := match i.words with
      | [] => e.target
      | w :: _ => toTrack s ⟨b, s.cp.role⟩ w
    let dev := sdist e.target a
    let off := decide (s.cp.cutTol < dev.natAbs)
    let last := match s.cp.lastCut, s.cp.base with
      | some p, _ => p
      | none, some p => p
      | none, none => a
    let forms := decide ((s.cp.minPiece : Int) ≤ sdist last a)
    let piece : Piece :=
      { lead := last, trail := a, good := e.good, cause := e.cause, order := e.order
        cutFault := s.cp.frontFault || off, route := none, tallied := false }
    let forward := match s.sg.forward with
      | some d => if d.lead = last then some d.route else none
      | none => none
    let route := match forward, pieceFault s piece with
      | some .pass, some r => if 0 < sdist gate last then some (.divert r) else some .pass
      | r, _ => r
    ∃ t d, exec (.returnFrame bytes) s = .next t ∧ t.tables = s.tables ∧ t.mu.mode = .run ∧ t.channelAt ch = some d ∧
      d.recent = (if c.recent.length < 4 then c.recent ++ [i.tag] else c.recent.tail ++ [i.tag]) ∧
      (forms = true → t.cp.pieces = s.cp.pieces ++ [{ piece with route := route }] ∧ t.cp.lastCut = some a ∧
        t.sg.forward = none) ∧
      (forms = false → t.cp.pieces = s.cp.pieces ∧ t.sg.forward = s.sg.forward ∧
        t.cp.lastCut = match s.cp.lastCut with
          | some p => some p
          | none => s.cp.base) ∧
      (∀ next more, rest = next :: more → next.sent.isSome = true → (∃ later, t.cp.plan = next :: later) ∧
        t.cp.base = some e.target ∧ t.cp.frontFault = (off || !forms)) ∧
      (s.mu.events.length < Config.eventCapacity → s.sg.forward = none → off = true ∨ forms = false →
        ∃ later, t.mu.events = s.mu.events ++ ⟨.cutOffTol, natWord i.tag.toNat, a, wordOf dev, s.fr.cycle⟩ :: later)

/-- R44, Table 3-1: reading back a composed frame gives the frame, every field of every item with it. -/
def Obligations.FrameReadsBack : Prop :=
  ∀ f : Frame, f.items.length ≤ 255 → (∀ i ∈ f.items, i.words.length ≤ 24) → (itemArea f.items).length ≤ 65535 →
    readFrame f.compose = some f

/-- R165, R173, R78, R79, R94: every step keeps the event queue within 32 and the reply queue within 64, the order queue
within 32 orders of distinct keys, and the completion records within 8. -/
def Obligations.QueuesHeldKept : Prop :=
  ∀ s t : State, step s = .next t → (s.queuesHeld → t.queuesHeld) ∧ (s.ordersHeld → t.ordersHeld)

/-- R22, R23, R28: every step keeps each mark in one slot of one list and the boundary reserve, and leaves no change of
the BOARD list unannounced (the field that notes one is the model's own: log 10). -/
def Obligations.MapsSoundKept : Prop := ∀ s t : State, s.mapsSound → step s = .next t → t.mapsSound

/-- R61 to R63, R66: every step keeps the command channel records sound: at most depth outstanding commands, one pending
beside a full list, distinct tags that are not 0, and at most 4 recent tags. -/
def Obligations.ChannelsSoundKept : Prop := ∀ s t : State, s.channelsSound → step s = .next t → t.channelsSound

/-- R129, R137, R138, R140: every step keeps the cut plan within 16 entries with the SENT ones first, and the pieces of
the piece list at least 2,000 long, the least min_piece, and following one another up to the last actual cut. -/
def Obligations.CutsSoundKept : Prop := ∀ s t : State, s.cutsSound → step s = .next t → t.cutsSound

/-- R42, R61, R78, R129, R140, R172: after a reset the queues, the mark pool, the command channels, the cut plan, the
piece list and the order queue are within their bounds. -/
def Obligations.BoundsHeldAtReset : Prop :=
  State.reset.queuesHeld ∧ State.reset.mapsSound ∧ State.reset.channelsSound ∧ State.reset.cutsSound ∧
    State.reset.ordersHeld ∧ ∀ (pins : BitVec 6) (waiting : List Instr),
      (State.afterReset pins waiting).queuesHeld ∧ (State.afterReset pins waiting).mapsSound ∧
      (State.afterReset pins waiting).channelsSound ∧ (State.afterReset pins waiting).cutsSound ∧
      (State.afterReset pins waiting).ordersHeld

/-- R167, R47: in RUN no command but a reset and a frame, which may hold a MODE request, changes a class S field;
and in either mode the commands that hold no table write change no table at all. -/
def Obligations.TablesChangeOnlyByWrites : Prop :=
  ∀ (c : Instr) (s t : State), exec c s = .next t →
    (s.mu.mode = .run → (∀ pins, c ≠ .powerOnReset pins) → (∀ bytes now, c ≠ .outboundFrame bytes now) →
      t.tables.classS = s.tables.classS) ∧
    (storesTables c = false → t.tables = s.tables)

/-- R168, R169, R172, R57, R59: only a reset, MODE, and a frame, which may hold MODE, change the mode; and every command
keeps LOST_CELL a state of RUN. -/
def Obligations.ModeChangesOnlyByMode : Prop :=
  ∀ (c : Instr) (s t : State), exec c s = .next t → (setsMode c = false → t.mu.mode = s.mu.mode) ∧
    ((s.fr.state = .lostCell → s.mu.mode = .run) → t.fr.state = .lostCell → t.mu.mode = .run)
end

