-- ==== Sys2Proof/Laws/State.lean ====
section
/-! SUPPORT. Laws/State.lean: what each update of one block leaves in every field of State. -/

namespace Sys2Proof.Machine

variable (s : State)

/-! ### withPending -/

@[simp] theorem State.withPending_pending (x : List Instr) : (s.withPending x).pending = x := rfl
@[simp] theorem State.withPending_fr (x : List Instr) : (s.withPending x).fr = s.fr := rfl
@[simp] theorem State.withPending_pt (x : List Instr) : (s.withPending x).pt = s.pt := rfl
@[simp] theorem State.withPending_wm (x : List Instr) : (s.withPending x).wm = s.wm := rfl
@[simp] theorem State.withPending_ccu (x : List Instr) : (s.withPending x).ccu = s.ccu := rfl
@[simp] theorem State.withPending_op (x : List Instr) : (s.withPending x).op = s.op := rfl
@[simp] theorem State.withPending_sc (x : List Instr) : (s.withPending x).sc = s.sc := rfl
@[simp] theorem State.withPending_sp (x : List Instr) : (s.withPending x).sp = s.sp := rfl
@[simp] theorem State.withPending_cp (x : List Instr) : (s.withPending x).cp = s.cp := rfl
@[simp] theorem State.withPending_sg (x : List Instr) : (s.withPending x).sg = s.sg := rfl
@[simp] theorem State.withPending_ss (x : List Instr) : (s.withPending x).ss = s.ss := rfl
@[simp] theorem State.withPending_mu (x : List Instr) : (s.withPending x).mu = s.mu := rfl
@[simp] theorem State.withPending_self : s.withPending s.pending = s := rfl

/-! ### withFr -/

@[simp] theorem State.withFr_pending (x : FieldRelay) : (s.withFr x).pending = s.pending := rfl
@[simp] theorem State.withFr_fr (x : FieldRelay) : (s.withFr x).fr = x := rfl
@[simp] theorem State.withFr_pt (x : FieldRelay) : (s.withFr x).pt = s.pt := rfl
@[simp] theorem State.withFr_wm (x : FieldRelay) : (s.withFr x).wm = s.wm := rfl
@[simp] theorem State.withFr_ccu (x : FieldRelay) : (s.withFr x).ccu = s.ccu := rfl
@[simp] theorem State.withFr_op (x : FieldRelay) : (s.withFr x).op = s.op := rfl
@[simp] theorem State.withFr_sc (x : FieldRelay) : (s.withFr x).sc = s.sc := rfl
@[simp] theorem State.withFr_sp (x : FieldRelay) : (s.withFr x).sp = s.sp := rfl
@[simp] theorem State.withFr_cp (x : FieldRelay) : (s.withFr x).cp = s.cp := rfl
@[simp] theorem State.withFr_sg (x : FieldRelay) : (s.withFr x).sg = s.sg := rfl
@[simp] theorem State.withFr_ss (x : FieldRelay) : (s.withFr x).ss = s.ss := rfl
@[simp] theorem State.withFr_mu (x : FieldRelay) : (s.withFr x).mu = s.mu := rfl
@[simp] theorem State.withFr_self : s.withFr s.fr = s := rfl

/-! ### withPt -/

@[simp] theorem State.withPt_pending (x : PathTracker) : (s.withPt x).pending = s.pending := rfl
@[simp] theorem State.withPt_fr (x : PathTracker) : (s.withPt x).fr = s.fr := rfl
@[simp] theorem State.withPt_pt (x : PathTracker) : (s.withPt x).pt = x := rfl
@[simp] theorem State.withPt_wm (x : PathTracker) : (s.withPt x).wm = s.wm := rfl
@[simp] theorem State.withPt_ccu (x : PathTracker) : (s.withPt x).ccu = s.ccu := rfl
@[simp] theorem State.withPt_op (x : PathTracker) : (s.withPt x).op = s.op := rfl
@[simp] theorem State.withPt_sc (x : PathTracker) : (s.withPt x).sc = s.sc := rfl
@[simp] theorem State.withPt_sp (x : PathTracker) : (s.withPt x).sp = s.sp := rfl
@[simp] theorem State.withPt_cp (x : PathTracker) : (s.withPt x).cp = s.cp := rfl
@[simp] theorem State.withPt_sg (x : PathTracker) : (s.withPt x).sg = s.sg := rfl
@[simp] theorem State.withPt_ss (x : PathTracker) : (s.withPt x).ss = s.ss := rfl
@[simp] theorem State.withPt_mu (x : PathTracker) : (s.withPt x).mu = s.mu := rfl
@[simp] theorem State.withPt_self : s.withPt s.pt = s := rfl

/-! ### withWm -/

@[simp] theorem State.withWm_pending (x : WebMap) : (s.withWm x).pending = s.pending := rfl
@[simp] theorem State.withWm_fr (x : WebMap) : (s.withWm x).fr = s.fr := rfl
@[simp] theorem State.withWm_pt (x : WebMap) : (s.withWm x).pt = s.pt := rfl
@[simp] theorem State.withWm_wm (x : WebMap) : (s.withWm x).wm = x := rfl
@[simp] theorem State.withWm_ccu (x : WebMap) : (s.withWm x).ccu = s.ccu := rfl
@[simp] theorem State.withWm_op (x : WebMap) : (s.withWm x).op = s.op := rfl
@[simp] theorem State.withWm_sc (x : WebMap) : (s.withWm x).sc = s.sc := rfl
@[simp] theorem State.withWm_sp (x : WebMap) : (s.withWm x).sp = s.sp := rfl
@[simp] theorem State.withWm_cp (x : WebMap) : (s.withWm x).cp = s.cp := rfl
@[simp] theorem State.withWm_sg (x : WebMap) : (s.withWm x).sg = s.sg := rfl
@[simp] theorem State.withWm_ss (x : WebMap) : (s.withWm x).ss = s.ss := rfl
@[simp] theorem State.withWm_mu (x : WebMap) : (s.withWm x).mu = s.mu := rfl
@[simp] theorem State.withWm_self : s.withWm s.wm = s := rfl

/-! ### withCcu -/

@[simp] theorem State.withCcu_pending (x : Channels) : (s.withCcu x).pending = s.pending := rfl
@[simp] theorem State.withCcu_fr (x : Channels) : (s.withCcu x).fr = s.fr := rfl
@[simp] theorem State.withCcu_pt (x : Channels) : (s.withCcu x).pt = s.pt := rfl
@[simp] theorem State.withCcu_wm (x : Channels) : (s.withCcu x).wm = s.wm := rfl
@[simp] theorem State.withCcu_ccu (x : Channels) : (s.withCcu x).ccu = x := rfl
@[simp] theorem State.withCcu_op (x : Channels) : (s.withCcu x).op = s.op := rfl
@[simp] theorem State.withCcu_sc (x : Channels) : (s.withCcu x).sc = s.sc := rfl
@[simp] theorem State.withCcu_sp (x : Channels) : (s.withCcu x).sp = s.sp := rfl
@[simp] theorem State.withCcu_cp (x : Channels) : (s.withCcu x).cp = s.cp := rfl
@[simp] theorem State.withCcu_sg (x : Channels) : (s.withCcu x).sg = s.sg := rfl
@[simp] theorem State.withCcu_ss (x : Channels) : (s.withCcu x).ss = s.ss := rfl
@[simp] theorem State.withCcu_mu (x : Channels) : (s.withCcu x).mu = s.mu := rfl
@[simp] theorem State.withCcu_self : s.withCcu s.ccu = s := rfl

/-! ### withOp -/

@[simp] theorem State.withOp_pending (x : Planner) : (s.withOp x).pending = s.pending := rfl
@[simp] theorem State.withOp_fr (x : Planner) : (s.withOp x).fr = s.fr := rfl
@[simp] theorem State.withOp_pt (x : Planner) : (s.withOp x).pt = s.pt := rfl
@[simp] theorem State.withOp_wm (x : Planner) : (s.withOp x).wm = s.wm := rfl
@[simp] theorem State.withOp_ccu (x : Planner) : (s.withOp x).ccu = s.ccu := rfl
@[simp] theorem State.withOp_op (x : Planner) : (s.withOp x).op = x := rfl
@[simp] theorem State.withOp_sc (x : Planner) : (s.withOp x).sc = s.sc := rfl
@[simp] theorem State.withOp_sp (x : Planner) : (s.withOp x).sp = s.sp := rfl
@[simp] theorem State.withOp_cp (x : Planner) : (s.withOp x).cp = s.cp := rfl
@[simp] theorem State.withOp_sg (x : Planner) : (s.withOp x).sg = s.sg := rfl
@[simp] theorem State.withOp_ss (x : Planner) : (s.withOp x).ss = s.ss := rfl
@[simp] theorem State.withOp_mu (x : Planner) : (s.withOp x).mu = s.mu := rfl
@[simp] theorem State.withOp_self : s.withOp s.op = s := rfl

/-! ### withSc -/

@[simp] theorem State.withSc_pending (x : List (Option Web)) : (s.withSc x).pending = s.pending := rfl
@[simp] theorem State.withSc_fr (x : List (Option Web)) : (s.withSc x).fr = s.fr := rfl
@[simp] theorem State.withSc_pt (x : List (Option Web)) : (s.withSc x).pt = s.pt := rfl
@[simp] theorem State.withSc_wm (x : List (Option Web)) : (s.withSc x).wm = s.wm := rfl
@[simp] theorem State.withSc_ccu (x : List (Option Web)) : (s.withSc x).ccu = s.ccu := rfl
@[simp] theorem State.withSc_op (x : List (Option Web)) : (s.withSc x).op = s.op := rfl
@[simp] theorem State.withSc_sc (x : List (Option Web)) : (s.withSc x).sc = x := rfl
@[simp] theorem State.withSc_sp (x : List (Option Web)) : (s.withSc x).sp = s.sp := rfl
@[simp] theorem State.withSc_cp (x : List (Option Web)) : (s.withSc x).cp = s.cp := rfl
@[simp] theorem State.withSc_sg (x : List (Option Web)) : (s.withSc x).sg = s.sg := rfl
@[simp] theorem State.withSc_ss (x : List (Option Web)) : (s.withSc x).ss = s.ss := rfl
@[simp] theorem State.withSc_mu (x : List (Option Web)) : (s.withSc x).mu = s.mu := rfl
@[simp] theorem State.withSc_self : s.withSc s.sc = s := rfl

/-! ### withSp -/

@[simp] theorem State.withSp_pending (x : SlitterPair) : (s.withSp x).pending = s.pending := rfl
@[simp] theorem State.withSp_fr (x : SlitterPair) : (s.withSp x).fr = s.fr := rfl
@[simp] theorem State.withSp_pt (x : SlitterPair) : (s.withSp x).pt = s.pt := rfl
@[simp] theorem State.withSp_wm (x : SlitterPair) : (s.withSp x).wm = s.wm := rfl
@[simp] theorem State.withSp_ccu (x : SlitterPair) : (s.withSp x).ccu = s.ccu := rfl
@[simp] theorem State.withSp_op (x : SlitterPair) : (s.withSp x).op = s.op := rfl
@[simp] theorem State.withSp_sc (x : SlitterPair) : (s.withSp x).sc = s.sc := rfl
@[simp] theorem State.withSp_sp (x : SlitterPair) : (s.withSp x).sp = x := rfl
@[simp] theorem State.withSp_cp (x : SlitterPair) : (s.withSp x).cp = s.cp := rfl
@[simp] theorem State.withSp_sg (x : SlitterPair) : (s.withSp x).sg = s.sg := rfl
@[simp] theorem State.withSp_ss (x : SlitterPair) : (s.withSp x).ss = s.ss := rfl
@[simp] theorem State.withSp_mu (x : SlitterPair) : (s.withSp x).mu = s.mu := rfl
@[simp] theorem State.withSp_self : s.withSp s.sp = s := rfl

/-! ### withCp -/

@[simp] theorem State.withCp_pending (x : CutPlanner) : (s.withCp x).pending = s.pending := rfl
@[simp] theorem State.withCp_fr (x : CutPlanner) : (s.withCp x).fr = s.fr := rfl
@[simp] theorem State.withCp_pt (x : CutPlanner) : (s.withCp x).pt = s.pt := rfl
@[simp] theorem State.withCp_wm (x : CutPlanner) : (s.withCp x).wm = s.wm := rfl
@[simp] theorem State.withCp_ccu (x : CutPlanner) : (s.withCp x).ccu = s.ccu := rfl
@[simp] theorem State.withCp_op (x : CutPlanner) : (s.withCp x).op = s.op := rfl
@[simp] theorem State.withCp_sc (x : CutPlanner) : (s.withCp x).sc = s.sc := rfl
@[simp] theorem State.withCp_sp (x : CutPlanner) : (s.withCp x).sp = s.sp := rfl
@[simp] theorem State.withCp_cp (x : CutPlanner) : (s.withCp x).cp = x := rfl
@[simp] theorem State.withCp_sg (x : CutPlanner) : (s.withCp x).sg = s.sg := rfl
@[simp] theorem State.withCp_ss (x : CutPlanner) : (s.withCp x).ss = s.ss := rfl
@[simp] theorem State.withCp_mu (x : CutPlanner) : (s.withCp x).mu = s.mu := rfl
@[simp] theorem State.withCp_self : s.withCp s.cp = s := rfl

/-! ### withSg -/

@[simp] theorem State.withSg_pending (x : StackGate) : (s.withSg x).pending = s.pending := rfl
@[simp] theorem State.withSg_fr (x : StackGate) : (s.withSg x).fr = s.fr := rfl
@[simp] theorem State.withSg_pt (x : StackGate) : (s.withSg x).pt = s.pt := rfl
@[simp] theorem State.withSg_wm (x : StackGate) : (s.withSg x).wm = s.wm := rfl
@[simp] theorem State.withSg_ccu (x : StackGate) : (s.withSg x).ccu = s.ccu := rfl
@[simp] theorem State.withSg_op (x : StackGate) : (s.withSg x).op = s.op := rfl
@[simp] theorem State.withSg_sc (x : StackGate) : (s.withSg x).sc = s.sc := rfl
@[simp] theorem State.withSg_sp (x : StackGate) : (s.withSg x).sp = s.sp := rfl
@[simp] theorem State.withSg_cp (x : StackGate) : (s.withSg x).cp = s.cp := rfl
@[simp] theorem State.withSg_sg (x : StackGate) : (s.withSg x).sg = x := rfl
@[simp] theorem State.withSg_ss (x : StackGate) : (s.withSg x).ss = s.ss := rfl
@[simp] theorem State.withSg_mu (x : StackGate) : (s.withSg x).mu = s.mu := rfl
@[simp] theorem State.withSg_self : s.withSg s.sg = s := rfl

/-! ### withSs -/

@[simp] theorem State.withSs_pending (x : Setpoints) : (s.withSs x).pending = s.pending := rfl
@[simp] theorem State.withSs_fr (x : Setpoints) : (s.withSs x).fr = s.fr := rfl
@[simp] theorem State.withSs_pt (x : Setpoints) : (s.withSs x).pt = s.pt := rfl
@[simp] theorem State.withSs_wm (x : Setpoints) : (s.withSs x).wm = s.wm := rfl
@[simp] theorem State.withSs_ccu (x : Setpoints) : (s.withSs x).ccu = s.ccu := rfl
@[simp] theorem State.withSs_op (x : Setpoints) : (s.withSs x).op = s.op := rfl
@[simp] theorem State.withSs_sc (x : Setpoints) : (s.withSs x).sc = s.sc := rfl
@[simp] theorem State.withSs_sp (x : Setpoints) : (s.withSs x).sp = s.sp := rfl
@[simp] theorem State.withSs_cp (x : Setpoints) : (s.withSs x).cp = s.cp := rfl
@[simp] theorem State.withSs_sg (x : Setpoints) : (s.withSs x).sg = s.sg := rfl
@[simp] theorem State.withSs_ss (x : Setpoints) : (s.withSs x).ss = x := rfl
@[simp] theorem State.withSs_mu (x : Setpoints) : (s.withSs x).mu = s.mu := rfl
@[simp] theorem State.withSs_self : s.withSs s.ss = s := rfl

/-! ### withMu -/

@[simp] theorem State.withMu_pending (x : Management) : (s.withMu x).pending = s.pending := rfl
@[simp] theorem State.withMu_fr (x : Management) : (s.withMu x).fr = s.fr := rfl
@[simp] theorem State.withMu_pt (x : Management) : (s.withMu x).pt = s.pt := rfl
@[simp] theorem State.withMu_wm (x : Management) : (s.withMu x).wm = s.wm := rfl
@[simp] theorem State.withMu_ccu (x : Management) : (s.withMu x).ccu = s.ccu := rfl
@[simp] theorem State.withMu_op (x : Management) : (s.withMu x).op = s.op := rfl
@[simp] theorem State.withMu_sc (x : Management) : (s.withMu x).sc = s.sc := rfl
@[simp] theorem State.withMu_sp (x : Management) : (s.withMu x).sp = s.sp := rfl
@[simp] theorem State.withMu_cp (x : Management) : (s.withMu x).cp = s.cp := rfl
@[simp] theorem State.withMu_sg (x : Management) : (s.withMu x).sg = s.sg := rfl
@[simp] theorem State.withMu_ss (x : Management) : (s.withMu x).ss = s.ss := rfl
@[simp] theorem State.withMu_mu (x : Management) : (s.withMu x).mu = x := rfl
@[simp] theorem State.withMu_self : s.withMu s.mu = s := rfl

/-! ### setSection -/

@[simp] theorem State.setSection_pending (i : Nat) (x : Option Section) : (s.setSection i x).pending = s.pending := rfl
@[simp] theorem State.setSection_fr (i : Nat) (x : Option Section) : (s.setSection i x).fr = s.fr := rfl
@[simp] theorem State.setSection_wm (i : Nat) (x : Option Section) : (s.setSection i x).wm = s.wm := rfl
@[simp] theorem State.setSection_ccu (i : Nat) (x : Option Section) : (s.setSection i x).ccu = s.ccu := rfl
@[simp] theorem State.setSection_op (i : Nat) (x : Option Section) : (s.setSection i x).op = s.op := rfl
@[simp] theorem State.setSection_sc (i : Nat) (x : Option Section) : (s.setSection i x).sc = s.sc := rfl
@[simp] theorem State.setSection_sp (i : Nat) (x : Option Section) : (s.setSection i x).sp = s.sp := rfl
@[simp] theorem State.setSection_cp (i : Nat) (x : Option Section) : (s.setSection i x).cp = s.cp := rfl
@[simp] theorem State.setSection_sg (i : Nat) (x : Option Section) : (s.setSection i x).sg = s.sg := rfl
@[simp] theorem State.setSection_ss (i : Nat) (x : Option Section) : (s.setSection i x).ss = s.ss := rfl
@[simp] theorem State.setSection_mu (i : Nat) (x : Option Section) : (s.setSection i x).mu = s.mu := rfl

/-! ### adjustTrack -/

@[simp] theorem State.adjustTrack_pending (i : Nat) (f : TrackState → TrackState) : (s.adjustTrack i f).pending = s.pending := rfl
@[simp] theorem State.adjustTrack_fr (i : Nat) (f : TrackState → TrackState) : (s.adjustTrack i f).fr = s.fr := rfl
@[simp] theorem State.adjustTrack_wm (i : Nat) (f : TrackState → TrackState) : (s.adjustTrack i f).wm = s.wm := rfl
@[simp] theorem State.adjustTrack_ccu (i : Nat) (f : TrackState → TrackState) : (s.adjustTrack i f).ccu = s.ccu := rfl
@[simp] theorem State.adjustTrack_op (i : Nat) (f : TrackState → TrackState) : (s.adjustTrack i f).op = s.op := rfl
@[simp] theorem State.adjustTrack_sc (i : Nat) (f : TrackState → TrackState) : (s.adjustTrack i f).sc = s.sc := rfl
@[simp] theorem State.adjustTrack_sp (i : Nat) (f : TrackState → TrackState) : (s.adjustTrack i f).sp = s.sp := rfl
@[simp] theorem State.adjustTrack_cp (i : Nat) (f : TrackState → TrackState) : (s.adjustTrack i f).cp = s.cp := rfl
@[simp] theorem State.adjustTrack_sg (i : Nat) (f : TrackState → TrackState) : (s.adjustTrack i f).sg = s.sg := rfl
@[simp] theorem State.adjustTrack_ss (i : Nat) (f : TrackState → TrackState) : (s.adjustTrack i f).ss = s.ss := rfl
@[simp] theorem State.adjustTrack_mu (i : Nat) (f : TrackState → TrackState) : (s.adjustTrack i f).mu = s.mu := rfl

/-! ### setLink -/

@[simp] theorem State.setLink_pending (i : Nat) (x : Option Link) : (s.setLink i x).pending = s.pending := rfl
@[simp] theorem State.setLink_fr (i : Nat) (x : Option Link) : (s.setLink i x).fr = s.fr := rfl
@[simp] theorem State.setLink_wm (i : Nat) (x : Option Link) : (s.setLink i x).wm = s.wm := rfl
@[simp] theorem State.setLink_ccu (i : Nat) (x : Option Link) : (s.setLink i x).ccu = s.ccu := rfl
@[simp] theorem State.setLink_op (i : Nat) (x : Option Link) : (s.setLink i x).op = s.op := rfl
@[simp] theorem State.setLink_sc (i : Nat) (x : Option Link) : (s.setLink i x).sc = s.sc := rfl
@[simp] theorem State.setLink_sp (i : Nat) (x : Option Link) : (s.setLink i x).sp = s.sp := rfl
@[simp] theorem State.setLink_cp (i : Nat) (x : Option Link) : (s.setLink i x).cp = s.cp := rfl
@[simp] theorem State.setLink_sg (i : Nat) (x : Option Link) : (s.setLink i x).sg = s.sg := rfl
@[simp] theorem State.setLink_ss (i : Nat) (x : Option Link) : (s.setLink i x).ss = s.ss := rfl
@[simp] theorem State.setLink_mu (i : Nat) (x : Option Link) : (s.setLink i x).mu = s.mu := rfl

/-! ### adjustLink -/

@[simp] theorem State.adjustLink_pending (i : Nat) (f : Link → Link) : (s.adjustLink i f).pending = s.pending := rfl
@[simp] theorem State.adjustLink_fr (i : Nat) (f : Link → Link) : (s.adjustLink i f).fr = s.fr := rfl
@[simp] theorem State.adjustLink_wm (i : Nat) (f : Link → Link) : (s.adjustLink i f).wm = s.wm := rfl
@[simp] theorem State.adjustLink_ccu (i : Nat) (f : Link → Link) : (s.adjustLink i f).ccu = s.ccu := rfl
@[simp] theorem State.adjustLink_op (i : Nat) (f : Link → Link) : (s.adjustLink i f).op = s.op := rfl
@[simp] theorem State.adjustLink_sc (i : Nat) (f : Link → Link) : (s.adjustLink i f).sc = s.sc := rfl
@[simp] theorem State.adjustLink_sp (i : Nat) (f : Link → Link) : (s.adjustLink i f).sp = s.sp := rfl
@[simp] theorem State.adjustLink_cp (i : Nat) (f : Link → Link) : (s.adjustLink i f).cp = s.cp := rfl
@[simp] theorem State.adjustLink_sg (i : Nat) (f : Link → Link) : (s.adjustLink i f).sg = s.sg := rfl
@[simp] theorem State.adjustLink_ss (i : Nat) (f : Link → Link) : (s.adjustLink i f).ss = s.ss := rfl
@[simp] theorem State.adjustLink_mu (i : Nat) (f : Link → Link) : (s.adjustLink i f).mu = s.mu := rfl

/-! ### adjustSlot -/

@[simp] theorem State.adjustSlot_pending (i : Nat) (f : WatchEntry → WatchEntry) : (s.adjustSlot i f).pending = s.pending := rfl
@[simp] theorem State.adjustSlot_pt (i : Nat) (f : WatchEntry → WatchEntry) : (s.adjustSlot i f).pt = s.pt := rfl
@[simp] theorem State.adjustSlot_wm (i : Nat) (f : WatchEntry → WatchEntry) : (s.adjustSlot i f).wm = s.wm := rfl
@[simp] theorem State.adjustSlot_ccu (i : Nat) (f : WatchEntry → WatchEntry) : (s.adjustSlot i f).ccu = s.ccu := rfl
@[simp] theorem State.adjustSlot_op (i : Nat) (f : WatchEntry → WatchEntry) : (s.adjustSlot i f).op = s.op := rfl
@[simp] theorem State.adjustSlot_sc (i : Nat) (f : WatchEntry → WatchEntry) : (s.adjustSlot i f).sc = s.sc := rfl
@[simp] theorem State.adjustSlot_sp (i : Nat) (f : WatchEntry → WatchEntry) : (s.adjustSlot i f).sp = s.sp := rfl
@[simp] theorem State.adjustSlot_cp (i : Nat) (f : WatchEntry → WatchEntry) : (s.adjustSlot i f).cp = s.cp := rfl
@[simp] theorem State.adjustSlot_sg (i : Nat) (f : WatchEntry → WatchEntry) : (s.adjustSlot i f).sg = s.sg := rfl
@[simp] theorem State.adjustSlot_ss (i : Nat) (f : WatchEntry → WatchEntry) : (s.adjustSlot i f).ss = s.ss := rfl
@[simp] theorem State.adjustSlot_mu (i : Nat) (f : WatchEntry → WatchEntry) : (s.adjustSlot i f).mu = s.mu := rfl

/-! ### adjustHealth -/

@[simp] theorem State.adjustHealth_pending (i : Nat) (f : Health → Health) : (s.adjustHealth i f).pending = s.pending := by unfold State.adjustHealth; split <;> rfl
@[simp] theorem State.adjustHealth_pt (i : Nat) (f : Health → Health) : (s.adjustHealth i f).pt = s.pt := by unfold State.adjustHealth; split <;> rfl
@[simp] theorem State.adjustHealth_wm (i : Nat) (f : Health → Health) : (s.adjustHealth i f).wm = s.wm := by unfold State.adjustHealth; split <;> rfl
@[simp] theorem State.adjustHealth_ccu (i : Nat) (f : Health → Health) : (s.adjustHealth i f).ccu = s.ccu := by unfold State.adjustHealth; split <;> rfl
@[simp] theorem State.adjustHealth_op (i : Nat) (f : Health → Health) : (s.adjustHealth i f).op = s.op := by unfold State.adjustHealth; split <;> rfl
@[simp] theorem State.adjustHealth_sc (i : Nat) (f : Health → Health) : (s.adjustHealth i f).sc = s.sc := by unfold State.adjustHealth; split <;> rfl
@[simp] theorem State.adjustHealth_sp (i : Nat) (f : Health → Health) : (s.adjustHealth i f).sp = s.sp := by unfold State.adjustHealth; split <;> rfl
@[simp] theorem State.adjustHealth_cp (i : Nat) (f : Health → Health) : (s.adjustHealth i f).cp = s.cp := by unfold State.adjustHealth; split <;> rfl
@[simp] theorem State.adjustHealth_sg (i : Nat) (f : Health → Health) : (s.adjustHealth i f).sg = s.sg := by unfold State.adjustHealth; split <;> rfl
@[simp] theorem State.adjustHealth_ss (i : Nat) (f : Health → Health) : (s.adjustHealth i f).ss = s.ss := by unfold State.adjustHealth; split <;> rfl
@[simp] theorem State.adjustHealth_mu (i : Nat) (f : Health → Health) : (s.adjustHealth i f).mu = s.mu := by unfold State.adjustHealth; split <;> rfl

/-! ### adjustMap -/

@[simp] theorem State.adjustMap_pending (i : Nat) (f : SectionMap → SectionMap) : (s.adjustMap i f).pending = s.pending := rfl
@[simp] theorem State.adjustMap_fr (i : Nat) (f : SectionMap → SectionMap) : (s.adjustMap i f).fr = s.fr := rfl
@[simp] theorem State.adjustMap_pt (i : Nat) (f : SectionMap → SectionMap) : (s.adjustMap i f).pt = s.pt := rfl
@[simp] theorem State.adjustMap_ccu (i : Nat) (f : SectionMap → SectionMap) : (s.adjustMap i f).ccu = s.ccu := rfl
@[simp] theorem State.adjustMap_op (i : Nat) (f : SectionMap → SectionMap) : (s.adjustMap i f).op = s.op := rfl
@[simp] theorem State.adjustMap_sc (i : Nat) (f : SectionMap → SectionMap) : (s.adjustMap i f).sc = s.sc := rfl
@[simp] theorem State.adjustMap_sp (i : Nat) (f : SectionMap → SectionMap) : (s.adjustMap i f).sp = s.sp := rfl
@[simp] theorem State.adjustMap_cp (i : Nat) (f : SectionMap → SectionMap) : (s.adjustMap i f).cp = s.cp := rfl
@[simp] theorem State.adjustMap_sg (i : Nat) (f : SectionMap → SectionMap) : (s.adjustMap i f).sg = s.sg := rfl
@[simp] theorem State.adjustMap_ss (i : Nat) (f : SectionMap → SectionMap) : (s.adjustMap i f).ss = s.ss := rfl
@[simp] theorem State.adjustMap_mu (i : Nat) (f : SectionMap → SectionMap) : (s.adjustMap i f).mu = s.mu := rfl

/-! ### adjustChannel -/

@[simp] theorem State.adjustChannel_pending (i : Nat) (f : Channel → Channel) : (s.adjustChannel i f).pending = s.pending := by unfold State.adjustChannel; split <;> rfl
@[simp] theorem State.adjustChannel_fr (i : Nat) (f : Channel → Channel) : (s.adjustChannel i f).fr = s.fr := by unfold State.adjustChannel; split <;> rfl
@[simp] theorem State.adjustChannel_pt (i : Nat) (f : Channel → Channel) : (s.adjustChannel i f).pt = s.pt := by unfold State.adjustChannel; split <;> rfl
@[simp] theorem State.adjustChannel_wm (i : Nat) (f : Channel → Channel) : (s.adjustChannel i f).wm = s.wm := by unfold State.adjustChannel; split <;> rfl
@[simp] theorem State.adjustChannel_op (i : Nat) (f : Channel → Channel) : (s.adjustChannel i f).op = s.op := by unfold State.adjustChannel; split <;> rfl
@[simp] theorem State.adjustChannel_sc (i : Nat) (f : Channel → Channel) : (s.adjustChannel i f).sc = s.sc := by unfold State.adjustChannel; split <;> rfl
@[simp] theorem State.adjustChannel_sp (i : Nat) (f : Channel → Channel) : (s.adjustChannel i f).sp = s.sp := by unfold State.adjustChannel; split <;> rfl
@[simp] theorem State.adjustChannel_cp (i : Nat) (f : Channel → Channel) : (s.adjustChannel i f).cp = s.cp := by unfold State.adjustChannel; split <;> rfl
@[simp] theorem State.adjustChannel_sg (i : Nat) (f : Channel → Channel) : (s.adjustChannel i f).sg = s.sg := by unfold State.adjustChannel; split <;> rfl
@[simp] theorem State.adjustChannel_ss (i : Nat) (f : Channel → Channel) : (s.adjustChannel i f).ss = s.ss := by unfold State.adjustChannel; split <;> rfl
@[simp] theorem State.adjustChannel_mu (i : Nat) (f : Channel → Channel) : (s.adjustChannel i f).mu = s.mu := by unfold State.adjustChannel; split <;> rfl

/-! ### adjustWeb -/

@[simp] theorem State.adjustWeb_pending (i : Nat) (f : WebState → WebState) : (s.adjustWeb i f).pending = s.pending := rfl
@[simp] theorem State.adjustWeb_fr (i : Nat) (f : WebState → WebState) : (s.adjustWeb i f).fr = s.fr := rfl
@[simp] theorem State.adjustWeb_pt (i : Nat) (f : WebState → WebState) : (s.adjustWeb i f).pt = s.pt := rfl
@[simp] theorem State.adjustWeb_wm (i : Nat) (f : WebState → WebState) : (s.adjustWeb i f).wm = s.wm := rfl
@[simp] theorem State.adjustWeb_ccu (i : Nat) (f : WebState → WebState) : (s.adjustWeb i f).ccu = s.ccu := rfl
@[simp] theorem State.adjustWeb_op (i : Nat) (f : WebState → WebState) : (s.adjustWeb i f).op = s.op := rfl
@[simp] theorem State.adjustWeb_sp (i : Nat) (f : WebState → WebState) : (s.adjustWeb i f).sp = s.sp := rfl
@[simp] theorem State.adjustWeb_cp (i : Nat) (f : WebState → WebState) : (s.adjustWeb i f).cp = s.cp := rfl
@[simp] theorem State.adjustWeb_sg (i : Nat) (f : WebState → WebState) : (s.adjustWeb i f).sg = s.sg := rfl
@[simp] theorem State.adjustWeb_ss (i : Nat) (f : WebState → WebState) : (s.adjustWeb i f).ss = s.ss := rfl
@[simp] theorem State.adjustWeb_mu (i : Nat) (f : WebState → WebState) : (s.adjustWeb i f).mu = s.mu := rfl

/-! ### adjustStation -/

@[simp] theorem State.adjustStation_pending (i : Nat) (f : Slitter → Slitter) : (s.adjustStation i f).pending = s.pending := rfl
@[simp] theorem State.adjustStation_fr (i : Nat) (f : Slitter → Slitter) : (s.adjustStation i f).fr = s.fr := rfl
@[simp] theorem State.adjustStation_pt (i : Nat) (f : Slitter → Slitter) : (s.adjustStation i f).pt = s.pt := rfl
@[simp] theorem State.adjustStation_wm (i : Nat) (f : Slitter → Slitter) : (s.adjustStation i f).wm = s.wm := rfl
@[simp] theorem State.adjustStation_ccu (i : Nat) (f : Slitter → Slitter) : (s.adjustStation i f).ccu = s.ccu := rfl
@[simp] theorem State.adjustStation_op (i : Nat) (f : Slitter → Slitter) : (s.adjustStation i f).op = s.op := rfl
@[simp] theorem State.adjustStation_sc (i : Nat) (f : Slitter → Slitter) : (s.adjustStation i f).sc = s.sc := rfl
@[simp] theorem State.adjustStation_cp (i : Nat) (f : Slitter → Slitter) : (s.adjustStation i f).cp = s.cp := rfl
@[simp] theorem State.adjustStation_sg (i : Nat) (f : Slitter → Slitter) : (s.adjustStation i f).sg = s.sg := rfl
@[simp] theorem State.adjustStation_ss (i : Nat) (f : Slitter → Slitter) : (s.adjustStation i f).ss = s.ss := rfl
@[simp] theorem State.adjustStation_mu (i : Nat) (f : Slitter → Slitter) : (s.adjustStation i f).mu = s.mu := rfl

/-! ### adjustGen -/

@[simp] theorem State.adjustGen_pending (i : Nat) (f : GenState → GenState) : (s.adjustGen i f).pending = s.pending := rfl
@[simp] theorem State.adjustGen_fr (i : Nat) (f : GenState → GenState) : (s.adjustGen i f).fr = s.fr := rfl
@[simp] theorem State.adjustGen_pt (i : Nat) (f : GenState → GenState) : (s.adjustGen i f).pt = s.pt := rfl
@[simp] theorem State.adjustGen_wm (i : Nat) (f : GenState → GenState) : (s.adjustGen i f).wm = s.wm := rfl
@[simp] theorem State.adjustGen_ccu (i : Nat) (f : GenState → GenState) : (s.adjustGen i f).ccu = s.ccu := rfl
@[simp] theorem State.adjustGen_op (i : Nat) (f : GenState → GenState) : (s.adjustGen i f).op = s.op := rfl
@[simp] theorem State.adjustGen_sc (i : Nat) (f : GenState → GenState) : (s.adjustGen i f).sc = s.sc := rfl
@[simp] theorem State.adjustGen_sp (i : Nat) (f : GenState → GenState) : (s.adjustGen i f).sp = s.sp := rfl
@[simp] theorem State.adjustGen_cp (i : Nat) (f : GenState → GenState) : (s.adjustGen i f).cp = s.cp := rfl
@[simp] theorem State.adjustGen_sg (i : Nat) (f : GenState → GenState) : (s.adjustGen i f).sg = s.sg := rfl
@[simp] theorem State.adjustGen_mu (i : Nat) (f : GenState → GenState) : (s.adjustGen i f).mu = s.mu := rfl

/-! ### adjustOrder -/

@[simp] theorem State.adjustOrder_pending (k : OrderKey) (f : Order → Order) : (s.adjustOrder k f).pending = s.pending := rfl
@[simp] theorem State.adjustOrder_fr (k : OrderKey) (f : Order → Order) : (s.adjustOrder k f).fr = s.fr := rfl
@[simp] theorem State.adjustOrder_pt (k : OrderKey) (f : Order → Order) : (s.adjustOrder k f).pt = s.pt := rfl
@[simp] theorem State.adjustOrder_wm (k : OrderKey) (f : Order → Order) : (s.adjustOrder k f).wm = s.wm := rfl
@[simp] theorem State.adjustOrder_ccu (k : OrderKey) (f : Order → Order) : (s.adjustOrder k f).ccu = s.ccu := rfl
@[simp] theorem State.adjustOrder_sc (k : OrderKey) (f : Order → Order) : (s.adjustOrder k f).sc = s.sc := rfl
@[simp] theorem State.adjustOrder_sp (k : OrderKey) (f : Order → Order) : (s.adjustOrder k f).sp = s.sp := rfl
@[simp] theorem State.adjustOrder_cp (k : OrderKey) (f : Order → Order) : (s.adjustOrder k f).cp = s.cp := rfl
@[simp] theorem State.adjustOrder_sg (k : OrderKey) (f : Order → Order) : (s.adjustOrder k f).sg = s.sg := rfl
@[simp] theorem State.adjustOrder_ss (k : OrderKey) (f : Order → Order) : (s.adjustOrder k f).ss = s.ss := rfl
@[simp] theorem State.adjustOrder_mu (k : OrderKey) (f : Order → Order) : (s.adjustOrder k f).mu = s.mu := rfl

/-! ### Raising an event (R173) -/

variable (k : EventKind) (a b c : Word)

@[simp] theorem raise_pending : (raise k a b c s).pending = s.pending := by unfold raise; split <;> rfl
@[simp] theorem raise_fr : (raise k a b c s).fr = s.fr := by unfold raise; split <;> rfl
@[simp] theorem raise_pt : (raise k a b c s).pt = s.pt := by unfold raise; split <;> rfl
@[simp] theorem raise_wm : (raise k a b c s).wm = s.wm := by unfold raise; split <;> rfl
@[simp] theorem raise_ccu : (raise k a b c s).ccu = s.ccu := by unfold raise; split <;> rfl
@[simp] theorem raise_op : (raise k a b c s).op = s.op := by unfold raise; split <;> rfl
@[simp] theorem raise_sc : (raise k a b c s).sc = s.sc := by unfold raise; split <;> rfl
@[simp] theorem raise_sp : (raise k a b c s).sp = s.sp := by unfold raise; split <;> rfl
@[simp] theorem raise_cp : (raise k a b c s).cp = s.cp := by unfold raise; split <;> rfl
@[simp] theorem raise_sg : (raise k a b c s).sg = s.sg := by unfold raise; split <;> rfl
@[simp] theorem raise_ss : (raise k a b c s).ss = s.ss := by unfold raise; split <;> rfl
@[simp] theorem raise_mu_mode : (raise k a b c s).mu.mode = s.mu.mode := by unfold raise; split <;> rfl
@[simp] theorem raise_mu_replies : (raise k a b c s).mu.replies = s.mu.replies := by unfold raise; split <;> rfl
@[simp] theorem raise_mu_replyLost : (raise k a b c s).mu.replyLost = s.mu.replyLost := by unfold raise; split <;> rfl

end Sys2Proof.Machine
end

