-- ==== Sys2Proof/Laws/Kept.lean ====
section
/-! SUPPORT. Laws/Kept.lean: what no reaction of a block changes: the queue of commands, the written tables, the
mode, the replies, and that the event queue is within its bound. One lemma per operation, as an equation, so that
`simp` chains them. -/

namespace Sys2Proof.Machine

/-- What a reaction keeps. -/
structure Kept where
  pending : List Instr
  tables : Tables
  mode : Mode
  replies : List Reply
  replyLost : Bool
  eventsFit : Bool

def State.kept (s : State) : Kept :=
  ⟨s.pending, s.tables, s.mu.mode, s.mu.replies, s.mu.replyLost, s.mu.events.length.ble Config.eventCapacity⟩

/-! ### Blocks replaced -/

section
variable (s : State)

@[simp] theorem kept_withFr {x : FieldRelay} (h : x.setup = s.fr.setup) : (s.withFr x).kept = s.kept := by
  simp [State.kept, State.tables, h]
@[simp] theorem kept_withPt {x : PathTracker} (h : x.setup = s.pt.setup) : (s.withPt x).kept = s.kept := by
  simp [State.kept, State.tables, h]
@[simp] theorem kept_withWm (x : WebMap) : (s.withWm x).kept = s.kept := by simp [State.kept, State.tables]
@[simp] theorem kept_withCcu {x : Channels} (h : x.records.map Channel.setup = s.ccu.records.map Channel.setup) :
    (s.withCcu x).kept = s.kept := by simp [State.kept, State.tables, h]
@[simp] theorem kept_withOp {x : Planner} (h : x.setup = s.op.setup) : (s.withOp x).kept = s.kept := by
  simp [State.kept, State.tables, h]
@[simp] theorem kept_withSc {x : List (Option Web)} (h : x.map (Option.map (·.cfg)) = s.sc.map (Option.map (·.cfg))) :
    (s.withSc x).kept = s.kept := by simp [State.kept, State.tables, h]
@[simp] theorem kept_withSp {x : SlitterPair} (h : x.setup = s.sp.setup) : (s.withSp x).kept = s.kept := by
  simp [State.kept, State.tables, h]
@[simp] theorem kept_withCp {x : CutPlanner} (h : x.setup = s.cp.setup) : (s.withCp x).kept = s.kept := by
  simp [State.kept, State.tables, h]
@[simp] theorem kept_withSg {x : StackGate} (h : x.setup = s.sg.setup) : (s.withSg x).kept = s.kept := by
  simp [State.kept, State.tables, h]
@[simp] theorem kept_withSs {x : Setpoints} (h : x.setup = s.ss.setup) : (s.withSs x).kept = s.kept := by
  simp [State.kept, State.tables, h]

/-! ### One record changed -/

theorem map_adjust {α β : Type} (l : List (Option α)) (i : Nat) (f : α → α) (g : α → β) (h : ∀ a, g (f a) = g a) :
    (adjust l i f).map (Option.map g) = l.map (Option.map g) := by
  unfold adjust lookup
  split
  · next a ha =>
    rw [List.map_set]
    apply List.ext_getElem (by simp)
    intro j h1 h2
    rw [List.getElem_set]
    split
    · next hij =>
      subst hij
      have hj : l[i]? = some (some a) := by
        cases hl : l[i]? with
        | none => simp [hl] at ha
        | some b => simp [hl] at ha; rw [ha]
      have := List.getElem_eq_iff (by simpa using h2) |>.mpr hj
      simp [this, h]
    · rfl
  · rfl

theorem map_set_getElem {α β : Type} (l : List α) (i : Nat) (a b : α) (g : α → β) (ha : l[i]? = some a)
    (h : g b = g a) : (l.set i b).map g = l.map g := by
  rw [List.map_set]
  apply List.ext_getElem (by simp)
  intro j h1 h2
  rw [List.getElem_set]
  split
  · next hij =>
    subst hij
    have := List.getElem_eq_iff (by simpa using h2) |>.mpr ha
    simp [this, h]
  · rfl

@[simp] theorem kept_adjustTrack (i : Nat) (f : TrackState → TrackState) : (s.adjustTrack i f).kept = s.kept :=
  kept_withPt s (by simp only [PathTracker.setup]; rw [map_adjust]; intro; rfl)

@[simp] theorem kept_adjustLink (i : Nat) (f : Link → Link) (h : (fun l => (f l).unanchor) = Link.unanchor) :
    (s.adjustLink i f).kept = s.kept :=
  kept_withPt s (by simp only [PathTracker.setup]; rw [map_adjust _ _ f _ (congrFun h)])

@[simp] theorem kept_adjustSlot (i : Nat) (f : WatchEntry → WatchEntry) (h : (fun w => (f w).setup) = WatchEntry.setup) :
    (s.adjustSlot i f).kept = s.kept :=
  kept_withFr s (by simp only [FieldRelay.setup]; rw [map_adjust _ _ f _ (congrFun h)])

@[simp] theorem kept_adjustHealth (i : Nat) (f : Health → Health) (h : (fun x => (f x).threshold) = Health.threshold) :
    (s.adjustHealth i f).kept = s.kept := by
  unfold State.adjustHealth
  split
  · next x hx => exact kept_withFr s (by simp only [FieldRelay.setup]; rw [map_set_getElem _ _ _ _ _ hx (congrFun h x)])
  · rfl

@[simp] theorem kept_adjustMap (i : Nat) (f : SectionMap → SectionMap) : (s.adjustMap i f).kept = s.kept :=
  kept_withWm ..

@[simp] theorem kept_adjustChannel (i : Nat) (f : Channel → Channel) (h : (fun c => (f c).setup) = Channel.setup) :
    (s.adjustChannel i f).kept = s.kept := by
  unfold State.adjustChannel
  split
  · next x hx => exact kept_withCcu s (map_set_getElem _ _ _ _ _ hx (congrFun h x))
  · rfl

@[simp] theorem kept_adjustWeb (i : Nat) (f : WebState → WebState) : (s.adjustWeb i f).kept = s.kept :=
  kept_withSc s (map_adjust _ _ _ _ fun _ => rfl)

@[simp] theorem kept_adjustStation (i : Nat) (f : Slitter → Slitter) (h : (fun x => (f x).cfg) = Slitter.cfg) :
    (s.adjustStation i f).kept = s.kept :=
  kept_withSp s (by simp only [SlitterPair.setup]; rw [map_adjust _ _ f _ (congrFun h)])

@[simp] theorem kept_adjustGen (i : Nat) (f : GenState → GenState) : (s.adjustGen i f).kept = s.kept :=
  kept_withSs s (by simp only [Setpoints.setup]; rw [map_adjust]; intro; rfl)

@[simp] theorem kept_adjustOrder (k : OrderKey) (f : Order → Order) : (s.adjustOrder k f).kept = s.kept :=
  kept_withOp s rfl

@[simp] theorem kept_adjustSwap (f : Swap → Swap) : (s.adjustSwap f).kept = s.kept := kept_withSp s rfl

/-- R173: an event is appended only below 32. -/
@[simp] theorem kept_raise (k : EventKind) (a b c : Word) : (raise k a b c s).kept = s.kept := by
  unfold raise
  split
  · next h =>
    have : (s.mu.events.length + 1).ble Config.eventCapacity = s.mu.events.length.ble Config.eventCapacity := by
      rw [Bool.eq_iff_iff, Nat.ble_eq, Nat.ble_eq]; omega
    simp [State.kept, State.tables, this]
  · simp [State.kept, State.tables]

@[simp] theorem kept_raiseNoValue (k : EventKind) (a b : Word) : (raiseNoValue k a b s).kept = s.kept :=
  kept_raise ..

@[simp] theorem kept_raiseNoPosition (k : EventKind) (a c : Word) : (raiseNoPosition k a c s).kept = s.kept :=
  kept_raise ..

@[simp] theorem kept_raiseSubject (k : EventKind) (a : Word) : (raiseSubject k a s).kept = s.kept := kept_raise ..

end

/-! ### Repetition -/

theorem kept_foldl {α : Type} (g : State → α → State) (h : ∀ s a, (g s a).kept = s.kept) (l : List α) (s : State) :
    (l.foldl g s).kept = s.kept := by
  induction l generalizing s with
  | nil => rfl
  | cons a l ih => rw [List.foldl_cons, ih, h]

theorem kept_foldl_fst {α β : Type} (g : State × β → α → State × β) (h : ∀ p a, (g p a).1.kept = p.1.kept)
    (l : List α) (p : State × β) : (l.foldl g p).1.kept = p.1.kept := by
  induction l generalizing p with
  | nil => rfl
  | cons a l ih => rw [List.foldl_cons, ih, h]

/-! ### Carries (R14, R15) -/

@[simp] theorem kept_carryOver (link : Nat) (p : Word) (s : State) : (carryOver link p s).1.kept = s.kept := by
  unfold carryOver
  repeat' first | rfl | split | simp

@[simp] theorem kept_inverseOver (link : Nat) (q : Word) (s : State) : (inverseOver link q s).1.kept = s.kept := by
  unfold inverseOver
  repeat' first | rfl | split | simp

@[simp] theorem kept_inverseChain (links : List Nat) (q : Word) (s : State) :
    (inverseChain links q s).1.kept = s.kept :=
  kept_foldl_fst _ (fun p a => by split <;> simp) _ _

/-- Reading the mode through what is kept. -/
theorem State.kept_running {s t : State} (h : t.kept = s.kept) : t.running = s.running := by
  have : t.mu.mode = s.mu.mode := congrArg Kept.mode h
  simp [State.running, this]

end Sys2Proof.Machine
end

