-- ==== Sys2Proof/Laws/KeptMap.lean ====
section
/-! SUPPORT. Laws/KeptMap.lean: the operations of the Web Map keep what Laws/Kept.lean names. -/

namespace Sys2Proof.Machine

@[simp] theorem kept_listMark (m : Mark) (s : State) :
    (listMark m s).kept = s.kept := by
  simp [listMark]

@[simp] theorem kept_unlistMark (sec slot : Nat) (s : State) :
    (unlistMark sec slot s).kept = s.kept := by
  simp [unlistMark]

@[simp] theorem kept_replaceMark (m : Mark) (s : State) :
    (replaceMark m s).kept = s.kept := by
  simp [replaceMark]

@[simp] theorem kept_noteChange (sec : Nat) (sp : Span) (s : State) :
    (noteChange sec sp s).kept = s.kept := by
  unfold noteChange
  (repeat' split) <;> simp

@[simp] theorem kept_mergeInto (old new : Mark) (s : State) :
    (mergeInto old new s).kept = s.kept := by
  simp [mergeInto]

@[simp] theorem kept_enterMark (m : Mark) (s : State) :
    (enterMark m s).kept = s.kept := by
  simp [enterMark]

@[simp] theorem kept_createMark (q : CreateRequest) (s : State) :
    (createMark q s).1.kept = s.kept := by
  unfold createMark
  (repeat' split) <;> simp

@[simp] theorem kept_placeMark (q : CreateRequest) (s : State) :
    (placeMark q s).kept = s.kept := by
  simp [placeMark]

@[simp] theorem kept_createBoundary (sec : Nat) (pos : Word) (order : Option OrderKey) (change : Bool) (s : State) :
    (createBoundary sec pos order change s).1.kept = s.kept := by
  unfold createBoundary
  (repeat' split) <;> simp

@[simp] theorem kept_carryMove (links : List Nat) (p : Word) (s : State) :
    (carryMove links p s).1.kept = s.kept := by
  unfold carryMove
  rw [kept_foldl_fst]
  intro p a
  dsimp only
  split <;> simp

@[simp] theorem kept_moveMark (slot serial sec : Nat) (pos : Word) (conf : Confirmation) (s : State) :
    (moveMark slot serial sec pos conf s).1.kept = s.kept := by
  unfold moveMark
  (repeat' split) <;> simp

@[simp] theorem kept_narrowMark (slot serial widening : Nat) (s : State) :
    (narrowMark slot serial widening s).1.kept = s.kept := by
  unfold narrowMark
  (repeat' split) <;> simp

@[simp] theorem kept_deleteMark (slot serial : Nat) (s : State) :
    (deleteMark slot serial s).1.kept = s.kept := by
  unfold deleteMark
  (repeat' split) <;> simp

@[simp] theorem kept_carryHeads (link d fuel : Nat) (s : State) : (carryHeads link d fuel s).kept = s.kept := by
  induction fuel generalizing s with
  | zero => rfl
  | succ n ih =>
    unfold carryHeads
    dsimp only
    (repeat' split) <;> simp [ih]

@[simp] theorem kept_carryInto (d : Nat) (s : State) :
    (carryInto d s).kept = s.kept := by
  unfold carryInto
  apply kept_foldl
  intro s a
  (repeat' split) <;> simp

@[simp] theorem kept_jointMisses (sec : Nat) (s : State) :
    (jointMisses sec s).kept = s.kept := by
  unfold jointMisses
  split
  · rfl
  · dsimp only
    rw [kept_foldl]
    intro s a
    split
    · rw [kept_foldl]
      intro s m
      split <;> simp
    · rfl

@[simp] theorem kept_markSeen (sec : Nat) (s : State) :
    (markSeen sec s).kept = s.kept := by
  simp [markSeen]

@[simp] theorem kept_retireMarks (s : State) :
    (retireMarks s).kept = s.kept := by
  unfold retireMarks
  (repeat' split) <;> simp

@[simp] theorem kept_correctLink (sec link slot : Nat) (c : Int) (x : Int) (s : State) :
    (correctLink sec link slot c x s).kept = s.kept := by
  unfold correctLink
  dsimp only
  rw [kept_foldl]
  · exact kept_adjustLink _ _ _ (funext fun _ => rfl)
  · simp

@[simp] theorem kept_matchedJoint (sec point : Nat) (x : Int) (pj : Word) (m : Mark) (s : State) :
    (matchedJoint sec point x pj m s).kept = s.kept := by
  unfold matchedJoint
  dsimp only
  (repeat' split) <;> simp

@[simp] theorem kept_jointDetection (sec point : Nat) (x : Int) (window lead trail news : Nat) (pj : Word) (s : State) :
    (jointDetection sec point x window lead trail news pj s).kept = s.kept := by
  unfold jointDetection
  (repeat' split) <;> simp

@[simp] theorem kept_jointArrival (sec point : Nat) (p : Point) (slot : Nat) (s : State) :
    (jointArrival sec point p slot s).kept = s.kept := by
  unfold jointArrival
  dsimp only
  (repeat' split) <;> simp

@[simp] theorem kept_mapArrival (slot : Nat) (s : State) :
    (mapArrival slot s).kept = s.kept := by
  unfold mapArrival
  apply kept_foldl
  intro s a
  split
  · rfl
  · apply kept_foldl
    intro s a
    (repeat' split) <;> simp

end Sys2Proof.Machine
end

