-- ==== Sys2Proof/Laws/KeptChannels.lean ====
section
/-! SUPPORT. Laws/KeptChannels.lean: the operations of the Command Channel Unit keep what Laws/Kept.lean names. -/

namespace Sys2Proof.Machine

@[simp] theorem kept_issueCommand (ch : Nat) (v : Verb) (args : List Word) (role : Option PosRole) (s : State) :
    (issueCommand ch v args role s).1.kept = s.kept := by
  unfold issueCommand
  (repeat' split) <;> simp (disch := try exact funext fun _ => by (repeat' split) <;> with_unfolding_all rfl)

@[simp] theorem kept_promote (ch : Nat) (s : State) :
    (promote ch s).kept = s.kept := by
  unfold promote
  simp (disch := try exact funext fun _ => by (repeat' split) <;> with_unfolding_all rfl)

@[simp] theorem kept_cancelCommand (ch : Nat) (tag : Half) (s : State) :
    (cancelCommand ch tag s).1.kept = s.kept := by
  unfold cancelCommand
  (repeat' split) <;> simp (disch := try exact funext fun _ => by (repeat' split) <;> with_unfolding_all rfl)

@[simp] theorem kept_cancelOwn (ch : Nat) (tag : Half) (s : State) :
    (cancelOwn ch tag s).kept = s.kept := by
  simp [cancelOwn]

@[simp] theorem kept_markSent (ch : Nat) (tag : Half) (s : State) :
    (markSent ch tag s).kept = s.kept := by
  unfold markSent
  simp (disch := try exact funext fun _ => by (repeat' split) <;> with_unfolding_all rfl)

@[simp] theorem kept_recoverChannel (ch : Nat) (s : State) :
    (recoverChannel ch s).kept = s.kept := by
  unfold recoverChannel
  (repeat' split) <;> simp (disch := try exact funext fun _ => by (repeat' split) <;> with_unfolding_all rfl)

@[simp] theorem kept_endCommand (ch : Nat) (tag : Half) (s : State) :
    (endCommand ch tag s).kept = s.kept := by
  unfold endCommand
  simp (disch := try exact funext fun _ => by (repeat' split) <;> with_unfolding_all rfl)

@[simp] theorem kept_takeAccept (ch : Nat) (tag : Half) (s : State) :
    (takeAccept ch tag s).1.kept = s.kept := by
  unfold takeAccept
  dsimp only
  (repeat' split) <;> simp (disch := try exact funext fun _ => by (repeat' split) <;> with_unfolding_all rfl)

@[simp] theorem kept_takeDone (ch : Nat) (tag : Half) (value : Word) (words : List Word) (s : State) :
    (takeDone ch tag value words s).1.kept = s.kept := by
  unfold takeDone
  dsimp only
  (repeat' split) <;> simp (disch := try exact funext fun _ => by (repeat' split) <;> with_unfolding_all rfl)

@[simp] theorem kept_takeRefuse (ch : Nat) (tag : Half) (value : Word) (s : State) :
    (takeRefuse ch tag value s).1.kept = s.kept := by
  unfold takeRefuse
  (repeat' split) <;> simp

@[simp] theorem kept_dropTimedOut (ch : Nat) (tag : Half) (s : State) :
    (dropTimedOut ch tag s).kept = s.kept := by
  unfold dropTimedOut
  simp (disch := try exact funext fun _ => by (repeat' split) <;> with_unfolding_all rfl)

@[simp] theorem kept_reportTimeout (ch : Nat) (tag : Half) (v : Verb) (s : State) :
    (reportTimeout ch tag v s).kept = s.kept := by
  unfold reportTimeout
  simp (disch := try exact funext fun _ => by (repeat' split) <;> with_unfolding_all rfl)

@[simp] theorem kept_overdueStep (ch : Nat) (tag : Half) (s : State) :
    (overdueStep ch tag s).kept = s.kept := by
  unfold overdueStep
  (repeat' split) <;> simp (disch := try exact funext fun _ => by (repeat' split) <;> with_unfolding_all rfl)

@[simp] theorem kept_publishGate (g : Gate) (s : State) :
    (publishGate g s).kept = s.kept := by
  simp [publishGate]

@[simp] theorem kept_channelsEnterRun (s : State) :
    (channelsEnterRun s).kept = s.kept := by
  unfold channelsEnterRun
  apply kept_withCcu
  rw [List.map_map]
  exact List.map_congr_left fun _ _ => rfl

end Sys2Proof.Machine
end

