-- ==== Sys2Proof/Laws/KeptStack.lean ====
section
/-! SUPPORT. Laws/KeptStack.lean: the operations of the Stack and Gate Unit keep what Laws/Kept.lean names. -/

namespace Sys2Proof.Machine

@[simp] theorem kept_noteLaneMissing (p : Piece) (r : Route) (s : State) :
    (noteLaneMissing p r s).kept = s.kept := by
  unfold noteLaneMissing
  (repeat' split) <;> simp (disch := try (simp; with_unfolding_all exact id rfl))

@[simp] theorem kept_publishRoute (r : Route) (s : State) :
    (publishRoute r s).kept = s.kept := by
  unfold publishRoute
  (repeat' split) <;> simp (disch := try with_unfolding_all exact id rfl)

@[simp] theorem kept_decidePiece (p : Piece) (s : State) :
    (decidePiece p s).1.kept = s.kept := by
  simp [decidePiece]

@[simp] theorem kept_setRoute (i : Nat) (r : Route) (s : State) :
    (setRoute i r s).kept = s.kept := by
  unfold setRoute
  (repeat' split) <;> simp (disch := try with_unfolding_all exact id rfl)

@[simp] theorem kept_decideForeseen (s : State) :
    (decideForeseen s).kept = s.kept := by
  unfold decideForeseen
  (repeat' split) <;> simp (disch := try with_unfolding_all exact id rfl)

@[simp] theorem kept_gateDecisions (s : State) :
    (gateDecisions s).kept = s.kept := by
  unfold gateDecisions
  rw [kept_decideForeseen, kept_foldl]
  intro s a
  (repeat' split) <;> simp

@[simp] theorem kept_withdrawCheck (p : Piece) (s : State) :
    (withdrawCheck p s).1.kept = s.kept := by
  unfold withdrawCheck
  (repeat' split) <;> simp

@[simp] theorem kept_admitPiece (p : Piece) (s : State) :
    (admitPiece p s).kept = s.kept := by
  unfold admitPiece
  simp (disch := try with_unfolding_all exact id rfl)

@[simp] theorem kept_dueAtOnce (k : OrderKey) (n : Nat) (s : State) :
    (dueAtOnce k n s).kept = s.kept := by
  unfold dueAtOnce
  (repeat' split) <;> simp (disch := try with_unfolding_all exact id rfl)

@[simp] theorem kept_stackDue (s : State) :
    (stackDue s).kept = s.kept := by
  unfold stackDue
  dsimp only
  (repeat' split) <;> simp (disch := try with_unfolding_all exact id rfl)

@[simp] theorem kept_stackPiece (k : OrderKey) (s : State) :
    (stackPiece k s).kept = s.kept := by
  unfold stackPiece
  (repeat' split) <;> simp (disch := try with_unfolding_all exact id rfl)

@[simp] theorem kept_countPiece (p : Piece) (r : Route) (s : State) :
    (countPiece p r s).kept = s.kept := by
  unfold countPiece
  (repeat' split) <;> simp (disch := try with_unfolding_all exact id rfl)

@[simp] theorem kept_takePieces (fuel : Nat) (s : State) :
    (takePieces fuel s).kept = s.kept := by
  induction fuel generalizing s with
  | zero => rfl
  | succ n ih =>
    unfold takePieces
    (try dsimp only)
    (repeat' split) <;> simp (disch := try with_unfolding_all exact id rfl) [ih]

@[simp] theorem kept_issueDrop (s : State) :
    (issueDrop s).1.kept = s.kept := by
  unfold issueDrop
  dsimp only
  (repeat' split) <;> simp (disch := try with_unfolding_all exact id rfl)

@[simp] theorem kept_dropStep (fuel : Nat) (s : State) :
    (dropStep fuel s).kept = s.kept := by
  induction fuel generalizing s with
  | zero => rfl
  | succ n ih =>
    unfold dropStep
    (try dsimp only)
    (repeat' split) <;> simp  [ih]

@[simp] theorem kept_issueDrops (s : State) :
    (issueDrops s).kept = s.kept := by
  simp [issueDrops]

@[simp] theorem kept_laneStep (s : State) :
    (laneStep s).kept = s.kept := by
  unfold laneStep
  dsimp only
  (repeat' split) <;> simp (disch := try with_unfolding_all exact id rfl)

@[simp] theorem kept_tallyRest (k : OrderKey) (s : State) :
    (tallyRest k s).kept = s.kept := by
  unfold tallyRest
  apply kept_foldl
  intro s i
  split
  · next p hp =>
    cases p.route <;> dsimp only <;> split <;> simp (disch := try with_unfolding_all exact id rfl)
  · rfl

@[simp] theorem kept_closeRun (k : OrderKey) (s : State) :
    (closeRun k s).kept = s.kept := by
  unfold closeRun
  (repeat' split) <;> simp (disch := try with_unfolding_all exact id rfl)

@[simp] theorem kept_recordClose (o : Order) (s : State) :
    (recordClose o s).kept = s.kept := by
  unfold recordClose
  simp (disch := first | with_unfolding_all exact id rfl | (exact funext fun _ => by (repeat' split) <;> with_unfolding_all rfl) | (simp; with_unfolding_all exact id rfl) | skip)

@[simp] theorem kept_closeOrder (k : OrderKey) (s : State) :
    (closeOrder k s).kept = s.kept := by
  unfold closeOrder
  dsimp only
  (repeat' split) <;> simp

@[simp] theorem kept_stackerFailed (c : StackerCommand) (n : Nat) (lane : Word) (s : State) :
    (stackerFailed c n lane s).kept = s.kept := by
  unfold stackerFailed
  (repeat' split) <;> simp

@[simp] theorem kept_dropRecord (tag : Half) (s : State) :
    (dropRecord tag s).kept = s.kept := by
  unfold dropRecord
  simp (disch := try with_unfolding_all exact id rfl)

@[simp] theorem kept_endStacker (tag : Half) (react : StackerCommand → State → State)
    (h : ∀ c s, (react c s).kept = s.kept) (s : State) : (endStacker tag react s).kept = s.kept := by
  unfold endStacker
  split
  · rw [h]; simp
  · rfl

@[simp] theorem kept_stackerTold (t : Told) (s : State) :
    (stackerTold t s).kept = s.kept := by
  unfold stackerTold
  split
  · simp
  · rw [kept_issueDrops, kept_endStacker]
    intro c s
    dsimp only
    split <;> simp
  all_goals first | rfl | (rw [kept_issueDrops, kept_endStacker]; simp)

@[simp] theorem kept_stackEnterRun (s : State) :
    (stackEnterRun s).kept = s.kept := by
  unfold stackEnterRun
  apply kept_foldl
  intro s a
  (repeat' split) <;> simp

end Sys2Proof.Machine
end

