-- ==== Sys2Proof/Laws/KeptKnife.lean ====
section
/-! SUPPORT. Laws/KeptKnife.lean: the operations of the Cut Planner keep what Laws/Kept.lean names. -/

namespace Sys2Proof.Machine

@[simp] theorem kept_noteSheetRange (c : Word) (f : FoundCut) (s : State) :
    (noteSheetRange c f s).kept = s.kept := by
  unfold noteSheetRange
  (repeat' split) <;> simp (disch := try (simp; with_unfolding_all exact id rfl))

@[simp] theorem kept_planCuts (fuel : Nat) (s : State) :
    (planCuts fuel s).kept = s.kept := by
  induction fuel generalizing s with
  | zero => rfl
  | succ n ih =>
    unfold planCuts
    (try dsimp only)
    (repeat' split) <;> simp (disch := try with_unfolding_all exact id rfl) [ih]

@[simp] theorem kept_settleBase (s : State) :
    (settleBase s).kept = s.kept := by
  unfold settleBase
  dsimp only
  (repeat' split) <;> simp (disch := try with_unfolding_all exact id rfl)

@[simp] theorem kept_feedKnife (fuel : Nat) (s : State) :
    (feedKnife fuel s).kept = s.kept := by
  induction fuel generalizing s with
  | zero => rfl
  | succ n ih =>
    unfold feedKnife
    (try dsimp only)
    (repeat' split) <;> simp (disch := try with_unfolding_all exact id rfl) [ih]

@[simp] theorem kept_feedCheck (s : State) :
    (feedCheck s).kept = s.kept := by
  simp [feedCheck]

@[simp] theorem kept_planAndFeed (s : State) :
    (planAndFeed s).kept = s.kept := by
  unfold planAndFeed
  (repeat' split) <;> simp

@[simp] theorem kept_replanFrom (i : Nat) (s : State) :
    (replanFrom i s).kept = s.kept := by
  unfold replanFrom
  simp (disch := try with_unfolding_all exact id rfl)

@[simp] theorem kept_replanForChange (sp : Span) (s : State) :
    (replanForChange sp s).kept = s.kept := by
  unfold replanForChange
  (repeat' split) <;> simp

@[simp] theorem kept_replanForOrder (k : OrderKey) (s : State) :
    (replanForOrder k s).kept = s.kept := by
  unfold replanForOrder
  (repeat' split) <;> simp

@[simp] theorem kept_replanAll (s : State) :
    (replanAll s).kept = s.kept := by
  unfold replanAll
  (repeat' split) <;> simp (disch := try with_unfolding_all exact id rfl)

@[simp] theorem kept_missHead (value : Int) (s : State) :
    (missHead value s).kept = s.kept := by
  unfold missHead
  (repeat' split) <;> simp (disch := try with_unfolding_all exact id rfl)

@[simp] theorem kept_missAhead (fuel : Nat) (s : State) :
    (missAhead fuel s).kept = s.kept := by
  induction fuel generalizing s with
  | zero => rfl
  | succ n ih => simp [missAhead, ih]

@[simp] theorem kept_cutFailed (tag : Half) (value : Int) (s : State) :
    (cutFailed tag value s).kept = s.kept := by
  unfold cutFailed
  (repeat' split) <;> simp

@[simp] theorem kept_cancelCut (tag : Half) (s : State) :
    (cancelCut tag s).kept = s.kept := by
  unfold cancelCut
  (repeat' split) <;> simp

@[simp] theorem kept_distanceCheck (fuel : Nat) (s : State) :
    (distanceCheck fuel s).kept = s.kept := by
  induction fuel generalizing s with
  | zero => rfl
  | succ n ih =>
    unfold distanceCheck
    (repeat' split) <;> simp  [ih]

@[simp] theorem kept_cutMade (e : CutEntry) (a : Word) (s : State) :
    (cutMade e a s).kept = s.kept := by
  unfold cutMade
  dsimp only
  (repeat' split) <;> simp (disch := first | with_unfolding_all exact id rfl | (exact funext fun _ => by (repeat' split) <;> with_unfolding_all rfl) | (simp; with_unfolding_all exact id rfl) | skip)

@[simp] theorem kept_cutComplete (tag : Half) (first : Option Word) (s : State) :
    (cutComplete tag first s).kept = s.kept := by
  unfold cutComplete
  dsimp only
  (repeat' split) <;> simp

@[simp] theorem kept_knifeTold (t : Told) (s : State) :
    (knifeTold t s).kept = s.kept := by
  unfold knifeTold
  (repeat' split) <;> simp

@[simp] theorem kept_knifeUpdate (s : State) :
    (knifeUpdate s).kept = s.kept := by
  simp [knifeUpdate]

@[simp] theorem kept_lostCut (e : CutEntry) (s : State) :
    (lostCut e s).kept = s.kept := by
  unfold lostCut
  (repeat' split) <;> simp (disch := try with_unfolding_all exact id rfl)

@[simp] theorem kept_knifeEnterRun (s : State) :
    (knifeEnterRun s).kept = s.kept := by
  unfold knifeEnterRun
  dsimp only
  rw [kept_planAndFeed, kept_withCp, kept_foldl, kept_withCp]
  · rfl
  · intro s a
    (repeat' split) <;> simp
  · rfl

end Sys2Proof.Machine
end

