-- ==== Sys2Proof/Laws/KeptSetpoint.lean ====
section
/-! SUPPORT. Laws/KeptSetpoint.lean: the operations of the Setpoint Scheduler keep what Laws/Kept.lean names, and
that a HELD section takes no switch. -/

namespace Sys2Proof.Machine

/-- R156: no head of a generator is due while its section is HELD. -/
theorem dueCount_held (g : Generator) (s : State) (h : s.held g.cfg.sec = true) : dueCount g s = 0 := by
  unfold dueCount
  split <;> simp [h]

@[simp] theorem kept_switchCheck (i : Nat) (s : State) :
    (switchCheck i s).kept = s.kept := by
  unfold switchCheck
  (repeat' split) <;> simp

@[simp] theorem kept_switchPosition (sec : Nat) (b : Word) (s : State) :
    (switchPosition sec b s).1.kept = s.kept := by
  unfold switchPosition
  (repeat' split) <;> simp

@[simp] theorem kept_forceHead (i : Nat) (s : State) :
    (forceHead i s).kept = s.kept := by
  unfold forceHead
  (repeat' split) <;> simp

@[simp] theorem kept_placeSwitch (i : Nat) (b : Word) (grade : Nat) (s : State) :
    (placeSwitch i b grade s).1.kept = s.kept := by
  unfold placeSwitch
  dsimp only
  (repeat' split) <;> simp

@[simp] theorem kept_placeSwitches (b : Word) (grade : Nat) (s : State) :
    (placeSwitches b grade s).kept = s.kept := by
  unfold placeSwitches
  dsimp only
  split
  all_goals
    try rw [kept_raise]
    refine (kept_foldl_fst _ (fun p i => ?_) _ _).trans rfl
    split <;> simp

@[simp] theorem kept_setpointUpdate (sec : Nat) (s : State) :
    (setpointUpdate sec s).kept = s.kept := by
  unfold setpointUpdate
  apply kept_foldl
  intro s a
  (repeat' split) <;> simp

@[simp] theorem kept_curveMissing (i curve : Nat) (g : Generator) (s : State) :
    (curveMissing i curve g s).kept = s.kept := by
  unfold curveMissing
  (repeat' split) <;> simp

@[simp] theorem kept_generatorValue (i : Nat) (s : State) :
    (generatorValue i s).1.kept = s.kept := by
  unfold generatorValue
  (repeat' split) <;> simp

@[simp] theorem kept_setpointEnterRun (s : State) :
    (setpointEnterRun s).kept = s.kept := by
  unfold setpointEnterRun
  dsimp only
  rw [kept_foldl _ (fun s i => by simp), kept_foldl]
  intro s i
  split <;> simp

end Sys2Proof.Machine
end

