-- ==== Sys2Proof/Laws/KeptSlitter.lean ====
section
/-! SUPPORT. Laws/KeptSlitter.lean: the operations of the Slitter Pair Controller keep what Laws/Kept.lean names. -/

namespace Sys2Proof.Machine

@[simp] theorem kept_State.adjustSwap (s : State) (f : Swap → Swap) :
    (State.adjustSwap s f).kept = s.kept := by
  unfold State.adjustSwap
  simp (disch := try with_unfolding_all exact id rfl)

@[simp] theorem kept_coverZone (cause : ZoneCause) (upTo : Word) (s : State) :
    (coverZone cause upTo s).kept = s.kept := by
  unfold coverZone
  (repeat' split) <;> simp (disch := try with_unfolding_all exact id rfl)

@[simp] theorem kept_coverStep (s : State) :
    (coverStep s).kept = s.kept := by
  unfold coverStep
  (repeat' split) <;> simp

@[simp] theorem kept_startCover (pos : Word) (s : State) :
    (startCover pos s).kept = s.kept := by
  unfold startCover
  (repeat' split) <;> simp (disch := try with_unfolding_all exact id rfl)

@[simp] theorem kept_endCover (cause : ZoneCause) (s : State) :
    (endCover cause s).kept = s.kept := by
  unfold endCover
  (repeat' split) <;> simp (disch := try with_unfolding_all exact id rfl)

@[simp] theorem kept_swapEndCheck (s : State) :
    (swapEndCheck s).kept = s.kept := by
  unfold swapEndCheck
  (repeat' split) <;> simp (disch := try with_unfolding_all exact id rfl)

@[simp] theorem kept_makeLate (s : State) :
    (makeLate s).kept = s.kept := by
  unfold makeLate
  (repeat' split) <;> simp

@[simp] theorem kept_faultOnSwap (i : Nat) (s : State) :
    (faultOnSwap i s).kept = s.kept := by
  unfold faultOnSwap
  (repeat' split) <;> simp

@[simp] theorem kept_stationFault (i : Nat) (value : Int) (s : State) :
    (stationFault i value s).kept = s.kept := by
  unfold stationFault
  dsimp only
  (repeat' split) <;> simp

@[simp] theorem kept_supersededLive (i : Nat) (old : Option LiveCommand) (discarded : Option Half) (s : State) :
    (supersededLive i old discarded s).kept = s.kept := by
  unfold supersededLive
  split <;> simp

theorem kept_stationIssue (i : Nat) (v : Verb) (args : List Word) (taken : State → State)
    (h : ∀ s, (taken s).kept = s.kept) (s : State) : (stationIssue i v args taken s).kept = s.kept := by
  unfold stationIssue
  dsimp only
  (repeat' split) <;> simp [h]

@[simp] theorem kept_issuePreset (i pattern : Nat) (s : State) :
    (issuePreset i pattern s).kept = s.kept := by
  unfold issuePreset
  rw [kept_stationIssue _ _ _ _ fun _ => rfl]
  simp

@[simp] theorem kept_issueSwapDrop (w : Swap) (s : State) :
    (issueSwapDrop w s).kept = s.kept :=
  kept_stationIssue _ _ _ _ (fun _ => by simp) _

@[simp] theorem kept_issueSwapLift (w : Swap) (s : State) :
    (issueSwapLift w s).kept = s.kept := by
  unfold issueSwapLift
  (repeat' split)
  · rfl
  · simp
  · exact kept_stationIssue _ _ _ _ (fun _ => by simp) _

@[simp] theorem kept_endLateness (s : State) :
    (endLateness s).kept = s.kept := by
  unfold endLateness
  (repeat' split) <;> simp

@[simp] theorem kept_noteLead (i : Nat) (s : State) :
    (noteLead i s).kept = s.kept := by
  simp [noteLead]

@[simp] theorem kept_issueDue (w : Swap) (dropDue liftDue : Bool) (s : State) :
    (issueDue w dropDue liftDue s).kept = s.kept := by
  unfold issueDue
  (repeat' split) <;> simp

@[simp] theorem kept_swapDueCheck (s : State) :
    (swapDueCheck s).kept = s.kept := by
  unfold swapDueCheck
  dsimp only
  (repeat' split) <;> simp

@[simp] theorem kept_createSwap (b : BoundaryRef) (pattern : Nat) (s : State) :
    (createSwap b pattern s).kept = s.kept := by
  unfold createSwap
  simp (disch := try with_unfolding_all exact id rfl)

@[simp] theorem kept_presetComplete (i : Nat) (s : State) :
    (presetComplete i s).kept = s.kept := by
  simp [presetComplete]

@[simp] theorem kept_dropComplete (i : Nat) (s : State) :
    (dropComplete i s).kept = s.kept := by
  simp [dropComplete]

@[simp] theorem kept_liftComplete (i : Nat) (s : State) :
    (liftComplete i s).kept = s.kept := by
  simp [liftComplete]

@[simp] theorem kept_liveComplete (i : Nat) (v : Verb) (s : State) :
    (liveComplete i v s).kept = s.kept := by
  unfold liveComplete
  (repeat' split) <;> simp

@[simp] theorem kept_liveFailed (i : Nat) (tag : Half) (value : Int) (s : State) :
    (liveFailed i tag value s).kept = s.kept := by
  unfold liveFailed
  (repeat' split) <;> simp

@[simp] theorem kept_slitterTold (i : Nat) (t : Told) (s : State) :
    (slitterTold i t s).kept = s.kept := by
  unfold slitterTold
  (repeat' split) <;> simp

@[simp] theorem kept_settleLive (i : Nat) (l : LiveCommand) (s : State) :
    (settleLive i l s).kept = s.kept := by
  unfold settleLive
  (repeat' split) <;> simp

@[simp] theorem kept_stationReport (i : Nat) (value aux : Word) (s : State) :
    (stationReport i value aux s).kept = s.kept := by
  unfold stationReport
  (repeat' split) <;> simp

@[simp] theorem kept_slitterArrival (slot : Nat) (s : State) :
    (slitterArrival slot s).kept = s.kept := by
  unfold slitterArrival
  split
  · exact kept_foldl _ (fun s i => by split <;> simp) _ _
  · rfl

@[simp] theorem kept_recoveryCheck (s : State) :
    (recoveryCheck s).kept = s.kept := by
  unfold recoveryCheck
  dsimp only
  (repeat' split) <;> simp (disch := try with_unfolding_all exact id rfl)

@[simp] theorem kept_represet (i : Nat) (s : State) :
    (represet i s).kept = s.kept := by
  unfold represet
  (repeat' split) <;> simp

@[simp] theorem kept_clearedLift (i : Nat) (s : State) :
    (clearedLift i s).kept = s.kept := by
  unfold clearedLift
  (repeat' split) <;> simp

@[simp] theorem kept_clearStation (i : Nat) (s : State) :
    (clearStation i s).kept = s.kept := by
  simp [clearStation]

@[simp] theorem kept_slitterUpdate (s : State) :
    (slitterUpdate s).kept = s.kept := by
  simp [slitterUpdate]

@[simp] theorem kept_stationEnterRun (i : Nat) (s : State) :
    (stationEnterRun i s).kept = s.kept := by
  unfold stationEnterRun
  dsimp only
  (repeat' split) <;> simp

@[simp] theorem kept_slitterEnterRun (s : State) :
    (slitterEnterRun s).kept = s.kept := by
  unfold slitterEnterRun
  dsimp only
  (repeat' split) <;> simp

end Sys2Proof.Machine
end

