-- ==== Sys2Proof/Laws/KeptSplice.lean ====
section
/-! SUPPORT. Laws/KeptSplice.lean: the operations of the Splice Controller keep what Laws/Kept.lean names, and
what making a plan leaves. -/

namespace Sys2Proof.Machine

/-! ### What making a plan leaves (Table 6-2) -/

@[simp] theorem WebState.makePlan_plan (p : SplicePlan) (x : WebState) : (x.makePlan p).plan = some p := rfl
@[simp] theorem WebState.makePlan_blocked (p : SplicePlan) (x : WebState) : (x.makePlan p).blocked = false := rfl
@[simp] theorem WebState.makePlan_spliceTag (p : SplicePlan) (x : WebState) :
    (x.makePlan p).spliceTag = x.spliceTag := rfl
@[simp] theorem WebState.makePlan_mark (p : SplicePlan) (x : WebState) : (x.makePlan p).mark = x.mark := rfl

/-! ### What the operations keep -/

@[simp] theorem kept_prepareSuperseded (i : Nat) (old : Option Half) (s : State) :
    (prepareSuperseded i old s).kept = s.kept := by
  unfold prepareSuperseded
  (repeat' split) <;> simp

@[simp] theorem kept_issueCheck (i : Nat) (s : State) :
    (issueCheck i s).kept = s.kept := by
  unfold issueCheck
  dsimp only
  (repeat' split) <;> simp

@[simp] theorem kept_paperCheck (i : Nat) (target : Word) (standby : Word) (s : State) :
    (paperCheck i target standby s).kept = s.kept := by
  unfold paperCheck
  (repeat' split) <;> simp

@[simp] theorem kept_planRunout (i : Nat) (w : Web) (c : Word) (len reserve : Nat) (s : State) :
    (planRunout i w c len reserve s).kept = s.kept := by
  unfold planRunout
  (repeat' split) <;> simp

@[simp] theorem kept_advanceGrade (i : Nat) (w : Web) (p : SplicePlan) (c : Word) (len reserve : Nat) (s : State) :
    (advanceGrade i w p c len reserve s).kept = s.kept := by
  unfold advanceGrade
  (repeat' split) <;> simp

@[simp] theorem kept_evaluateWeb (i : Nat) (s : State) :
    (evaluateWeb i s).kept = s.kept := by
  unfold evaluateWeb
  dsimp only
  (repeat' split) <;> simp

@[simp] theorem kept_planGrade (i : Nat) (target : Word) (paper : Nat) (s : State) :
    (planGrade i target paper s).kept = s.kept := by
  unfold planGrade
  dsimp only
  (repeat' split) <;> simp

@[simp] theorem kept_deleteCreated (w : Web) (s : State) :
    (deleteCreated w s).kept = s.kept := by
  unfold deleteCreated
  (repeat' split) <;> simp

@[simp] theorem kept_spliceAccepted (i : Nat) (w : Web) (p : SplicePlan) (s : State) :
    (spliceAccepted i w p s).kept = s.kept := by
  unfold spliceAccepted
  (repeat' split) <;> simp

@[simp] theorem kept_confirmMark (i : Nat) (w : Web) (a : Word) (s : State) :
    (confirmMark i w a s).kept = s.kept := by
  unfold confirmMark
  dsimp only
  (repeat' split) <;> simp

@[simp] theorem kept_spliceMade (i : Nat) (w : Web) (p : SplicePlan) (a : Word) (s : State) :
    (spliceMade i w p a s).kept = s.kept := by
  unfold spliceMade
  (repeat' split) <;> simp

@[simp] theorem kept_spliceFailed (i : Nat) (w : Web) (p : SplicePlan) (value : Int) (s : State) :
    (spliceFailed i w p value s).kept = s.kept := by
  unfold spliceFailed
  (repeat' split) <;> simp

@[simp] theorem kept_prepareOutcome (i : Nat) (w : Web) (reported : Option Word) (s : State) :
    (prepareOutcome i w reported s).kept = s.kept := by
  unfold prepareOutcome
  dsimp only
  (repeat' split) <;> simp

@[simp] theorem kept_cancelTags (w : Web) (s : State) :
    (cancelTags w s).kept = s.kept := by
  unfold cancelTags
  (repeat' split) <;> simp

@[simp] theorem kept_withdrawGrade (i : Nat) (w : Web) (p : SplicePlan) (a : Word) (s : State) :
    (withdrawGrade i w p a s).kept = s.kept := by
  unfold withdrawGrade
  (repeat' split) <;> simp

@[simp] theorem kept_spliceUnplanned (i : Nat) (w : Web) (a : Word) (s : State) :
    (spliceUnplanned i w a s).kept = s.kept := by
  unfold spliceUnplanned
  (repeat' split) <;> simp

@[simp] theorem kept_splicerFailed (i : Nat) (w : Web) (tag : Half) (value : Int) (s : State) :
    (splicerFailed i w tag value s).kept = s.kept := by
  unfold splicerFailed
  (repeat' split) <;> simp

@[simp] theorem kept_splicerComplete (i : Nat) (w : Web) (tag : Half) (v : Verb) (first : Option Word) (s : State) :
    (splicerComplete i w tag v first s).kept = s.kept := by
  unfold splicerComplete
  (repeat' split) <;> simp

@[simp] theorem kept_splicerTold (i : Nat) (t : Told) (s : State) :
    (splicerTold i t s).kept = s.kept := by
  unfold splicerTold
  (repeat' split) <;> simp

@[simp] theorem kept_takeFromCount (i : Nat) (s : State) :
    (takeFromCount i s).kept = s.kept := by
  unfold takeFromCount
  (repeat' split) <;> simp

@[simp] theorem kept_countWaitStep (i : Nat) (s : State) :
    (countWaitStep i s).kept = s.kept := by
  unfold countWaitStep
  (repeat' split) <;> simp

@[simp] theorem kept_webArrival (slot i : Nat) (s : State) :
    (webArrival slot i s).kept = s.kept := by
  unfold webArrival
  (repeat' split) <;> simp

@[simp] theorem kept_spliceArrival (slot : Nat) (s : State) :
    (spliceArrival slot s).kept = s.kept := by
  unfold spliceArrival
  split
  · exact kept_foldl _ (fun s i => by simp) _ _
  · rfl

@[simp] theorem kept_spliceUpdate (sec : Nat) (s : State) :
    (spliceUpdate sec s).kept = s.kept := by
  unfold spliceUpdate
  apply kept_foldl
  intro s a
  (repeat' split) <;> simp

@[simp] theorem kept_webEnterRun (i : Nat) (s : State) :
    (webEnterRun i s).kept = s.kept := by
  unfold webEnterRun
  dsimp only
  (repeat' split) <;> simp

@[simp] theorem kept_spliceEnterRun (s : State) :
    (spliceEnterRun s).kept = s.kept := by
  unfold spliceEnterRun
  apply kept_foldl
  intro s a
  simp

end Sys2Proof.Machine
end

