-- ==== Sys2Proof/Laws/KeptPlanner.lean ====
section
/-! SUPPORT. Laws/KeptPlanner.lean: the reactions of the Order Planner keep what Laws/Kept.lean names. -/

namespace Sys2Proof.Machine

@[simp] theorem kept_refreshFrom (old : Option OrderKey) (s : State) :
    (refreshFrom old s).kept = s.kept := by
  unfold refreshFrom
  dsimp only
  (repeat' split) <;> simp (disch := try with_unfolding_all exact id rfl)

@[simp] theorem kept_refreshNext (s : State) : (refreshNext s).kept = s.kept := kept_refreshFrom _ s

@[simp] theorem kept_takePassage (p : Passage) (s : State) :
    (takePassage p s).kept = s.kept := by
  unfold takePassage
  (repeat' split) <;> simp (disch := try with_unfolding_all exact id rfl)

@[simp] theorem kept_sweepOrders (s : State) :
    (sweepOrders s).kept = s.kept := by
  unfold sweepOrders
  simp (disch := try with_unfolding_all exact id rfl)

@[simp] theorem kept_closeOrders (s : State) :
    (closeOrders s).kept = s.kept := by
  unfold closeOrders
  rw [kept_refreshNext]
  exact kept_foldl _ (fun s o => by simp) _ _

@[simp] theorem kept_project (s : State) :
    (project s).kept = s.kept := by
  unfold project
  simp (disch := try with_unfolding_all exact id rfl)

@[simp] theorem kept_spliceTarget (web : Nat) (b : Word) (s : State) :
    (spliceTarget web b s).1.kept = s.kept := by
  unfold spliceTarget
  (repeat' split) <;> simp

@[simp] theorem kept_targetDistance (web : Nat) (b : Word) (s : State) :
    (targetDistance web b s).1.kept = s.kept := by
  unfold targetDistance
  dsimp only
  (repeat' split) <;> simp

@[simp] theorem kept_anyWeb (webs : List Nat) (b : Word) (test : Int → Nat → Bool) (s : State) :
    (anyWeb webs b test s).1.kept = s.kept := by
  unfold anyWeb
  apply kept_foldl_fst
  intro s a
  simp

@[simp] theorem kept_triggered (s : State) :
    (triggered s).1.kept = s.kept := by
  unfold triggered
  (repeat' split) <;> simp

@[simp] theorem kept_blockAttempt (a : Attempt) (c : BlockCause) (s : State) :
    (blockAttempt a c s).kept = s.kept := by
  unfold blockAttempt
  (repeat' split) <;> simp (disch := try with_unfolding_all exact id rfl)

@[simp] theorem kept_placeBoundary (webs : List Nat) (length : Nat) (bproj : Word) (fuel k : Nat) (s : State) :
    (placeBoundary webs length bproj fuel k s).1.kept = s.kept := by
  induction fuel generalizing k s with
  | zero => rfl
  | succ n ih =>
    unfold placeBoundary
    dsimp only
    (repeat' split) <;> simp [ih]

@[simp] theorem kept_attachBoundary (openKey next : Option OrderKey) (b : BoundaryRef) (s : State) :
    (attachBoundary openKey next b s).kept = s.kept := by
  unfold attachBoundary
  simp (disch := try with_unfolding_all exact id rfl)

@[simp] theorem kept_commitWebs (webs : List Nat) (grade : Nat) (b : Word) (s : State) :
    (commitWebs webs grade b s).kept = s.kept := by
  unfold commitWebs
  dsimp only
  apply kept_foldl
  intro s a
  (repeat' split) <;> simp

@[simp] theorem kept_commitNext (n : Order) (webs : List Nat) (b : BoundaryRef) (k : Nat) (s : State) :
    (commitNext n webs b k s).kept = s.kept := by
  unfold commitNext
  dsimp only
  rw [kept_raise, kept_withOp, kept_placeSwitches, kept_commitWebs]
  · split <;> simp
  · simp only [Planner.setup]

@[simp] theorem kept_commitAt (a : Attempt) (webs : List Nat) (pos : Word) (k : Nat) (s : State) :
    (commitAt a webs pos k s).1.kept = s.kept := by
  unfold commitAt
  dsimp only
  (repeat' split) <;> simp (disch := try with_unfolding_all exact id rfl)

@[simp] theorem kept_attemptCommit (s : State) :
    (attemptCommit s).1.kept = s.kept := by
  unfold attemptCommit
  dsimp only
  (repeat' split) <;> simp

@[simp] theorem kept_announceChange (s : State) :
    (announceChange s).kept = s.kept := by
  unfold announceChange
  (repeat' split) <;> simp

@[simp] theorem kept_settleLoop (fuel : Nat) (before : Signature) (force attempt : Bool) (s : State) :
    (settleLoop fuel before force attempt s).kept = s.kept := by
  induction fuel generalizing before force attempt s with
  | zero => rfl
  | succ n ih =>
    unfold settleLoop
    dsimp only
    (repeat' split) <;> simp [ih]

@[simp] theorem kept_settle (before : Signature) (force attempt : Bool) (s : State) :
    (settle before force attempt s).kept = s.kept := by
  simp [settle]

@[simp] theorem kept_quantityChanged (k : OrderKey) (s : State) :
    (quantityChanged k s).kept = s.kept := by
  unfold quantityChanged
  (repeat' split) <;> simp

end Sys2Proof.Machine
end

