-- ==== Sys2Proof/Laws/KeptOrders.lean ====
section
/-! SUPPORT. Laws/KeptOrders.lean: the requests of the order queue and the single requests keep what Laws/Kept.lean names. -/

namespace Sys2Proof.Machine

@[simp] theorem kept_refuse (code : Nat) (s : State) : (refuse code s).1.kept = s.kept := rfl

@[simp] theorem kept_orderAdd (words : List Word) (s : State) : (orderAdd words s).1.kept = s.kept := by
  unfold orderAdd
  dsimp only
  (repeat' split) <;> first | rfl | (rw [kept_refreshNext]; exact kept_withOp _ rfl)

@[simp] theorem kept_raiseCancelled (k : OrderKey) (s : State) :
    (raiseCancelled k s).kept = s.kept := by
  simp [raiseCancelled]

@[simp] theorem kept_orderCancel (words : List Word) (s : State) :
    (orderCancel words s).1.kept = s.kept := by
  unfold orderCancel
  (repeat' split) <;> simp (disch := try with_unfolding_all exact id rfl)

@[simp] theorem kept_takeRush (o : OrderWords) (s : State) :
    (takeRush o s).kept = s.kept := by
  unfold takeRush
  (repeat' split) <;> simp (disch := try with_unfolding_all exact id rfl)

@[simp] theorem kept_orderRush (words : List Word) (s : State) :
    (orderRush words s).1.kept = s.kept := by
  unfold orderRush
  dsimp only
  (repeat' split) <;> simp

@[simp] theorem kept_storeEdit (o : Order) (e : OrderEdit) (s : State) :
    (storeEdit o e s).kept = s.kept := by
  unfold storeEdit
  dsimp only
  (repeat' split) <;> simp

@[simp] theorem kept_applyEdit (k : OrderKey) (level : Word) (carried e : OrderEdit) (s : State) :
    (applyEdit k level carried e s).1.kept = s.kept := by
  unfold applyEdit
  (repeat' split) <;> simp

@[simp] theorem kept_orderEdit (level : Word) (words : List Word) (s : State) :
    (orderEdit level words s).1.kept = s.kept := by
  unfold orderEdit
  (repeat' split) <;> simp

@[simp] theorem kept_orderRead (words : List Word) (s : State) :
    (orderRead words s).1.kept = s.kept := by
  unfold orderRead
  dsimp only
  (repeat' split) <;> simp

@[simp] theorem kept_historyRead (s : State) :
    (historyRead s).1.kept = s.kept := by
  simp [historyRead]

@[simp] theorem kept_anchorLink (words : List Word) (s : State) :
    (anchorLink words s).1.kept = s.kept := by
  unfold anchorLink
  (repeat' split) <;> first | rfl | skip
  next l p _ _ k hk =>
    have hk' : s.pt.links[l.toNat]? = some (some k) := by
      cases h : s.pt.links[l.toNat]? with
      | none => simp [State.linkAt, lookup, h] at hk
      | some x => simp [State.linkAt, lookup, h] at hk; rw [hk]
    refine kept_withPt _ ?_
    simp only [PathTracker.setup]
    congr 1
    exact map_set_getElem _ _ _ _ _ hk' rfl

@[simp] theorem kept_spliceNow (words : List Word) (s : State) :
    (spliceNow words s).1.kept = s.kept := by
  unfold spliceNow
  (repeat' split) <;> simp

@[simp] theorem kept_zoneAdd (words : List Word) (s : State) :
    (zoneAdd words s).1.kept = s.kept := by
  unfold zoneAdd
  (repeat' split) <;> simp

@[simp] theorem kept_stationClear (words : List Word) (s : State) :
    (stationClear words s).1.kept = s.kept := by
  unfold stationClear
  dsimp only
  (repeat' split) <;> simp

end Sys2Proof.Machine
end

