-- ==== Sys2Proof/Laws/KeptTrack.lean ====
section
/-! SUPPORT. Laws/KeptTrack.lean: the reactions of the Path Tracker keep what Laws/Kept.lean names. -/

namespace Sys2Proof.Machine

@[simp] theorem kept_event (f : State → State) (s : State) (h : (f s).kept = s.kept) :
    (event f s).kept = s.kept := by
  simp [event, h]

@[simp] theorem kept_rebaseSection (sec : Nat) (s : State) :
    (rebaseSection sec s).kept = s.kept := by
  unfold rebaseSection
  (repeat' split) <;> first | rfl | skip
  refine kept_adjustLink _ _ _ (funext fun l => ?_)
  dsimp only [Link.rebase]
  split <;> rfl

@[simp] theorem kept_boardUpdate (sec : Nat) (s : State) :
    (boardUpdate sec s).kept = s.kept := by
  unfold boardUpdate
  dsimp only
  simp only [kept_laneStep, kept_issueDrops, kept_stackDue, kept_closeOrders, kept_takePieces, kept_gateDecisions,
    kept_knifeUpdate, kept_announceChange, kept_slitterUpdate, kept_setpointUpdate, kept_sweepOrders,
    kept_retireMarks, kept_markSeen]
  exact kept_foldl _ (fun s p => by simp) _ _

@[simp] theorem kept_webUpdate (sec : Nat) (s : State) :
    (webUpdate sec s).kept = s.kept := by
  simp [webUpdate]

@[simp] theorem kept_afterUpdate (sec : Nat) (s : State) :
    (afterUpdate sec s).kept = s.kept := by
  unfold afterUpdate
  dsimp only
  (repeat' split) <;> simp

@[simp] theorem kept_trackUpdate (sec : Nat) (count time : Word) (s : State) :
    (trackUpdate sec count time s).kept = s.kept := by
  unfold trackUpdate
  dsimp only
  (repeat' split) <;> simp

@[simp] theorem kept_raiseSwitch (sec : Nat) (count : Word) (src : SourceState) (s : State) :
    (raiseSwitch sec count src s).kept = s.kept := by
  simp [raiseSwitch]

@[simp] theorem kept_pairBackup (sec backup : Nat) (count : Word) (s : State) :
    (pairBackup sec backup count s).kept = s.kept := by
  simp [pairBackup]

@[simp] theorem kept_takeOver (sec : Nat) (src : SourceState) (set : TrackState → TrackState) (s : State) :
    (takeOver sec src set s).kept = s.kept := by
  simp [takeOver]

@[simp] theorem kept_primaryArrival (sec : Nat) (c : Section) (raw : Word) (s : State) :
    (primaryArrival sec c raw s).kept = s.kept := by
  unfold primaryArrival
  dsimp only
  (repeat' split) <;> simp

@[simp] theorem kept_backupArrival (sec : Nat) (c : Section) (slot : Nat) (raw : Word) (s : State) :
    (backupArrival sec c slot raw s).kept = s.kept := by
  unfold backupArrival
  dsimp only
  (repeat' split) <;> simp

@[simp] theorem kept_referenceArrival (sec : Nat) (c : Section) (s : State) :
    (referenceArrival sec c s).kept = s.kept := by
  unfold referenceArrival
  (repeat' split) <;> simp

@[simp] theorem kept_sectionArrival (slot sec : Nat) (s : State) :
    (sectionArrival slot sec s).kept = s.kept := by
  unfold sectionArrival
  dsimp only
  (repeat' split) <;> simp

@[simp] theorem kept_trackArrival (slot : Nat) (s : State) :
    (trackArrival slot s).kept = s.kept := by
  unfold trackArrival
  apply kept_foldl
  intro s a
  simp

@[simp] theorem kept_reckonOrHold (sec : Nat) (c : Section) (s : State) :
    (reckonOrHold sec c s).kept = s.kept := by
  unfold reckonOrHold
  (repeat' split) <;> simp

@[simp] theorem kept_backupTakeOver (sec : Nat) (c : Section) (slot : Nat) (s : State) :
    (backupTakeOver sec c slot s).kept = s.kept := by
  unfold backupTakeOver
  dsimp only
  (repeat' split) <;> simp

@[simp] theorem kept_primaryStale (sec : Nat) (c : Section) (s : State) :
    (primaryStale sec c s).kept = s.kept := by
  unfold primaryStale
  (repeat' split) <;> simp

@[simp] theorem kept_backupStale (sec : Nat) (c : Section) (s : State) :
    (backupStale sec c s).kept = s.kept := by
  unfold backupStale
  (repeat' split) <;> simp

@[simp] theorem kept_referenceStale (sec : Nat) (c : Section) (s : State) :
    (referenceStale sec c s).kept = s.kept := by
  unfold referenceStale
  (repeat' split) <;> simp

@[simp] theorem kept_sectionStale (slot sec : Nat) (s : State) :
    (sectionStale slot sec s).kept = s.kept := by
  unfold sectionStale
  dsimp only
  (repeat' split) <;> simp

@[simp] theorem kept_trackStale (slot : Nat) (s : State) :
    (trackStale slot s).kept = s.kept := by
  unfold trackStale
  apply kept_foldl
  intro s a
  simp

@[simp] theorem kept_reckonStep (sec : Nat) (s : State) :
    (reckonStep sec s).kept = s.kept := by
  unfold reckonStep
  dsimp only
  (repeat' split) <;> simp

@[simp] theorem kept_takeSnapshots (s : State) :
    (takeSnapshots s).kept = s.kept := by
  refine kept_withPt _ ?_
  simp only [PathTracker.setup, List.map_map]
  congr 1
  exact List.map_congr_left fun c _ => by cases c <;> rfl

@[simp] theorem kept_trackExpiry (s : State) :
    (trackExpiry s).kept = s.kept := by
  unfold trackExpiry
  rw [kept_takeSnapshots]
  exact kept_foldl _ (fun s sec => by simp) _ _

end Sys2Proof.Machine
end

