-- ==== Sys2Proof/Laws/KeptRelay.lean ====
section
/-! SUPPORT. Laws/KeptRelay.lean: the reactions of the Field Relay keep what Laws/Kept.lean names. -/

namespace Sys2Proof.Machine

@[simp] theorem kept_sendCell (bytes : List Byte) (s : State) :
    (sendCell bytes s).kept = s.kept := by
  unfold sendCell
  simp (disch := try with_unfolding_all exact id rfl)

@[simp] theorem kept_sendField (bytes : List Byte) (s : State) :
    (sendField bytes s).kept = s.kept := by
  unfold sendField
  simp (disch := try with_unfolding_all exact id rfl)

@[simp] theorem kept_setClock (now : Word) (s : State) :
    (setClock now s).kept = s.kept := by
  unfold setClock
  simp (disch := try with_unfolding_all exact id rfl)

@[simp] theorem kept_ownerArrival (o : Owner) (slot : Nat) (s : State) :
    (ownerArrival o slot s).kept = s.kept := by
  unfold ownerArrival
  (repeat' split) <;> simp

@[simp] theorem kept_ownerStale (o : Owner) (slot : Nat) (s : State) :
    (ownerStale o slot s).kept = s.kept := by
  unfold ownerStale
  (repeat' split) <;> simp

@[simp] theorem kept_storeValue (slot : Nat) (value aux : Word) (s : State) :
    (storeValue slot value aux s).kept = s.kept := by
  unfold storeValue
  simp (disch := try exact funext fun _ => by (repeat' split) <;> with_unfolding_all rfl)

@[simp] theorem kept_storeItem (i : Item) (kind : WatchKind) (s : State) :
    (storeItem i kind s).kept = s.kept := by
  unfold storeItem
  dsimp only
  (repeat' split) <;> simp

@[simp] theorem kept_tellJob (ch : Nat) (t : Told) (s : State) :
    (tellJob ch t s).kept = s.kept := by
  unfold tellJob
  split
  · split
    · exact kept_foldl _ (fun s i => by split <;> simp) _ _
    · exact kept_foldl _ (fun s i => by split <;> simp) _ _
    · split <;> simp
    · split <;> simp
    · rfl
  · rfl

@[simp] theorem kept_tellAnswer (ch : Nat) (r : State × Option Told) : (tellAnswer ch r).kept = r.1.kept := by
  unfold tellAnswer
  split <;> simp

@[simp] theorem kept_handAnswer (i : Item) (kind : ItemKind) (s : State) :
    (handAnswer i kind s).kept = s.kept := by
  unfold handAnswer
  (repeat' split) <;> simp

@[simp] theorem kept_timeoutStep (ch : Nat) (tag : Half) (s : State) :
    (timeoutStep ch tag s).kept = s.kept := by
  unfold timeoutStep
  (repeat' split) <;> simp

@[simp] theorem kept_examineCommands (s : State) :
    (examineCommands s).kept = s.kept := by
  unfold examineCommands
  refine kept_foldl _ (fun s ch => ?_) _ _
  split
  · rfl
  · exact kept_foldl _ (fun s t => by simp) _ _

@[simp] theorem kept_countMisses (s : State) :
    (countMisses s).kept = s.kept := by
  refine kept_withFr _ ?_
  simp only [FieldRelay.setup, List.map_map]
  congr 1
  refine List.map_congr_left fun w _ => ?_
  cases w with
  | none => rfl
  | some w =>
    simp only [Function.comp, Option.map_some]
    split <;> rfl

@[simp] theorem kept_makeStale (slot : Nat) (s : State) :
    (makeStale slot s).kept = s.kept := by
  unfold makeStale
  split
  · rfl
  · split
    · refine kept_event _ _ ?_ |>.trans ?_
      · simp
      · exact kept_adjustSlot _ _ _ rfl
    · rfl

@[simp] theorem kept_staleStep (slot : Nat) (s : State) :
    (staleStep slot s).kept = s.kept := by
  unfold staleStep
  (repeat' split) <;> simp

@[simp] theorem kept_suspectStep (station : Nat) (s : State) :
    (suspectStep station s).kept = s.kept := by
  unfold suspectStep
  split
  · rfl
  · split
    · dsimp only
      rw [kept_foldl _ (fun s k => by simp), kept_raiseNoPosition]
      exact kept_adjustHealth _ _ _ rfl
    · rfl

@[simp] theorem kept_stationExpiry (station : Nat) (s : State) :
    (stationExpiry station s).kept = s.kept := by
  unfold stationExpiry
  (repeat' split) <;> simp (disch := try exact funext fun _ => by (repeat' split) <;> with_unfolding_all rfl)

@[simp] theorem kept_askSource (src : Source) (acc : State × Asked) : (askSource src acc).1.1.kept = acc.1.kept := by
  unfold askSource
  dsimp only
  (repeat' split) <;> simp

@[simp] theorem kept_askEntry (e : ChannelEntry) (acc : State × Asked) : (askEntry e acc).1.1.kept = acc.1.kept := by
  unfold askEntry
  split <;> simp

@[simp] theorem kept_treatItem (i : Item) (kind : ItemKind) (e : ChannelEntry) (acc : State × Asked) :
    (treatItem i kind e acc).1.1.kept = acc.1.kept := by
  unfold treatItem
  (repeat' split) <;> simp

@[simp] theorem kept_rewriteItem (r : Rewrite) (i : Item) : (rewriteItem r i).acc.1.kept = r.acc.1.kept := by
  unfold rewriteItem
  dsimp only
  (repeat' split) <;> simp

theorem kept_rewrite (l : List Item) (r : Rewrite) : (l.foldl rewriteItem r).acc.1.kept = r.acc.1.kept := by
  induction l generalizing r with
  | nil => rfl
  | cons i l ih => rw [List.foldl_cons, ih, kept_rewriteItem]

@[simp] theorem kept_setGroup (mode : ChannelMode) (sets : List Key) (r : (State × Asked) × List Appended)
    (e : ChannelEntry) : (setGroup mode sets r e).1.1.kept = r.1.1.kept := by
  unfold setGroup
  dsimp only
  (repeat' split) <;> simp

theorem kept_setGroups (mode : ChannelMode) (sets : List Key) (l : List ChannelEntry)
    (r : (State × Asked) × List Appended) : (l.foldl (setGroup mode sets) r).1.1.kept = r.1.1.kept := by
  induction l generalizing r with
  | nil => rfl
  | cons e l ih => rw [List.foldl_cons, ih, kept_setGroup]

@[simp] theorem kept_appendGroups (acc : State × Asked) (sets : List Key) :
    (appendGroups acc sets).1.1.kept = acc.1.kept := by
  simp [appendGroups, kept_setGroups]

@[simp] theorem kept_placeAppended (held : Nat) (l : List Appended) (s : State) :
    (placeAppended held l s).1.kept = s.kept := by
  unfold placeAppended
  dsimp only
  rw [kept_foldl _ (fun s a => by split <;> simp)]
  split
  · exact kept_withFr _ rfl
  · rfl

@[simp] theorem kept_appendOwn (acc : State × Asked) (sets : List Key) (held : Nat) :
    (appendOwn acc sets held).1.kept = acc.1.kept := by
  unfold appendOwn
  split <;> simp

@[simp] theorem kept_beginCycle (cycle : Half) (now : Word) (s : State) :
    (beginCycle cycle now s).kept = s.kept := by
  refine kept_withFr _ ?_
  simp only [FieldRelay.setup, List.map_map]
  rfl

@[simp] theorem kept_restartTimer (now : Word) (s : State) :
    (restartTimer now s).kept = s.kept := by
  unfold restartTimer
  (repeat' split) <;> simp (disch := try with_unfolding_all exact id rfl)

@[simp] theorem kept_restoreCell (cycle : Half) (s : State) :
    (restoreCell cycle s).kept = s.kept := by
  unfold restoreCell
  (repeat' split) <;> simp (disch := try with_unfolding_all exact id rfl)

@[simp] theorem kept_readItemIn (source : Byte) (s : State) (i : Item) :
    (readItemIn source s i).kept = s.kept := by
  unfold readItemIn
  (repeat' split) <;> simp

@[simp] theorem kept_hearStation (station : Nat) (s : State) :
    (hearStation station s).kept = s.kept := by
  unfold hearStation
  (repeat' split) <;> simp

@[simp] theorem kept_goodReturnStep (f : Frame) (s : State) :
    (goodReturnStep f s).kept = s.kept := by
  unfold goodReturnStep
  split
  · rw [kept_foldl _ (fun s i => by simp), kept_hearStation]
  · exact kept_adjustHealth _ _ _ rfl

@[simp] theorem kept_relayReturn (bytes : List Byte) (s : State) :
    (relayReturn bytes s).kept = s.kept := by
  unfold relayReturn
  dsimp only
  (repeat' split) <;> simp

end Sys2Proof.Machine
end

