-- ==== Sys2Proof/Laws/Steady.lean ====
section
/-! SUPPORT. Laws/Steady.lean: what survives the steps that also take events and replies out of their queues, and
the requests: the queue of commands, the written tables, and the bounds of the two queues. -/

namespace Sys2Proof.Machine

/-- From one state to another the commands that wait and the written tables stay, and full queues stay within
their bounds. -/
structure Steady (s t : State) : Prop where
  pending : t.pending = s.pending
  tables : t.tables = s.tables
  queues : s.queuesHeld → t.queuesHeld

theorem Steady.refl (s : State) : Steady s s := ⟨rfl, rfl, id⟩

theorem Steady.trans {s t u : State} (h : Steady s t) (g : Steady t u) : Steady s u :=
  ⟨g.pending.trans h.pending, g.tables.trans h.tables, fun q => g.queues (h.queues q)⟩

theorem Steady.of_kept {s t : State} (h : t.kept = s.kept) : Steady s t := by
  have he : t.mu.events.length.ble Config.eventCapacity = s.mu.events.length.ble Config.eventCapacity :=
    congrArg Kept.eventsFit h
  have hr : t.mu.replies = s.mu.replies := congrArg Kept.replies h
  refine ⟨congrArg Kept.pending h, congrArg Kept.tables h, fun q => ⟨?_, ?_⟩⟩
  · rw [← Nat.ble_eq, he, Nat.ble_eq]
    exact q.1
  · rw [hr]
    exact q.2

theorem mode_of_kept {s t : State} (h : t.kept = s.kept) : t.mu.mode = s.mu.mode := congrArg Kept.mode h

/-! ### The expiry and the frames -/

theorem steady_ownReturn (s : State) : Steady s (ownReturn s) := by
  unfold ownReturn
  split
  · refine ⟨rfl, rfl, fun q => ⟨?_, ?_⟩⟩
    · exact le_trans (by simp [sendCell]) q.1
    · exact le_trans (by simp [sendCell]) q.2
  · exact Steady.refl s

@[simp] theorem ownReturn_mode (s : State) : (ownReturn s).mu.mode = s.mu.mode := by
  unfold ownReturn
  split <;> rfl

/-- R53: what the expiry does before its own return frame. -/
theorem kept_beforeReturn (s : State) : (expirySteps s).kept = s.kept := by
  unfold expirySteps
  rw [kept_foldl _ (fun s i => by simp), kept_examineCommands, kept_trackExpiry, kept_foldl _ (fun s k => by simp),
    kept_foldl _ (fun s k => by simp), kept_countMisses]

theorem kept_windowClosed (s : State) : (s.withFr { s.fr with windowOpen := false }).kept = s.kept :=
  kept_withFr s rfl

theorem steady_expiry (s : State) : Steady s (expiry s) := by
  have h := (Steady.of_kept (kept_beforeReturn s)).trans (steady_ownReturn _)
  unfold expiry
  exact h.trans (Steady.of_kept (kept_windowClosed _))

@[simp] theorem expiry_mode (s : State) : (expiry s).mu.mode = s.mu.mode := by
  unfold expiry
  dsimp only
  rw [mode_of_kept (kept_windowClosed _), ownReturn_mode, mode_of_kept (kept_beforeReturn s)]

theorem steady_closeWindow (s : State) : Steady s (closeWindow s) := by
  unfold closeWindow
  split
  · exact steady_expiry s
  · exact Steady.refl s

@[simp] theorem closeWindow_mode (s : State) : (closeWindow s).mu.mode = s.mu.mode := by
  unfold closeWindow
  split <;> simp

theorem kept_afterClose (bytes : List Byte) (f : Frame) (now : Word) (s : State) :
    (goodOutboundStep bytes f now s).1.kept = (closeWindow (restoreCell f.cycle s)).kept := by
  simp [goodOutboundStep, kept_rewrite]

theorem steady_goodOutboundStep (bytes : List Byte) (f : Frame) (now : Word) (s : State) :
    Steady s (goodOutboundStep bytes f now s).1 :=
  ((Steady.of_kept (kept_restoreCell f.cycle s)).trans (steady_closeWindow _)).trans
    (Steady.of_kept (kept_afterClose bytes f now s))

theorem steady_relayOutbound (bytes : List Byte) (now : Word) (s : State) :
    Steady s (relayOutbound bytes now s).1 := by
  unfold relayOutbound
  dsimp only
  split
  · exact (Steady.of_kept (kept_setClock now s)).trans (steady_goodOutboundStep ..)
  · exact ⟨rfl, rfl, id⟩

@[simp] theorem relayOutbound_mode (bytes : List Byte) (now : Word) (s : State) :
    (relayOutbound bytes now s).1.mu.mode = s.mu.mode := by
  unfold relayOutbound
  dsimp only
  split
  · rw [mode_of_kept (kept_afterClose ..), closeWindow_mode, mode_of_kept (kept_restoreCell ..)]
    rfl
  · rfl

theorem kept_originate (now : Word) (s : State) : (originate now s).kept = (closeWindow s).kept := by
  unfold originate
  dsimp only
  rw [kept_sendField, kept_appendOwn]
  exact (kept_withFr _ rfl).trans (kept_beginCycle ..)

theorem steady_originate (now : Word) (s : State) : Steady s (originate now s) :=
  (steady_closeWindow s).trans (Steady.of_kept (kept_originate now s))

@[simp] theorem originate_mode (now : Word) (s : State) : (originate now s).mu.mode = s.mu.mode :=
  (mode_of_kept (kept_originate now s)).trans (closeWindow_mode s)

/-- R57: what CELL_LOST does before the first frame is originated. -/
theorem kept_beforeOriginate (now : Word) (s : State) :
    (raiseNoPosition .cellLost (natWord s.fr.cycle.toNat) (now - s.fr.sample)
      (s.withFr { s.fr with state := .lostCell, originated := 0 })).kept = s.kept := by
  rw [kept_raiseNoPosition]
  exact kept_withFr _ rfl

theorem steady_loseCell (now : Word) (s : State) : Steady s (loseCell now s) :=
  (Steady.of_kept (kept_beforeOriginate now s)).trans (steady_originate _ _)

@[simp] theorem loseCell_mode (now : Word) (s : State) : (loseCell now s).mu.mode = s.mu.mode :=
  (originate_mode _ _).trans (mode_of_kept (kept_beforeOriginate now s))

/-! ### Requests (R164, R165) -/

/-- R165: a request is taken and answered, or neither. -/
theorem answer_cases (tag : Half) (r : Outcome) (s : State) :
    answer tag r s = queueReply tag r.2 r.1 ∧
        s.mu.replies.length + partCount r.2.words.length ≤ Config.replyCapacity ∨
      answer tag r s = loseReply s := by
  unfold answer
  split
  · next h => exact .inl ⟨rfl, of_decide_eq_true h⟩
  · exact .inr rfl

theorem parts_length (tag : Half) (a : Answer) : (a.parts tag).length = partCount a.words.length := by
  simp [Answer.parts]

/-- R165, R173: a request whose action keeps the bounds is answered within them. -/
theorem answer_queues (tag : Half) (r : Outcome) (s : State) (he : r.1.mu.replies = s.mu.replies)
    (hq : s.queuesHeld → r.1.queuesHeld) (h : s.queuesHeld) : (answer tag r s).queuesHeld := by
  rcases answer_cases tag r s with ⟨e, hfit⟩ | e
  · rw [e]
    refine ⟨(hq h).1, ?_⟩
    simp only [queueReply, State.withMu_mu, List.length_append, parts_length, he]
    exact hfit
  · rw [e]
    exact h

theorem steady_answer (tag : Half) (r : Outcome) (s : State) (h : Steady s r.1) (he : r.1.mu.replies = s.mu.replies) :
    Steady s (answer tag r s) := by
  refine ⟨?_, ?_, answer_queues tag r s he h.queues⟩
  · rcases answer_cases tag r s with ⟨e, -⟩ | e
    · rw [e]
      exact h.pending
    · rw [e]
      rfl
  · rcases answer_cases tag r s with ⟨e, -⟩ | e
    · rw [e]
      exact h.tables
    · rw [e]
      rfl

end Sys2Proof.Machine
end

