-- ==== Sys2Proof/Laws/Requests.lean ====
section
/-! SUPPORT. Laws/Requests.lean: what the requests other than table writes and mode changes keep, and the shape of a
request command: taken and answered, taken and lost, or not reached. -/

namespace Sys2Proof.Machine

/-! ### The bodies of requests -/

/-- R28, R81, R83: ending a request as an event keeps what its own action keeps. -/
theorem kept_settledWhen (force : State → Bool) (body : State → Outcome) (s : State) (h : (body s).1.kept = s.kept) :
    (settledWhen force body s).1.kept = s.kept := by
  simp [settledWhen, h]

theorem kept_settled (force : Bool) (body : State → Outcome) (s : State) (h : (body s).1.kept = s.kept) :
    (settled force body s).1.kept = s.kept := kept_settledWhen _ body s h

theorem kept_editRequest (level : Word) (words : List Word) (s : State) :
    (editRequest level words s).1.kept = s.kept := kept_settledWhen _ _ _ (by simp)

theorem kept_cancelRequest (words : List Word) (s : State) : (cancelRequest words s).1.kept = s.kept :=
  kept_settledWhen _ _ _ (by simp)

theorem kept_rushRequest (words : List Word) (s : State) : (rushRequest words s).1.kept = s.kept :=
  kept_settled _ _ _ (by simp)

theorem kept_spliceNowRequest (words : List Word) (s : State) : (spliceNowRequest words s).1.kept = s.kept :=
  kept_settled _ _ _ (by simp)

theorem kept_zoneRequest (words : List Word) (s : State) : (zoneRequest words s).1.kept = s.kept :=
  kept_settled _ _ _ (by simp)

theorem kept_clearStationRequest (words : List Word) (s : State) :
    (clearStationRequest words s).1.kept = s.kept := kept_settled _ _ _ (by simp)

/-- R166: a read changes nothing. -/
theorem readRequest_state (words : List Word) (s : State) : (readRequest words s).1 = s := by
  unfold readRequest
  split <;> rfl

/-- R170: RESET_TRACKING writes no table. -/
theorem resetAll_tables (s : State) : (resetAll s).tables = s.tables := by
  have hl : (s.pt.links.map (Option.map Link.unanchor)).map (Option.map Link.unanchor)
      = s.pt.links.map (Option.map Link.unanchor) := by
    rw [List.map_map]
    exact List.map_congr_left fun l _ => by cases l <;> rfl
  have hc : (s.ccu.records.map Channel.resetTracking).map Channel.setup = s.ccu.records.map Channel.setup := by
    rw [List.map_map]
    exact List.map_congr_left fun _ _ => rfl
  have hw : (s.sc.map (Option.map (fun w => ({ w with st := WebState.initial w.cfg.k0 } : Web)))).map
      (Option.map (·.cfg)) = s.sc.map (Option.map (·.cfg)) := by
    rw [List.map_map]
    exact List.map_congr_left fun w _ => by cases w <;> rfl
  have hs : (s.sp.stations.map (Option.map Slitter.resetTracking)).map (Option.map (·.cfg))
      = s.sp.stations.map (Option.map (·.cfg)) := by
    rw [List.map_map]
    exact List.map_congr_left fun x _ => by cases x <;> rfl
  have hg : (s.ss.generators.map (Option.map (fun g => ({ g with st := GenState.initial } : Generator)))).map
      (Option.map (·.cfg)) = s.ss.generators.map (Option.map (·.cfg)) := by
    rw [List.map_map]
    exact List.map_congr_left fun g _ => by cases g <;> rfl
  simp only [resetAll, State.tables, State.withPt, State.withWm, State.withCcu, State.withOp, State.withSc, State.withSp,
    State.withCp, State.withSg, State.withSs,
    PathTracker.setup, SlitterPair.setup, Setpoints.setup, hl, hc, hw, hs, hg]
  rfl

/-! ### A request command -/

/-- R43, R59, R164, R165: what a request command leaves. -/
theorem request_cases (k : RequestKind) (tag : Half) (level : Word) (words : List Word) (body : State → Outcome)
    (s : State) :
    request k tag level words body s = s ∨ request k tag level words body s = loseReply s ∨
      (∃ code, requestFault k level words = some code ∧
        request k tag level words body s = queueReply tag (Answer.refuse code) s) ∨
      (requestFault k level words = none ∧
        request k tag level words body s = queueReply tag (body s).2 (body s).1) := by
  unfold request takeRequest
  split
  · cases hf : requestFault k level words with
    | some code =>
      rcases answer_cases tag (refuse code s) s with ⟨e, -⟩ | e
      · exact .inr (.inr (.inl ⟨code, rfl, e⟩))
      · exact .inr (.inl e)
    | none =>
      rcases answer_cases tag (body s) s with ⟨e, -⟩ | e
      · exact .inr (.inr (.inr ⟨rfl, e⟩))
      · exact .inr (.inl e)
  · exact .inl rfl

/-- R43, R165: a request that reaches the part and whose one-part reply fits is answered. -/
theorem request_answered (k : RequestKind) (tag : Half) (level : Word) (words : List Word) (body : State → Outcome)
    (s : State) (h : s.answers) (hf : requestFault k level words = none)
    (hp : partCount (body s).2.words.length = 1) :
    request k tag level words body s = queueReply tag (body s).2 (body s).1 := by
  have hr := h.2
  unfold request takeRequest answer
  rw [if_pos h.1, hf]
  refine if_pos (decide_eq_true ?_)
  rw [hp]
  exact hr

/-- Table 11-1, R165: a reply of one part. -/
theorem queueReply_one (tag : Half) (a : Answer) (s : State) (h : partCount a.words.length = 1)
    (hc : a.code + 256 * a.sub < 65536) (hw : a.words.length ≤ 24) :
    queueReply tag a s = s.replied tag a.code a.sub a.words := by
  have hv : a.value = BitVec.ofNat 32 (a.code + 256 * a.sub + 65536) := by
    unfold Answer.value natWord wordOf
    rw [h, if_pos (by constructor <;> omega), BitVec.ofInt_natCast]
  simp [queueReply, State.replied, Answer.parts, h, hv, List.take_of_length_le hw]

/-! ### A step -/

/-- The step with a command at the front of the queue. -/
theorem step_cons (s : State) (c : Instr) (rest : List Instr) (h : s.pending = c :: rest) :
    step s = exec c (s.withPending rest) := by
  simp [step, h]

end Sys2Proof.Machine
end

