-- ==== Sys2Proof/Laws/Settle.lean ====
section
/-! SUPPORT. Laws/Settle.lean: an event that changed nothing R81 or R28 look at ends as it is. -/

namespace Sys2Proof.Machine

/-- R28: with no change noted there is nothing to announce. -/
theorem announceChange_none (s : State) (h : s.wm.boardChange = none) : announceChange s = s := by
  simp [announceChange, h]

/-- R81, R83: with no change noted, the same signature, no recomputation asked for and no BOARD update, the end of
an event does nothing. -/
theorem settle_idle (before : Signature) (s : State) (h : s.wm.boardChange = none) (hs : s.signature = before) :
    settle before false false s = s := by
  simp [settle, settleLoop, announceChange_none s h, h, hs]

/-- R83: in SETUP an event that noted no change makes no attempt; B_proj is recomputed when it is due. -/
theorem settleLoop_setup (fuel : Nat) (before : Signature) (force attempt : Bool) (s : State)
    (h : s.wm.boardChange = none) (hr : s.running = false) :
    settleLoop (fuel + 1) before force attempt s
      = if force || decide (s.signature ≠ before) then project s else s := by
  have hp : (project s).running = false := hr
  unfold settleLoop
  rw [announceChange_none s h, h]
  by_cases hd : (force || decide (s.signature ≠ before)) = true
  · simp only [hd, Option.isSome_none, Bool.not_false, Bool.and_true, if_true, hp, Bool.false_and, Bool.false_eq_true,
      if_false]
  · simp only [hd, Option.isSome_none, Bool.false_and, hr, Bool.false_eq_true, if_false]

theorem settle_setup (before : Signature) (force attempt : Bool) (s : State) (h : s.wm.boardChange = none)
    (hr : s.running = false) :
    settle before force attempt s = if force || decide (s.signature ≠ before) then project s else s :=
  settleLoop_setup _ before force attempt s h hr

/-- R81: with no open order there is no projected boundary. -/
theorem projection_none (s : State) (h : s.openOrder = none) : projection s = .none := by
  simp [projection, h]

end Sys2Proof.Machine
end

