-- ==== Sys2Proof/WellFormed.lean ====
section
/-! DEFINITION. WellFormed.lean: which commands the outside can send. `exec` is total and gives every command
its meaning; this check says which operands the field line and the tables can carry (03, Table 3-1;
00, Table 0-6). -/

namespace Sys2Proof

/-- The words an item carries are at most 24 (03, Table 3-1, word count). -/
def Instr.wordsFit (words : List Word) : Bool := words.length ≤ 24

/-- A table write with a row of its own has its table id as the first of the item's 24 words. -/
def Instr.fieldsFit (words : List Word) : Bool := words.length ≤ 23

/-- The longest frame the layout of Table 3-1 can announce: header, 65,535 bytes of items, check. -/
def Instr.bytesFit (bytes : List Byte) : Bool := bytes.length ≤ 12 + 65535 + 4

/-- The operands of a command lie in the ranges the part can be sent. -/
def Instr.wellFormed : Instr → Bool
  | .powerOnReset _ => true
  | .outboundFrame bytes _ => bytesFit bytes
  | .returnFrame bytes => bytesFit bytes
  | .returnWindowExpiry _ => true
  | .slotStale slot => slot < 96
  | .stationSuspect station => 1 ≤ station && station ≤ 62
  | .cmdTimeout channel tag => channel < 24 && tag != 0
  | .cmdOverdue channel tag => channel < 24 && tag != 0
  | .spliceCountTaken web => web < 6
  | .cellLost _ => true
  | .originateFrame _ => true
  | .sectionWrite _ _ w => fieldsFit w
  | .linkWrite _ _ w => fieldsFit w
  | .relayRecordWrite _ _ w => fieldsFit w
  | .channelTableWrite _ _ w => fieldsFit w
  | .watchTableWrite _ _ w => fieldsFit w
  | .stationThresholdWrite _ _ w => fieldsFit w
  | .commandChannelWrite _ _ w => fieldsFit w
  | .gradeWrite _ _ w => fieldsFit w
  | .patternWrite _ _ w => fieldsFit w
  | .plannerRecordWrite _ _ w => fieldsFit w
  | .spliceRecordWrite _ _ w => fieldsFit w
  | .slitterStationWrite _ _ w => fieldsFit w
  | .pairRecordWrite _ _ w => fieldsFit w
  | .cutPlannerRecordWrite _ _ w => fieldsFit w
  | .sgRecordWrite _ _ w => fieldsFit w
  | .curveWrite _ _ w => fieldsFit w
  | .generatorWrite _ _ w => fieldsFit w
  | .tableWrite _ _ w => wordsFit w
  | .tableRead _ _ w => wordsFit w
  | .orderAdd _ _ w => wordsFit w
  | .orderEdit _ _ w => wordsFit w
  | .orderCancel _ _ w => wordsFit w
  | .orderRush _ _ w => wordsFit w
  | .orderRead _ _ w => wordsFit w
  | .historyRead _ _ w => wordsFit w
  | .anchorLink _ _ w => wordsFit w
  | .spliceNow _ _ w => wordsFit w
  | .zoneAdd _ _ w => wordsFit w
  | .stationClear _ _ w => wordsFit w
  | .modeSetup _ _ => true
  | .modeRun _ _ => true
  | .resetTracking _ _ w => wordsFit w
  | .clear _ _ w => wordsFit w
  | .statusRead _ _ w => wordsFit w

end Sys2Proof
end

