-- ==== Sys2Proof/Tests/Slice0.lean ====
section
/-! SUPPORT. Tests/Slice0.lean: the model's own tests: what WellFormed refuses, a witness for the hypotheses of every
statement of Certificates/Slice0/Obligations.lean (clause by clause, at the values where clauses meet), and worked
examples of the spec, each on one command. Expected values come from the statements and from the spec. -/

namespace Sys2Proof.Tests

open Sys2Proof.Machine

set_option Elab.async false

/-! ### Helpers -/

/-- The state a command leaves. -/
def after (c : Instr) (s : State) : Option State :=
  match exec c s with
  | .next t => some t
  | _ => none

theorem free {α : Type} (n i : Nat) : lookup (List.replicate n (none : Option α)) i = none := by
  unfold lookup
  rw [List.getElem?_replicate]
  split <;> rfl

/-- A table with one loaded record holds it at its index alone. -/
theorem only {α : Type} {n k i : Nat} {a b : α}
    (h : lookup ((List.replicate n (none : Option α)).set k (some a)) i = some b) : i = k := by
  by_cases hk : i = k
  · exact hk
  · rw [lookup, List.getElem?_set_ne (Ne.symm hk)] at h
    exact nomatch ((free n i).symm.trans h)

theorem no {α : Type} {o : Option α} {a : α} {p : Prop} (h : o = none) (g : o = some a) : p := by
  rw [h] at g
  nomatch g

/-- After a reset at address 10, in SETUP, with nothing loaded. -/
def base : State := State.afterReset 10 []

def State.inRun (s : State) : State := s.withMu { s.mu with mode := .run }

/-- One loaded section, link, slot, channel, web, station or generator. -/
def State.sec (s : State) (i : Nat) (kind : SectionKind) (src : SourceState) (count : Word) (ps : List Point) : State :=
  s.setSection i (some
    { cfg := { kind := kind, primarySlot := 0, backupSlot := none, reckon := false, refSlot := none, margin := 1000
               exitDist := 200000, down := none, points := ps }
      trk := { count := count, source := src, primaryOffset := 0, backupOffset := 0, shadow := false, base := 0
               remainder := 0, lastUpdate := 0, history := [], speed := 0, snapshot := count } })

def State.slot (s : State) (i : Nat) (st ch : Byte) (o : Owner) (value aux : Word) (fresh : Bool) (run : Nat) : State :=
  s.withFr { s.fr with watch := s.fr.watch.set i (some
    { key := ⟨st, ch⟩, kind := .report, owner := o, limit := 3, value := value, aux := aux, lastCycle := none
      lastSample := 0, fresh := fresh, missRun := run }) }

def State.chan (s : State) (i : Nat) (cls : CmdClass) (st : Byte) (depth : Nat) (out : List Command) : State :=
  s.adjustChannel i (fun c => { c with cls := some cls, key := some ⟨st, 10⟩, depth := depth, outstanding := out })

def webCfg : WebCfg :=
  { sec := 4, role := .primary, channel := 0, diamSlot := 40, standbySlot := 41, countSlot := some 42, core := 1200
    k0 := 22000, dMin := 200, tol := 16, baseReserve := 400000, spliceLead := 90000, issueMargin := 10000
    zoneLead := 1000, zoneTrail := 1500, widen := 2000, failZone := 100000 }

def State.web (s : State) (i : Nat) (st : WebState) : State := s.withSc (s.sc.set i (some ⟨webCfg, st⟩))

def State.slitter (s : State) (i channel slot : Nat) (x : StationState) : State :=
  s.withSp { s.sp with stations := s.sp.stations.set i (some
    { cfg := { channel := channel, slot := slot, leadTime := 400, faultZone := 20000 }, state := x, pattern := none
      atRisk := false, live := none, settled := none, lastLead := 0 }) }

def genCfg : GenCfg :=
  { sec := 4, point := 0, tempSlot := none, gain := 384, trimMax := 200, slew := 20, outMin := 0, outMax := 2400
    liftEnable := false, liftValue := 600, liftLead := 8000, switchLead := 1000, idle := 100 }

def State.gen (s : State) (i : Nat) (st : GenState) : State :=
  s.withSs { s.ss with generators := s.ss.generators.set i (some ⟨genCfg, st⟩) }

def aCommand (tag : Half) (v : Verb) : Command :=
  { tag := tag, verb := v, args := [], role := none, accepted := false, abort := false, sendTime := some 0
    acceptTime := none, overdue := false }

def anItem (st ch kind : Byte) (tag : Half) (value : Word) : Item :=
  { station := st, channel := ch, kind := kind, tag := tag, value := value, words := [] }

def outFrame (cycle : Half) (items : List Item) : Frame :=
  { kind := 1, flags := 0, source := 0, cycle := cycle, sample := 77, items := items }

def retFrame (src : Byte) (cycle : Half) (items : List Item) : Frame :=
  { kind := 2, flags := 0, source := src, cycle := cycle, sample := 77, items := items }

def aLink : Link :=
  { up := 4, down := 6, ratio := 4096, store := false, storeWiden := 0, maxCorr := 0, aUp := 0, aDown := 0
    anchored := false }

def aGrade : Grade :=
  { released := true, width := 25000, papers := [some 1, none, none, none, none, none]
    gens := List.replicate 24 { curve := none, target := 0, trim := false } }

def aPattern : Pattern := { released := true, width := 24000, outs := 2, slits := [12000], scores := [] }

def anOrder (n : Word) (part : Nat) (st : OrderState) (start : Option BoundaryRef) : Order :=
  { key := ⟨n, part⟩, grade := 0, pattern := 0, length := 5000, sheets := 100, cuts := 50, stackCount := 10, lane := 1
    overrun := 0, state := st, start := start, fin := none, good := 20, scrap := 0, dropped := 0, split := false
    cancelled := false, breakdown := ⟨0, 0, 0, 0, 0, 0, 0, 0, 0, 0⟩ }

/-- The channel table entry of station 5's channel 1 alone. -/
def State.entry (s : State) (i : Nat) (mode : ChannelMode) (src : Option Source) (band : Option Nat) : State :=
  s.withFr { s.fr with channels := s.fr.channels.set i (some { key := ⟨5, 1⟩, mode := mode, source := src, band := band }) }

/-- Grade 0 and pattern 0 loaded, and the given queue. -/
def State.orders (s : State) (q : List Order) : State :=
  s.withOp { s.op with grades := [aGrade], patterns := [aPattern], queue := q }

def aPlan : SplicePlan :=
  { kind := .operator, state := .issued, target := 91000, boundary := none, early := false, paper := none }

/-- Generator 3 under grade 0, whose curve is level at 1,500, after the output given. -/
def heating (st : GenState) (c : GenCfg) : State :=
  let s := State.orders base []
  let g : Grade := { aGrade with gens := List.replicate 24 { curve := some 14, target := 0, trim := false } }
  let s := s.withOp { s.op with grades := [g] }
  s.withSs { s.ss with curves := s.ss.curves.set 14 [⟨0, 1500⟩, ⟨6000, 1500⟩]
                       generators := s.ss.generators.set 3 (some ⟨c, { st with inForce := some 0 }⟩) }

def accepted7 : Command := { aCommand 7 .lift with accepted := true, acceptTime := some 0 }

def aMark : Mark :=
  { slot := 0, serial := 1, kind := .splice, cause := none, sec := 4, pos := 70, lead := 1, trail := 2, widening := 0
    conf := .confirmed, reckoned := false, via := none, verifiedAt := none, origin := none, order := none
    patternChange := false }

/-! ### What WellFormed refuses: one ill-formed term for each check -/

theorem test_wordsFit_refuses : (Instr.tableWrite 1 2 (List.replicate 25 0)).wellFormed = false := by decide
theorem test_fieldsFit_refuses : (Instr.sectionWrite 1 2 (List.replicate 24 0)).wellFormed = false := by decide
theorem test_bytesFit_refuses : (Instr.returnFrame (List.replicate 65552 0)).wellFormed = false := by decide +kernel
theorem test_slot_refuses : (Instr.slotStale 96).wellFormed = false := by decide
theorem test_station_refuses :
    (Instr.stationSuspect 0).wellFormed = false ∧ (Instr.stationSuspect 63).wellFormed = false := by decide
theorem test_channel_refuses :
    (Instr.cmdTimeout 24 1).wellFormed = false ∧ (Instr.cmdOverdue 24 1).wellFormed = false := by decide
theorem test_tag_refuses :
    (Instr.cmdTimeout 0 0).wellFormed = false ∧ (Instr.cmdOverdue 0 0).wellFormed = false := by decide
theorem test_web_refuses : (Instr.spliceCountTaken 6).wellFormed = false := by decide
theorem test_wellFormed_accepts : (Instr.sectionWrite 1 2 (List.replicate 23 0)).wellFormed = true ∧
    (Instr.slotStale 95).wellFormed = true ∧ (Instr.stationSuspect 62).wellFormed = true ∧
    (Instr.cmdTimeout 23 65535).wellFormed = true ∧ (Instr.spliceCountTaken 5).wellFormed = true := by decide

/-- No row of the table gives bits, so no word spells a command and none is put in the queue. -/
theorem test_no_word_decodes : decodeTableWord 32 12345 = none ∧ base.withFetchWord 32 12345 = base := ⟨rfl, rfl⟩

/-! ### Witnesses: the step, frames and timers -/

theorem witness_StepTakesTheFront :
    (base.withPending [.clear 1 1 [], .statusRead 2 0 []]).pending = .clear 1 1 [] :: [.statusRead 2 0 []] ∧
    base.pending = [] := by decide +kernel

theorem witness_BadOutboundForwarded :
    goodOutbound [1, 2, 3] = none ∧ after (.outboundFrame [1, 2, 3] 9) base = some (base.withFr { base.fr with
      clock := 9, badOutbound := 1, fieldPort := [[1, 2, 3]] }) := by decide +kernel

def f1 : Frame := outFrame 201 [anItem 5 1 1 0 1234, anItem 63 1 7 0 0]

/-- Slot 61 of a block watches the SET item of station 5's channel 1. -/
def setWatched (o : Owner) : State := base.withFr { base.fr with watch := base.fr.watch.set 61 (some
  { key := ⟨5, 1⟩, kind := .set, owner := o, limit := 3, value := 0, aux := 0, lastCycle := none, lastSample := 0
    fresh := false, missRun := 2 }) }

def suspect5 (s : State) : State := s.adjustHealth 5 (fun h => { h with suspect := true, missRun := 4 })

def setFrame (v : Word) : Frame := outFrame 201 [anItem 5 1 1 0 v]

/-- In LOST_CELL since 4 originated frames. -/
def silent : State := base.withFr { base.fr with state := .lostCell, originated := 4 }

/-- In SETUP and, with no entry, in RUN; a watched SET item, of a station that is SUSPECT or not; a frame in LOST_CELL. -/
theorem witness_OutboundBeginsCycle :
    (goodOutbound f1.compose = some f1 ∧ base.mu.mode = .setup ∧ base.fr.state = .normal ∧
      base.fr.windowOpen = false ∧
      (∀ i ∈ f1.items, i.readKind.isSome = true → ¬(base.workingAddress = true ∧ i.station = base.ownByte)) ∧
      (∀ i ∈ f1.items, i.readKind = some .set → watchSlot i.key .set base = none) ∧
      after (.outboundFrame f1.compose 50) base = some (base.withFr { base.fr with
        clock := 50, cycle := 201, begun := true, sample := 50, windowOpen := true, windowLen := 600
        fieldPort := [f1.compose] })) ∧
    (State.inRun base).noEntries ∧
    after (.outboundFrame f1.compose 50) (State.inRun base) = some ((State.inRun base).withFr { base.fr with
      clock := 50, cycle := 201, begun := true, sample := 50, windowOpen := true, windowLen := 600, timerStart := 50
      fieldPort := [f1.compose] }) ∧
    (goodOutbound (setFrame 1234).compose = some (setFrame 1234) ∧ watchSlot ⟨5, 1⟩ .set (setWatched .ss) = some 61 ∧
      (setWatched .ss).wm.boardChange = none ∧
      (((setWatched .ss).healthAt 5).map (·.suspect), ((suspect5 (setWatched .pt)).healthAt 5).map (·.suspect))
        = (some false, some true) ∧
      ([setWatched .ss, suspect5 (setWatched .pt)].map (fun s => (after (.outboundFrame (setFrame 1234).compose 50) s).map (fun t =>
        (t.slotAt 61).map (fun w => [w.value, (w.lastCycle.getD 0).setWidth 32, w.lastSample, if w.fresh then 1 else 0
          , natWord w.missRun])))) = [some (some [1234, 201, 50, 1, 0]), some (some [1234, 201, 50, 0, 0])]) ∧
    (goodOutbound (outFrame 9 []).compose = some (outFrame 9 []) ∧ silent.fr.state = .lostCell ∧
      (after (.outboundFrame (outFrame 9 []).compose 50) silent).map (fun t => (t.fr.state, t.fr.cycle, t.fr.fieldPort)) =
        some (.normal, 9, [(outFrame 9 []).compose]) ∧
      (after (.outboundFrame (outFrame 9 []).compose 50) silent).map (fun t =>
        t.mu.events.map (fun e => (e.kind, e.subject, e.value))) = some [(.cellRestored, 9, 4)]) := by
  refine ⟨by decide +kernel, fun i => free 128 i, by decide +kernel, ⟨?_, ?_, ?_, ?_, ?_⟩, ?_, ?_, ?_, ?_⟩ <;> decide +kernel

/-- In RUN with one entry of a generator's or a command channel's source; generator 3's value is 1,420, or none. -/
def feeding (mode : ChannelMode) (band : Option Nat) (values : Bool) : State :=
  let s := State.inRun (heating { GenState.initial with lastOutput := some 1400 } genCfg)
  let s := if values then s else s.withOp { s.op with grades := [] }
  State.entry s 127 mode (some (.generator 3)) band

def commandings (l : List Command) : State :=
  State.entry (State.inRun (State.chan base 23 .slitter 9 1 l)) 127 .own (some (.command 23)) none

def commanding (x : Command) : State := commandings [x]

/-- The items a frame leaves on the field port, and whether FRAME_FULL is set. -/
def sentItems (f : Frame) (s : State) : Option (Option (List Item) × Bool) :=
  (after (.outboundFrame f.compose 50) s).map (fun t =>
    ((t.fr.fieldPort.getLast?.bind readFrame).map (·.items), t.fr.frameFull))

def fullFrame : Frame := outFrame 201 (List.replicate 96 (anItem 1 2 200 0 0))

/-- The frame check with each value settled before the next byte, so that the kernel computes it on a long frame. -/
def settledCheck : List Byte → Word → Word
  | [], r => r
  | b :: bs, r => bif crcByte r b == 0 then settledCheck bs 0 else settledCheck bs (crcByte r b)

theorem settledCheck_eq (bs : List Byte) (r : Word) : settledCheck bs r = bs.foldl crcByte r := by
  induction bs generalizing r with
  | nil => rfl
  | cons b bs ih =>
    rw [settledCheck, List.foldl_cons, ← ih]
    cases h : crcByte r b == 0
    · rfl
    · rw [eq_of_beq h]; rfl

/-- A frame of 96 items, the most an outbound frame holds, is good. -/
theorem full_frame_read : goodOutbound fullFrame.compose = some fullFrame := by
  have hc : frameCheck fullFrame.body = ~~~ settledCheck fullFrame.body 0xFFFFFFFF#32 := by rw [settledCheck_eq]; rfl
  have hv : frameCheck fullFrame.body = 88510725#32 := by rw [hc]; decide +kernel
  have hr : ∀ rest : List Byte, rest = itemArea fullFrame.items ++ wordBytes 88510725#32 →
      readFrame (1 :: 0 :: 0 :: 96 :: 0 :: 201 :: 3 :: 192 :: 0 :: 0 :: 0 :: 77 :: rest) = some fullFrame := by
    intro rest h
    have ha : (joinHalf 3 192).toNat = 960 := by decide
    have hb : [1, 0, 0, 96, 0, 201, 3, 192, 0, 0, 0, 77] ++ rest.take 960 = fullFrame.body := by rw [h]; decide +kernel
    rw [readFrame, ha]
    simp only [hb, hv]
    rw [h]
    decide +kernel
  have hl : fullFrame.body ++ wordBytes 88510725#32 = 1 :: 0 :: 0 :: 96 :: 0 :: 201 :: 3 :: 192 :: 0 :: 0 :: 0 :: 77 ::
      (itemArea fullFrame.items ++ wordBytes 88510725#32) := by decide +kernel
  rw [goodOutbound, Frame.compose, hv, hl, hr _ rfl]
  decide +kernel

def unsent7 : Command := { aCommand 7 .lift with sendTime := none }

def abort7 : Command := { accepted7 with abort := true }

/-- The send times on channel 23 after a frame. -/
def sendTimes (s : State) : Option (Option (List (Option Word))) :=
  (after (.outboundFrame (outFrame 201 []).compose 50) s).map (fun t =>
    (t.channelAt 23).map (fun c => c.outstanding.map (·.sendTime)))

theorem witness_OutboundRewritten :
    (∀ j x, (feeding .own none true).entryAt j = some x → j = 127) ∧
    (∀ j x, (commanding (aCommand 7 .lift)).entryAt j = some x → j = 127) ∧
    ((feeding .own none true).mu.mode = .run ∧ (feeding .own none true).fr.state = .normal ∧
      (feeding .own none true).fr.windowOpen = false ∧ goodOutbound (setFrame 5).compose = some (setFrame 5) ∧
      fullFrame.items.length = Config.outboundItems ∧ watchSlot ⟨5, 1⟩ .set (feeding .own none true) = none ∧
      (anItem 5 1 1 0 5).readKind = some .set ∧ (anItem 1 2 200 0 0).readKind = none ∧
      (generatorValue 3 ((feeding .own none true).begun 201 50)).2 = some 1420 ∧
      (generatorValue 3 ((feeding .own none false).begun 201 50)).2 = none) ∧
    ([(.pass, 5, 5), (.replace, 5, 1420), (.own, 5, 1420), (.clamp, 1379, 1380), (.clamp, 1380, 1380), (.clamp, 1460, 1460)
      , (.clamp, 1461, 1460)] : List (ChannelMode × Word × Word)).all (fun c =>
        sentItems (setFrame c.2.1) (feeding c.1 (some 40) true) == some (some [anItem 5 1 1 0 c.2.2], false)) = true ∧
    ([(.replace, 5), (.clamp, 5), (.own, 100)] : List (ChannelMode × Word)).all (fun c =>
        sentItems (setFrame 5) (feeding c.1 (some 40) false) == some (some [anItem 5 1 1 0 c.2], false)) = true ∧
    ([.pass, .clamp, .replace, .own] : List ChannelMode).map (fun m => sentItems (outFrame 201 []) (feeding m (some 40) true)) =
      [some (some [], false), some (some [], false), some (some [anItem 5 1 1 0 1420], false)
      , some (some [anItem 5 1 1 0 1420], false)] ∧
    [95, 96].map (fun held => let r := placeAppended held [setItem ⟨5, 1⟩ 1420] base; (r.1.fr.frameFull, r.2.length)) =
      [(false, 1), (true, 0)] ∧
    (sentItems (outFrame 201 []) (commanding unsent7) = some (some [anItem 9 10 2 7 2], false) ∧
      sendTimes (commanding unsent7) = some (some [some 50]) ∧
      sentItems (outFrame 201 []) (commanding abort7) = some (some [anItem 9 10 2 7 15], false) ∧
      sendTimes (commanding abort7) = some (some [some 0]) ∧
      sentItems (outFrame 201 []) (commanding accepted7) = some (some [], false)) := by
  refine ⟨fun j x h => only (n := 128) h, fun j x h => only (n := 128) h, ?_, ?_, ?_, ?_, ?_, ?_⟩ <;> decide +kernel

/-- PASS has no source: its item and an empty frame go on as they came. -/
theorem witness_OutboundRewritten_pass :
    let s := State.entry (State.inRun base) 127 .pass none none;
    (∀ j x, s.entryAt j = some x → j = 127) ∧
    (s.mu.mode = .run ∧ s.fr.state = .normal ∧ s.fr.windowOpen = false ∧ watchSlot ⟨5, 1⟩ .set s = none ∧
      (s.entryAt 127).map (fun e => (e.mode, e.source)) = some (.pass, none)) ∧
    [setFrame 5, outFrame 201 []].all (fun f => goodOutbound f.compose == some f &&
      after (.outboundFrame f.compose 50) s == some (sendField f.compose (s.begun 201 50))) = true := by
  refine ⟨fun j x h => only (n := 128) h, ?_, ?_⟩ <;> decide +kernel

/-- In RUN with one entry of the gate's source. -/
def gating (mode : ChannelMode) (g : Option Gate) : State :=
  let s := State.entry (State.inRun base) 127 mode (some .gate) (some 0)
  s.withCcu { s.ccu with gate := g }

/-- The gate's value under each mode, beside an item of value 5 and in an empty frame; without a value the item is
left, and an owned one is removed. -/
theorem witness_OutboundRewritten_gate :
    (∀ j x, (gating .own (some .pass)).entryAt j = some x → j = 127) ∧
    ((gating .own none).mu.mode = .run ∧ (gating .own none).fr.state = .normal ∧
      (gating .own none).fr.windowOpen = false ∧ watchSlot ⟨5, 1⟩ .set (gating .own none) = none ∧
      goodOutbound (outFrame 201 []).compose = some (outFrame 201 [])) ∧
    ([(.pass, some .pass, 5), (.replace, some .pass, 1), (.replace, some .divert, 0), (.replace, none, 5)
      , (.clamp, some .pass, 1), (.clamp, none, 5), (.own, some .pass, 1), (.own, some .divert, 0)] :
        List (ChannelMode × Option Gate × Word)).all (fun c =>
          sentItems (setFrame 5) (gating c.1 c.2.1) == some (some [anItem 5 1 1 0 c.2.2], false)) = true ∧
    sentItems (setFrame 5) (gating .own none) = some (some [], false) ∧
    ([(.pass, some .pass, []), (.clamp, some .pass, []), (.replace, some .divert, [anItem 5 1 1 0 0]), (.replace, none, [])
      , (.own, some .pass, [anItem 5 1 1 0 1]), (.own, none, [])] :
        List (ChannelMode × Option Gate × List Item)).all (fun c =>
          sentItems (outFrame 201 []) (gating c.1 c.2.1) == some (some c.2.2, false)) = true := by
  refine ⟨fun j x h => only (n := 128) h, ⟨?_, ?_, ?_, ?_, ?_⟩, ?_, ?_, ?_⟩ <;> decide +kernel

/-- Three commands in the list: one that waits for its ACCEPT, one accepted, one to be aborted. -/
def three : List Command := [unsent7, { accepted7 with tag := 6 }, { unsent7 with tag := 8, abort := true }]

/-- The items a frame with so many items already has room for, whether FRAME_FULL is set, and the send times. -/
def placedBeside (held : Nat) (l : List Command) : List Item × Bool × Option (List (Option Word)) :=
  let s := commandings l
  let r := placeAppended held (commandGroup s) s
  (r.2, r.1.fr.frameFull, (r.1.channelAt 23).map (fun c => c.outstanding.map (·.sendTime)))

theorem witness_OutboundRewritten_commands :
    (∀ j x, (commandings three).entryAt j = some x → j = 127) ∧ (three.map (·.tag)).Nodup ∧
    sentItems (outFrame 201 []) (commandings three) = some (some [anItem 9 10 2 7 2, anItem 9 10 2 8 15], false) ∧
    sendTimes (commandings three) = some (some [some 50, some 0, some 50]) ∧
    placedBeside 94 three = ([anItem 9 10 2 7 2, anItem 9 10 2 8 15], false, some [some 0, some 0, some 0]) ∧
    placedBeside 95 three = ([anItem 9 10 2 7 2], true, some [some 0, some 0, none]) ∧
    placedBeside 96 three = ([], true, some [none, some 0, none]) ∧
    placedBeside 96 [accepted7] = ([], false, some [some 0]) := by
  refine ⟨fun j x h => only (n := 128) h, ?_, ?_, ?_, ?_, ?_, ?_, ?_⟩ <;> decide +kernel

/-- An MREQ item to the part. -/
def ask (kind : Byte) (tag : Half) (level : Word) (ws : List Word) : Item := ⟨10, kind, 7, tag, level, ws⟩

/-- Four requests, one with an effect, and a fifth and a sixth that are BUSY. -/
def six : Frame := outFrame 3 [ask 15 1 1 [], ask 15 2 0 [], ask 14 3 0 [], ask 15 4 0 [], ask 16 5 0 [], ask 16 6 0 []]

/-- The tags and value words of the replies a frame leaves. -/
def repliesAfter (f : Frame) (s : State) : Option (List (Half × Word)) :=
  (after (.outboundFrame f.compose 50) s).map (fun t => t.mu.replies.map (fun r => (r.tag, r.value)))

def almostFull : State := base.withMu { base.mu with replies := List.replicate 63 ⟨1, 0, 0, []⟩ }

/-- The six; one request of four rows each; a request of unknown kind; a queue with room for one. -/
theorem witness_FrameRequestsTaken :
    (goodOutbound six.compose = some six ∧ base.workingAddress = true ∧
      (∀ i ∈ six.items, i.readKind = some .mreq ∧ i.station = base.ownByte) ∧
      (six.items.take 4).map requestRow =
        [some (.clear 1 1 []), some (.clear 2 0 []), some (.resetTracking 3 0 []), some (.clear 4 0 [])]) ∧
    (after (.outboundFrame six.compose 50) base).map (·.fr.fieldPort) =
      some [({ six with items := [] } : Frame).compose] ∧
    repliesAfter six base =
      some [(1, 65536), (2, 65541), (3, 65541), (4, 65541), (5, 65538), (6, 65538)] ∧
    ([(ask 14 1 2 [], .resetTracking 1 2 []), (ask 13 1 2 [0], .modeSetup 1 2), (ask 2 1 0 [2, 10, 0], .tableRead 1 0 [2, 10, 0])
      , (ask 16 1 0 [], .statusRead 1 0 [])] : List (Item × Instr)).all (fun x => requestRow x.1 == some x.2 &&
        (repliesAfter (outFrame 3 [x.1]) base).map (·.map (·.1)) == some [1]) = true ∧
    (goodOutbound (outFrame 3 [ask 17 9 0 []]).compose = some (outFrame 3 [ask 17 9 0 []]) ∧
      RequestKind.ofCode 17 = none ∧ repliesAfter (outFrame 3 [ask 17 9 0 []]) base = some [(9, 65539)]) ∧
    (after (.outboundFrame six.compose 50) almostFull).map (fun t => (t.mu.replies.length, t.mu.replyLost)) =
      some (64, true) := by
  refine ⟨?_, ?_, ?_, ?_, ?_, ?_⟩ <;> decide +kernel

/-- Station byte 1, 62, 0 and 63 are where the clauses on bad frames meet. -/
theorem witness_LateOrBadReturnCounted :
    (goodReturn (retFrame 3 7 []).compose = some (retFrame 3 7 []) ∧
      ¬(base.fr.windowOpen = true ∧ (retFrame 3 7 []).cycle = base.fr.cycle) ∧
      ¬(base.workingAddress = true ∧ (retFrame 3 7 []).source = base.ownByte) ∧
      (after (.returnFrame (retFrame 3 7 []).compose) base).map (fun t => (t.healthAt 3).map (·.late)) = some (some 1)) ∧
    (([1, 62] : List Byte).all (fun b => ([2, 0, b] : List Byte)[2]? == some b && (goodReturn [2, 0, b]).isNone &&
      1 ≤ b.toNat && b.toNat ≤ 62 && !(base.workingAddress && b == base.ownByte) &&
      (after (.returnFrame [2, 0, b]) base).map (fun t => (t.healthAt b.toNat).map (·.bad)) == some (some 1))) = true ∧
    (([[2, 0, 0], [2, 0, 63], []] : List (List Byte)).all (fun bytes => (goodReturn bytes).isNone &&
      bytes[2]?.all (fun b => b.toNat = 0 ∨ 62 < b.toNat) &&
      after (.returnFrame bytes) base == some (base.withFr { base.fr with cellPort := [bytes] }))) = true := by
  decide +kernel

/-- A window open in cycle 0 and slot 60 of the Stack and Gate Unit on station 6. -/
def listening : State := (State.slot base 60 6 0 .sg 0 0 false 2).withFr
  { (State.slot base 60 6 0 .sg 0 0 false 2).fr with windowOpen := true, sample := 1000 }

def f2 : Frame := retFrame 6 0 [anItem 6 0 6 0 1]

def suspect6 : State := listening.adjustHealth 6 (fun h => { h with suspect := true, missRun := 4, threshold := 3 })

theorem witness_InTimeReturnTaken :
    (goodReturn f2.compose = some f2 ∧ listening.fr.windowOpen = true ∧ f2.cycle = listening.fr.cycle ∧
      ¬(listening.workingAddress = true ∧ f2.source = listening.ownByte) ∧ listening.wm.boardChange = none ∧
      f2.items = [anItem 6 0 6 0 1] ∧ (anItem 6 0 6 0 1).station = f2.source ∧
      (anItem 6 0 6 0 1).readKind = some .report ∧ watchSlot ⟨6, 0⟩ .report listening = some 60 ∧
      (listening.slotAt 60).map (·.owner) = some .sg ∧
      (listening.healthAt f2.source.toNat).map (·.suspect) = some false ∧
      (after (.returnFrame f2.compose) listening).map (fun t => (t.slotAt 60).map (fun w => (w.value, w.fresh, w.missRun)))
        = some (some (1, true, 0))) ∧
    (goodReturn (retFrame 6 0 []).compose = some (retFrame 6 0 []) ∧ suspect6.fr.windowOpen = true ∧
      (retFrame 6 0 []).cycle = suspect6.fr.cycle ∧
      ¬(suspect6.workingAddress = true ∧ (6 : Byte) = suspect6.ownByte) ∧ suspect6.wm.boardChange = none ∧
      (suspect6.healthAt 6).map (·.suspect) = some true ∧
      (after (.returnFrame (retFrame 6 0 []).compose) suspect6).map (fun t =>
        ((t.healthAt 6).map (fun h => (h.suspect, h.missRun)), t.mu.events.map (fun e => (e.kind, e.subject))))
        = some (some (false, 0), [(.stationRestored, 6)])) := by decide +kernel

/-- The state a return frame of cycle 0 with one item leaves. -/
def received (i : Item) (s : State) : Option State := after (.returnFrame (retFrame i.station 0 [i]).compose) s

/-- In RUN with an open window, at sample time 1,000. -/
def State.listens (s : State) : State :=
  State.inRun (s.withFr { s.fr with windowOpen := true, sample := 1000 })

def aReport (st ch : Byte) (value aux : Word) : Item := { anItem st ch 6 0 value with words := [aux] }

/-- A frame with an item is good and read in time, and the item's slot belongs to an owner. -/
def reportsTo (s : State) (i : Item) (k : Nat) (o : Owner) : Bool :=
  goodReturn (retFrame i.station 0 [i]).compose == some (retFrame i.station 0 [i]) && s.fr.windowOpen && s.fr.cycle == 0 &&
    !(s.workingAddress && i.station == s.ownByte) && s.wm.boardChange == none && i.readKind == some .report &&
    watchSlot i.key .report s == some k && (s.slotAt k).any (·.owner == o) &&
    (s.healthAt i.station.toNat).any (fun h => !h.suspect)

/-- Point 0 of section 4 at 10,000, with window 900, watched by slot 1 of the Web Map; the baseline and marks given. -/
def jointed (baseline : Option Half) (marks : List Mark) : State :=
  let s := State.sec (State.slot base 1 1 1 .wm 0 0 false 0) 4 .web .primary 60000 [⟨.jointSensor 1 900 10 100 200, 10000⟩]
  let s := s.setLink 10 (some { aLink with up := 2, down := 4, aDown := 5, maxCorr := 900, anchored := true })
  State.listens (s.adjustMap 4 (fun m => { m with baselines := m.baselines.set 0 baseline, marks := marks }))

def atJoint (slot : Nat) (pos : Word) (via : Option Nat) : Mark := { aMark with slot := slot, pos := pos, via := via }

structure JointView where
  baseline : Option Half
  marks : List (Word × Bool × Nat × Nat)
  anchor : Option Word
  events : List Event
  deriving DecidableEq

/-- The baseline, the marks, link 10 and the events after count 9 at raw position 50,000, which is P_j 40,000. -/
def jointSeen (s : State) : Option JointView :=
  (received (aReport 1 1 50000 9) s).map (fun t =>
    { baseline := ((t.mapAt 4).baselines[0]?).join
      marks := (t.mapAt 4).marks.map (fun m => (m.pos, m.conf == .verified, m.lead, m.trail))
      anchor := (t.linkAt 10).map (·.aDown), events := t.mu.events })

/-- No baseline, the same count and SETUP; no mark in the window; a mark at each end of it, beside one just outside, without
a link and with one that takes the whole error of 900. -/
theorem witness_InTimeReturnTaken_map :
    (∀ sec c point p a b d e f, (jointed none []).sectionAt sec = some c → c.cfg.points[point]? = some p →
      p.use = .jointSensor a b d e f → sec = 4 ∧ point = 0) ∧
    (reportsTo (jointed (some 7) []) (aReport 1 1 50000 9) 1 .wm = true ∧ (jointed (some 7) []).isBoard 4 = false ∧
      4 < (jointed (some 7) []).wm.maps.length ∧
      Config.boundaryLimit - (jointed (some 7) []).boundaryCount < (jointed (some 7) []).freeCount) ∧
    ([jointed none [], jointed (some 9) [], (jointed (some 7) []).withMu base.mu].map jointSeen ==
      List.replicate 3 (some ⟨some 9, [], some 5, []⟩)) = true ∧
    jointSeen (jointed (some 7) []) =
      some ⟨some 9, [(40000, false, 100, 200)], some 5, [⟨.jointUnexpected, 32, 40000, 2, 0⟩]⟩ ∧
    jointSeen (jointed (some 7) [atJoint 150 39100 none, atJoint 151 39099 (some 10)]) =
      some ⟨some 9, [(39099, false, 1, 2), (40000, true, 1, 2)], some 5, [⟨.jointMatched, 150, 40000, 900, 0⟩]⟩ ∧
    jointSeen (jointed (some 7) [atJoint 150 40900 (some 10), atJoint 151 40901 none]) =
      some ⟨some 9, [(40000, true, 1, 2), (40901, false, 1, 2)], some (5 - 900)
        , [⟨.jointMatched, 150, 40000, wordOf (-900), 0⟩]⟩ := by
  refine ⟨fun sec c point p a b d e f h hp _ => ?_, ⟨?_, ?_, ?_, ?_⟩, ?_, ?_, ?_, ?_⟩
  · have hs : sec = 4 := only (n := 12) h
    subst hs
    cases h
    match point, hp with
    | 0, _ => exact ⟨rfl, rfl⟩
    | n + 1, hp => nomatch hp
  all_goals decide +kernel

/-- Web 5 with the samples given and confidence 1, its section at 4,000,000. -/
def reeled (src : SourceState) (hold : Option Half) (samples : List (Word × Nat)) : State :=
  let x : WebState := { WebState.initial 22000 with
    samples := samples, reelKnown := !samples.isEmpty, confidence := 1, holdCycle := hold }
  State.listens (State.sec (State.web (State.slot base 40 2 0 .sc 0 0 false 0) 5 x) 4 .web src 4000000 [])

/-- The samples, K, confidence, remaining length and reserve a diameter leaves; reel known, as 1. -/
def measured (d : Word) (s : State) : Option (Option (List (Word × Nat) × List Nat)) :=
  (received (aReport 2 0 d 0) s).map (fun t => (t.webAt 5).map (fun w =>
    (w.st.samples, [w.st.k, w.st.confidence, w.st.lastLength, w.st.lastReserve, if w.st.reelKnown then 1 else 0])))

/-- A first sample, and none in HELD or in the hold cycle; 200 below the newest and 199 below; an estimate that confirms K,
one that replaces it, and none where the counter stands; a fifth sample; a diameter at the core. -/
theorem witness_InTimeReturnTaken_diameter :
    (reportsTo (reeled .primary none []) (aReport 2 0 24000 0) 40 .sc = true ∧ (reeled .primary none []).mu.mode = .run ∧
      ((reeled .primary none []).webAt 5).map (·.cfg.diamSlot) = some 40) ∧
    (measured 24000 (reeled .primary none []) = some (some ([(4000000, 24000)], [22000, 1, 192875976, 600000, 1])) ∧
      measured 24000 (reeled .held none []) = some (some ([], [22000, 1, 0, 0, 0])) ∧
      measured 24000 (reeled .primary (some 0) []) = some (some ([], [22000, 1, 0, 0, 0]))) ∧
    (measured 23800 (reeled .primary none [(790000, 24000)]) =
        some (some ([(790000, 24000), (4000000, 23800)], [22000, 2, 189666748, 400000, 1])) ∧
      measured 23801 (reeled .primary none [(790000, 24000)]) =
        some (some ([(790000, 24000)], [22000, 1, 189682727, 600000, 1]))) ∧
    (measured 23000 (reeled .primary none [(790000, 24000)]) =
        some (some ([(790000, 24000), (4000000, 23000)], [4475, 0, 36023422, 800000, 1])) ∧
      measured 23000 (reeled .primary none [(4000000, 24000)]) =
        some (some ([(4000000, 24000), (4000000, 23000)], [22000, 1, 177098388, 600000, 1]))) ∧
    ((measured 23000 (reeled .primary none [(9, 24600), (1, 24400), (2, 24200), (3, 24000)])).map
        (·.map (·.1)) = some (some [(1, 24400), (2, 24200), (3, 24000), (4000000, 23000)]) ∧
      (measured 1200 (reeled .primary none [(4000000, 24600)])).map (·.map (fun x => x.2[2]?)) = some (some (some 0))) := by
  refine ⟨⟨?_, ?_, ?_⟩, ⟨?_, ?_, ?_⟩, ⟨?_, ?_⟩, ⟨?_, ?_⟩, ?_, ?_⟩ <;> decide +kernel

/-- Station B on channel 3 with the command given outstanding, and a swap, with BOARD at 90,000. -/
def followed (x : StationState) (live : Option LiveCommand) (swap : Option Swap) : State :=
  let s := State.slitter (State.sec (State.slot base 51 4 0 .sp 0 0 false 0) 7 .board .held 90000 [⟨.slitterB, 35000⟩]) 1 3 51 x
  let s := (State.chan s 3 .slitter 9 1 [aCommand 7 .lift]).adjustStation 1 (fun x => { x with live := live, pattern := some 2 })
  State.listens (s.withSp { s.sp with swap := swap })

def swapOf (stage : SwapStage) (drop : DropProgress) (lift : LiftProgress) (new : Nat) (boundary : Option BoundaryRef) : Swap :=
  { kind := .boundary, boundary := boundary, pattern := 2, newStation := new, oldStation := some (1 - new), stage := stage
    drop := drop, lift := lift, lateStart := if boundary.isSome then none else some 800 }

structure StationView where
  state : Option (StationState × Option Nat × Option Half)
  aborts : Option (List Bool)
  swap : Option (DropProgress × LiftProgress)
  events : List Event
  deriving DecidableEq

/-- The station, whether the abort of its command was asked for, the swap's drop and lift and the events after a report. -/
def stationSeen (value aux : Word) (s : State) : Option StationView :=
  (received (aReport 4 0 value aux) s).map (fun t =>
    { state := (t.stationAt 1).map (fun x => (x.state, x.pattern, x.settled))
      aborts := (t.channelAt 3).map (fun c => c.outstanding.map (·.abort))
      swap := t.sp.swap.map (fun w => (w.drop, w.lift)), events := t.mu.events })

def lifting : State := followed .engaged (some ⟨.lift, 7⟩) none

/-- A report that shows nothing; tool state FAULT, and of a FAULT station; a LIFT done without a swap, with one that goes on
and one that ends; a DROP that ends a recovery's swap; a PRESET of a waiting swap. -/
theorem witness_InTimeReturnTaken_slitter :
    (reportsTo lifting (aReport 4 0 7 0) 51 .sp = true ∧ lifting.boardIndex = some 7 ∧
      (lifting.channelAt 3).any (fun c => c.pend == none && c.outstanding.any (·.tag == 7)) = true ∧
      Config.boundaryLimit - lifting.boundaryCount < lifting.freeCount) ∧
    (∀ j z, lifting.stationAt j = some z → z.cfg.slot = 51 → j = 1) ∧
    (stationSeen 7 0 lifting = some ⟨some (.engaged, some 2, none), some [false], none, []⟩ ∧
      stationSeen 7 4 lifting =
        some ⟨some (.fault, some 2, none), some [true], none, [⟨.slitterFault, 1, 55000, 4, 0⟩]⟩ ∧
      stationSeen 7 4 (followed .fault none none) = some ⟨some (.fault, some 2, none), some [false], none, []⟩) ∧
    (stationSeen 0 1 lifting = some ⟨some (.idle, none, some 7), some [true], none, []⟩ ∧
      stationSeen 0 1 (followed .engaged (some ⟨.lift, 7⟩) (some (swapOf .moving .sent .sent 0 (some ⟨3, 4, 5000⟩)))) =
        some ⟨some (.idle, none, some 7), some [true], some (.sent, .done), []⟩ ∧
      stationSeen 0 1 (followed .engaged (some ⟨.lift, 7⟩) (some (swapOf .moving .done .sent 0 (some ⟨3, 4, 5000⟩)))) =
        some ⟨some (.idle, none, some 7), some [true], none, [⟨.swapDone, 0, 5000, 0, 0⟩]⟩) ∧
    (stationSeen 0 2 (followed .preset (some ⟨.slitterDrop, 7⟩) (some (swapOf .moving .sent .notNeeded 1 none))) =
        some ⟨some (.engaged, some 2, some 7), some [true], none, [⟨.swapDone, 1, 800, wordOf (-800), 0⟩]⟩ ∧
      stationSeen 7 0 (followed .presetting (some ⟨.preset, 7⟩) (some (swapOf .waiting .notSent .notSent 1 (some ⟨3, 4, 5000⟩)))) =
        some ⟨some (.preset, some 2, some 7), some [true], some (.notSent, .notSent), []⟩) := by
  refine ⟨⟨?_, ?_, ?_, ?_⟩, fun j z h _ => ?_, ⟨?_, ?_, ?_⟩, ⟨?_, ?_, ?_⟩, ?_, ?_⟩
  case refine_5 =>
    match j, h with
    | 0, h => exact nomatch h
    | 1, _ => rfl
    | j + 2, h => exact nomatch h
  all_goals decide +kernel

/-- The knife on channel 2 with cuts 7 and 8 sent, the knife at 40,000 and the gate at 30,000. -/
def cutsAt (cut : CutPlanner → CutPlanner) (forward : Option Forward) : State :=
  let s := State.sec base 7 .board .primary 100000 [⟨.knife, 60000⟩, ⟨.gate, 70000⟩, ⟨.stacker, 100000⟩]
  let s := State.chan s 2 .knife 9 2 [aCommand 7 .cutAt, aCommand 8 .cutAt]
  let s := s.withSg { s.sg with forward := forward }
  State.listens (s.withCp (cut { s.cp with
    knife := some 2, horizon := 10000, frontFault := false, base := some 32000, lastCut := some 32000
    plan := [{ target := 37000, good := true, cause := none, order := none, sent := some 7 }
      , { target := 39900, good := false, cause := some .tail, order := none, sent := some 8 }] }))

def cutDone (words : List Word) : Item := { anItem 9 10 4 7 1 with words := words }

structure CutView where
  pieces : List (Word × Word × Bool × Option Route)
  lastCut : Option Word
  frontFault : Bool
  events : List Event
  deriving DecidableEq

/-- The pieces with CUT_FAULT and route, the last actual cut, front fault and the events after a DONE. -/
def cutSeen (words : List Word) (s : State) : Option CutView :=
  (received (cutDone words) s).map (fun t =>
    { pieces := t.cp.pieces.map (fun p => (p.lead, p.trail, p.cutFault, p.route))
      lastCut := t.cp.lastCut, frontFault := t.cp.frontFault, events := t.mu.events })

/-- A cut at its target, by its word and without one; cut_tol of 50 and one beyond; min_piece of 2,500 and one less, from the
last cut and from the plan base; a forward route: DIVERT, PASS kept, PASS withdrawn, and one for another piece. -/
theorem witness_KnifeDoneFormsPiece :
    (goodReturn (retFrame 9 0 [cutDone [37000]]).compose = some (retFrame 9 0 [cutDone [37000]]) ∧
      (cutDone [37000]).readKind = some .done ∧ (cutsAt id none).fr.windowOpen = true ∧ (cutsAt id none).fr.cycle = 0 ∧
      ¬((cutsAt id none).workingAddress = true ∧ (9 : Byte) = (cutsAt id none).ownByte) ∧
      (cutsAt id none).wm.boardChange = none ∧ ((cutsAt id none).healthAt 9).map (·.suspect) = some false ∧
      channelOf ⟨9, 10⟩ (cutsAt id none) = some 2 ∧
      ((cutsAt id none).channelAt 2).any (fun c => c.cls == some .knife && !c.fault &&
        c.outstanding.find? (·.tag == 7) == some (aCommand 7 .cutAt)) = true ∧
      (cutsAt id none).boardIndex = some 7 ∧ (cutsAt id none).materialAt .gate = some 30000 ∧
      (cutsAt id none).cp.cutTol = 50 ∧ (cutsAt id none).cp.minPiece = 2500) ∧
    ([[37000], []].map (fun w => cutSeen w (cutsAt id none)) ==
      List.replicate 2 (some ⟨[(32000, 37000, false, none)], some 37000, false, []⟩)) = true ∧
    (cutSeen [37050] (cutsAt id none) = some ⟨[(32000, 37050, false, none)], some 37050, false, []⟩ ∧
      cutSeen [37051] (cutsAt id none) =
        some ⟨[(32000, 37051, true, none)], some 37051, true, [⟨.cutOffTol, 7, 37051, 51, 0⟩]⟩) ∧
    (cutSeen [34500] (cutsAt id none) =
        some ⟨[(32000, 34500, true, none)], some 34500, true, [⟨.cutOffTol, 7, 34500, wordOf (-2500), 0⟩]⟩ ∧
      ([id, fun c => { c with lastCut := none }].map (fun f => cutSeen [34499] (cutsAt f none)) ==
        List.replicate 2 (some ⟨[], some 32000, true, [⟨.cutOffTol, 7, 34499, wordOf (-2501), 0⟩]⟩)) = true) ∧
    (cutSeen [37000] (cutsAt id (some ⟨32000, .divert .zone⟩)) =
        some ⟨[(32000, 37000, false, some (.divert .zone))], some 37000, false, []⟩ ∧
      cutSeen [37000] (cutsAt id (some ⟨32000, .pass⟩)) =
        some ⟨[(32000, 37000, false, some .pass)], some 37000, false, []⟩ ∧
      cutSeen [37000] (cutsAt (fun c => { c with frontFault := true }) (some ⟨32000, .pass⟩)) =
        some ⟨[(32000, 37000, true, some (.divert .cutFault))], some 37000, false, [⟨.gateWithdrawn, 0, 32000, 1, 0⟩]⟩ ∧
      cutSeen [37000] (cutsAt id (some ⟨31999, .pass⟩)) =
        some ⟨[(32000, 37000, false, none)], some 37000, false, []⟩) ∧
    (received (cutDone [37000]) (cutsAt id none)).map (fun t =>
      (t.cp.plan.head?.bind (·.sent), t.cp.base, (t.channelAt 2).map (·.recent))) =
        some (some 8, some 37000, some [7]) := by
  refine ⟨⟨?_, ?_, ?_, ?_, ?_, ?_, ?_, ?_, ?_, ?_, ?_, ?_, ?_⟩, ?_, ⟨?_, ?_⟩, ⟨?_, ?_⟩, ⟨?_, ?_, ?_, ?_⟩, ?_⟩ <;>
    decide +kernel

/-- Command channel 5 of station 9's channel 10 in an open window, in SETUP. -/
def answering (out : List Command) (pend : Option Command) (recent : List Half) (fault : Bool) : State :=
  let s := (State.chan base 5 .slitter 9 1 out).adjustChannel 5 (fun c =>
    { c with pend := pend, recent := recent, fault := fault, lastUnsol := some ⟨1, [], 65533⟩ })
  s.withFr { s.fr with windowOpen := true, sample := 1000 }

/-- The channel an answer leaves, and the events. -/
def answered (kind : Byte) (tag : Half) (value : Word) (s : State) : Option (Option Channel × List EventKind) :=
  (after (.returnFrame (retFrame 9 0 [anItem 9 10 kind tag value]).compose) s).map (fun t =>
    (t.channelAt 5, t.mu.events.map (·.kind)))

/-- One command; one with a command pending behind it and 4 recent tags; none, in FAULT. -/
def one7 : State := answering [aCommand 7 .lift] none [] false
def behind7 : State := answering [aCommand 7 .lift] (some (aCommand 8 .slitterDrop)) [1, 2, 3, 4] false
def faulted : State := answering [] none [4] true

def record5 (s : State) : Channel := (s.channelAt 5).getD Channel.initial

/-- ACCEPT once and again; DONE and REFUSE with and without a pending command, and with 4 recent tags; unsolicited DONEs:
a recent tag, another, tag 0 three cycles after its like and with another value; FAULT ended. -/
theorem witness_CommandAnswersTaken :
    (goodReturn (retFrame 9 0 [anItem 9 10 4 7 1]).compose = some (retFrame 9 0 [anItem 9 10 4 7 1]) ∧
      one7.fr.windowOpen = true ∧ one7.fr.cycle = 0 ∧ ¬(one7.workingAddress = true ∧ (9 : Byte) = one7.ownByte) ∧
      one7.wm.boardChange = none ∧ (one7.healthAt 9).map (·.suspect) = some false ∧ channelOf ⟨9, 10⟩ one7 = some 5 ∧
      one7.mu.mode = .setup ∧ (anItem 9 10 3 7 1).readKind = some .accept ∧ (anItem 9 10 4 7 1).readKind = some .done ∧
      (anItem 9 10 5 7 1).readKind = some .refuse ∧
      (one7.channelAt 5).isSome = true ∧ (behind7.channelAt 5).isSome = true ∧ (faulted.channelAt 5).isSome = true) ∧
    (answered 3 7 0 one7 = some (some { (record5 one7) with outstanding :=
        [{ aCommand 7 .lift with accepted := true, acceptTime := some 1000 }] }, []) ∧
      answered 3 7 0 (answering [accepted7] none [] false) = some ((answering [accepted7] none [] false).channelAt 5, []) ∧
      answered 4 7 1 one7 = some (some { (record5 one7) with outstanding := [], recent := [7] }, []) ∧
      answered 5 7 1 one7 = answered 4 7 1 one7 ∧ answered 5 8 1 one7 = some (some (record5 one7), [])) ∧
    (answered 4 7 1 behind7 = some (some { (record5 behind7) with
        outstanding := [aCommand 8 .slitterDrop], pend := none, recent := [2, 3, 4, 7] }, []) ∧
      answered 4 4 1 behind7 = some (some (record5 behind7), []) ∧
      answered 4 9 1 behind7 = some (some { (record5 behind7) with recent := [2, 3, 4, 9] }, []) ∧
      answered 4 0 1 behind7 = some (some (record5 behind7), []) ∧
      answered 4 0 2 behind7 = some (some { (record5 behind7) with lastUnsol := some ⟨2, [], 0⟩ }, [])) ∧
    (answered 3 7 0 faulted = some (some { (record5 faulted) with fault := false }, [.channelRecovered]) ∧
      answered 4 4 0 faulted = some (some { (record5 faulted) with fault := false }, [.channelRecovered]) ∧
      answered 5 7 0 faulted = some (some (record5 faulted), [])) := by
  refine ⟨?_, ?_, ?_, ?_⟩ <;> decide +kernel

/-- Eight events and twenty replies waiting: 6 events and 17 replies leave beside the status item. -/
def owing : State := listening.withMu { listening.mu with
  events := List.replicate 8 ⟨.cellLost, 1, 2, 3, 4⟩, replies := List.replicate 20 ⟨1, 0, 65536, []⟩ }

def homeless : State := listening.withFr { listening.fr with ownAddr := 0 }

/-- The window of 600 us closes at 600 and not at 599; a part without a working address sends nothing. The own frame is
told by its kind, source and item count. -/
theorem witness_WindowExpires :
    (owing.fr.windowOpen = true ∧ owing.fr.windowLen ≤ ((1600 : Word) - owing.fr.sample).toNat ∧
      owing.workingAddress = true ∧
      (after (.returnWindowExpiry 1600) owing).map (fun t => (t.fr.windowOpen, t.mu.events.length, t.mu.replies.length))
        = some (false, 2, 3)) ∧
    (after (.returnWindowExpiry 1600) owing).map (fun t => t.fr.cellPort.map (fun b => [b[0]?, b[2]?, b[3]?])) =
      some [[some 2, some 10, some 24]] ∧
    (homeless.workingAddress = false ∧
      (after (.returnWindowExpiry 1600) homeless).map (fun t => (t.fr.windowOpen, t.fr.cellPort)) = some (false, [])) ∧
    ¬(listening.fr.windowOpen = true ∧ listening.fr.windowLen ≤ ((1599 : Word) - listening.fr.sample).toNat) ∧
    after (.returnWindowExpiry 1599) listening = some (listening.withFr { listening.fr with clock := 1599 }) := by
  refine ⟨?_, ?_, ?_, ?_, ?_⟩ <;> decide +kernel

/-- In RUN with an open window at sample time 50,000 and section 4 at 60,000, without a working address. -/
def State.expiring (s : State) : State :=
  let s := (State.inRun (State.sec s 4 .web .primary 60000 [])).withFr { s.fr with windowOpen := true, sample := 50000, ownAddr := 0 }
  s.adjustTrack 4 (fun t => { t with snapshot := 1 })

/-- Slot 60 FRESH and one expiry short of its limit, station 6 one short of its threshold, and command 7 at its accept
timeout. -/
def dueExpiry : State := State.expiring (State.chan ((State.slot base 60 6 0 .sg 5 0 true 2).adjustHealth 6 (fun h =>
  { h with threshold := 3, missRun := 2 })) 5 .slitter 9 1 [aCommand 7 .lift])

/-- The slot two short of its limit, a threshold of 4, and the command 1 us short; web 5 whose count is ahead waits. -/
def quietExpiry : State :=
  let s := (State.slot base 60 6 0 .sg 5 0 true 1).adjustHealth 6 (fun h => { h with threshold := 4, missRun := 2 })
  let s := State.web s 5 { WebState.initial 22000 with countSeen := some 4, accounted := some 3, countWait := 1 }
  State.expiring (State.chan s 5 .slitter 9 1 [{ aCommand 7 .lift with sendTime := some 1 }])

/-- The state after the slots' and stations' rows, and after the rows of the commands, as the statement has them. -/
def stationsExamined (s : State) : State :=
  let slot := fun (w : WatchEntry) =>
    if w.lastCycle = some s.fr.cycle then w else { w with missRun := min 255 (w.missRun + 1) }
  let station := fun (h : Health) => if h.heard = true then h else { h with missRun := min 255 (h.missRun + 1) }
  (List.range' 1 62).foldl
    (fun t k => if k = s.fr.ownAddr.toNat then t else (t.adjustHealth k station).afterAll [.stationSuspect k])
    ((s.withFr { s.fr with clock := 50600, watch := s.fr.watch.map (Option.map slot) }).afterAll
      ((List.range 96).map .slotStale))

def commandsExamined (t : State) : State :=
  (List.range 24).foldl
    (fun t ch => (((t.channelAt ch).map (fun c => c.outstanding.map (·.tag))).getD []).foldl
      (fun t tag => t.afterAll [.cmdTimeout ch tag, .cmdOverdue ch tag]) t)
    (t.withPt { t.pt with sections := t.pt.sections.map (Option.map (fun c =>
      { c with trk := { c.trk with snapshot := c.trk.count } })) })

theorem all_loaded {α : Type} {l : List (Option α)} {p : α → Bool} (h : l.all (fun o => o.all p) = true) {i : Nat} {a : α}
    (g : lookup l i = some a) : p a = true := by
  have hm : some a ∈ l := by
    unfold lookup at g
    match hl : l[i]?, g with
    | some (some b), g => cases g; exact List.mem_of_getElem? hl
  simpa using List.all_eq_true.mp h _ hm

structure ExpiryView where
  slot : Option (Bool × Nat)
  stations : List (Option (Bool × Nat))
  snapshot : Option Word
  waits : Option Nat
  events : List EventKind
  deriving DecidableEq

/-- What an expiry leaves of slot 60, of stations 6 and 7, of section 4, web 5 and the events. -/
def expired (s : State) : Option ExpiryView :=
  (after (.returnWindowExpiry 50600) s).map (fun t =>
    { slot := (t.slotAt 60).map (fun w => (w.fresh, w.missRun))
      stations := [6, 7].map (fun k => (t.healthAt k).map (fun h => (h.suspect, h.missRun)))
      snapshot := (t.sectionAt 4).map (·.trk.snapshot), waits := (t.webAt 5).map (·.st.countWait)
      events := t.mu.events.map (·.kind) })

/-- The rows with everything due: the slot STALE at 3, the station SUSPECT at 3, the command timed out. In closed form with
each one short of that: the counts raised, and the web's wait from 1 to 2. -/
theorem witness_WindowExpires_steps :
    (dueExpiry.fr.windowOpen = true ∧ dueExpiry.fr.windowLen ≤ ((50600 : Word) - dueExpiry.fr.sample).toNat ∧
      (stationsExamined dueExpiry).wm.boardChange = none ∧
      (commandsExamined (stationsExamined dueExpiry)).wm.boardChange = none) ∧
    ((∀ i c, (stationsExamined dueExpiry).sectionAt i = some c → c.trk.source ≠ .reckoned) ∧
      ∀ i w, (commandsExamined (stationsExamined dueExpiry)).webAt i = some w → w.cfg.countSlot ≠ none →
        w.st.countAhead = false) ∧
    expired dueExpiry =
      some ⟨some (false, 3), [some (true, 3), some (false, 1)], some 60000, none, [.stationSuspect, .cmdTimeout]⟩ ∧
    (quietExpiry.fr.windowOpen = true ∧ quietExpiry.fr.windowLen ≤ ((50600 : Word) - quietExpiry.fr.sample).toNat ∧
      quietExpiry.wm.boardChange = none) ∧
    ((∀ k w, quietExpiry.slotAt k = some w → w.fresh = true → w.limit = 3 ∧ w.missRun = 1) ∧
      (∀ k h, quietExpiry.healthAt k = some h → h.threshold ≠ 0 → h.threshold = 4 ∧ h.missRun = 2 ∧ h.heard = false) ∧
      (∀ i c, quietExpiry.sectionAt i = some c → c.trk.source ≠ .reckoned) ∧
      (∀ ch c, quietExpiry.channelAt ch = some c → ∀ y ∈ c.outstanding,
        y.accepted = false ∧ y.sendTime = some 1 ∧ c.acceptTimeout = 50) ∧
      ∀ i w, quietExpiry.webAt i = some w → w.st.countWait < 2) ∧
    expired quietExpiry =
      some ⟨some (true, 2), [some (false, 3), some (false, 1)], some 60000, some 2, []⟩ := by
  refine ⟨⟨?_, ?_, ?_, ?_⟩, ⟨fun i c h => ?_, fun i w h => ?_⟩, ?_, ⟨?_, ?_, ?_⟩
    , ⟨fun k w h hf => ?_, fun k h g ht => ?_, fun i c h => ?_, fun ch c h y hy => ?_, fun i w h => ?_⟩, ?_⟩
  case refine_5 =>
    simpa using all_loaded (p := fun c => c.trk.source != .reckoned) (by decide +kernel) h
  case refine_6 =>
    rw [State.webAt, (by decide +kernel : (commandsExamined (stationsExamined dueExpiry)).sc = List.replicate 6 none)] at h
    exact no (free 6 i) h
  case refine_11 =>
    simpa [hf] using all_loaded (p := fun w => !w.fresh || (w.limit == 3 && w.missRun == 1)) (by decide +kernel) h
  case refine_12 =>
    have hs : quietExpiry.fr.health.all (fun h => h.threshold == 0 ||
        (h.threshold == 4 && h.missRun == 2 && !h.heard)) = true := by decide +kernel
    simpa [ht, and_assoc] using List.all_eq_true.mp hs h (List.mem_of_getElem? g)
  case refine_13 =>
    simpa using all_loaded (p := fun c => c.trk.source != .reckoned) (by decide +kernel) h
  case refine_14 =>
    have hs : quietExpiry.ccu.records.all (fun c => c.outstanding.all (fun y =>
        !y.accepted && y.sendTime == some 1 && c.acceptTimeout == 50)) = true := by decide +kernel
    simpa [and_assoc] using List.all_eq_true.mp (List.all_eq_true.mp hs c (List.mem_of_getElem? h)) y hy
  case refine_15 =>
    simpa using all_loaded (p := fun w => decide (w.st.countWait < 2)) (by decide +kernel) h
  all_goals decide +kernel

/-- Station k with threshold 3 and the given miss run. -/
def missing (k run : Nat) : State := base.adjustHealth k (fun h => { h with threshold := 3, missRun := run })

/-- Station 6 with two FRESH slots, beside a slot of station 7. -/
def slots67 : State :=
  (State.slot (State.slot (State.slot base 60 6 0 .sg 5 0 true 0) 61 6 1 .ss 5 0 true 0) 62 7 0 .ss 5 0 true 0).adjustHealth 6
    (fun h => { h with threshold := 3, missRun := 3 })

/-- A watch limit of 3 reached, and one short of it. A station becomes SUSPECT at its threshold, at the first and the
last address and with FRESH slots; not below it, without a threshold, twice, or at the own address. -/
theorem witness_MissesAreActedOn :
    (((State.slot base 60 6 0 .sg 5 0 true 3).slotAt 60).any (fun w => w.fresh && w.limit ≤ w.missRun && w.owner != .pt)
        = true ∧ (State.slot base 60 6 0 .sg 5 0 true 3).wm.boardChange = none ∧
      after (.slotStale 60) (State.slot base 60 6 0 .sg 5 0 true 3) = some (State.slot base 60 6 0 .sg 5 0 false 3)) ∧
    (((State.slot base 60 6 0 .sg 5 0 true 2).slotAt 60).any (fun w => !(w.fresh && w.limit ≤ w.missRun)) = true ∧
      after (.slotStale 60) (State.slot base 60 6 0 .sg 5 0 true 2) = some (State.slot base 60 6 0 .sg 5 0 true 2)) ∧
    ((∀ k ∈ [1, 62], ((missing k 3).healthAt k).any (fun h =>
        h.threshold != 0 && h.threshold ≤ h.missRun && !h.suspect) = true ∧ k ≠ (missing k 3).fr.ownAddr.toNat ∧
        (missing k 3).fr.watch.length ≤ 96 ∧ (missing k 3).wm.boardChange = none ∧
        (after (.stationSuspect k) (missing k 3)).map (fun t => ((t.healthAt k).map (·.suspect), t.mu.events.map (·.kind)))
          = some (some true, [.stationSuspect])) ∧
      ∀ i w, (missing 1 3).slotAt i = some w → w.key.station.toNat = 1 → w.owner ≠ .pt) ∧
    ((List.range 96).all (fun i => (slots67.slotAt i).all (fun w => w.key.station.toNat != 6 || w.owner != .pt)) = true ∧
      slots67.fr.watch.length ≤ 96 ∧ (after (.stationSuspect 6) slots67).map (fun t =>
        [60, 61, 62].map (fun i => (t.slotAt i).map (·.fresh))) = some [some false, some false, some true]) ∧
    (((missing 1 2).healthAt 1).any (fun h => h.missRun < h.threshold) = true ∧
      after (.stationSuspect 1) (missing 1 2) = some (missing 1 2)) ∧
    ((base.healthAt 1).any (fun h => h.threshold == 0) = true ∧ after (.stationSuspect 1) base = some base) ∧
    (10 = (missing 10 3).fr.ownAddr.toNat ∧ after (.stationSuspect 10) (missing 10 3) = some (missing 10 3)) := by
  refine ⟨by decide +kernel, by decide +kernel, ⟨by decide +kernel, fun i w h => no (free 96 i) h⟩, by decide +kernel,
    by decide +kernel, by decide +kernel, by decide +kernel⟩

/-- Command channel 5 in RUN with LIFT sent at time 0, at the sample time given. -/
def waiting (now : Word) (c : Command) : State :=
  let s := State.inRun (State.chan base 5 .slitter 9 1 [c])
  s.withFr { s.fr with sample := now }

/-- The same with a PRESET pending, which enters the list. -/
def pendingBehind : State := (waiting 50000 (aCommand 7 .lift)).adjustChannel 5 (fun c => { c with pend := some (aCommand 8 .preset) })

/-- The accept timeout of 50 ms and the complete timeout of 5,000 ms, and 1 us before them. -/
theorem witness_CommandTimesOutOrOverdue :
    (((waiting 50000 (aCommand 7 .lift)).mu.mode = .run ∧
      ((waiting 50000 (aCommand 7 .lift)).channelAt 5).any (fun c =>
        c.outstanding.find? (·.tag == 7) == some (aCommand 7 .lift) && c.pend == none) = true ∧
      (aCommand 7 .lift).accepted = false ∧ (aCommand 7 .lift).sendTime = some 0 ∧
      (waiting 50000 (aCommand 7 .lift)).wm.boardChange = none) ∧
      (waiting 50000 (aCommand 7 .lift)).servesNoJob 5) ∧
    (after (.cmdTimeout 5 7) (waiting 50000 (aCommand 7 .lift))).map (fun t =>
      ((t.channelAt 5).map (fun c => (c.outstanding, c.fault)), t.mu.events))
        = some (some ([], true), [⟨.cmdTimeout, 5, 7, 1, 0⟩]) ∧
    after (.cmdTimeout 5 7) (waiting 49999 (aCommand 7 .lift)) = some (waiting 49999 (aCommand 7 .lift)) ∧
    (after (.cmdTimeout 5 7) pendingBehind).map (fun t =>
      (t.channelAt 5).map (fun c => (c.outstanding, c.pend, c.recent, c.fault)))
        = some (some ([aCommand 8 .preset], none, [], true)) ∧
    (((waiting 5000000 accepted7).channelAt 5).any (fun c =>
        c.outstanding.find? (·.tag == 7) == some accepted7 && c.completeTimeout == 5000) = true ∧
      accepted7.accepted = true ∧ accepted7.overdue = false ∧ accepted7.acceptTime = some 0 ∧
      (after (.cmdOverdue 5 7) (waiting 5000000 accepted7)).map (fun t =>
        ((t.channelAt 5).map (fun c => c.outstanding.map (·.overdue)), t.mu.events))
          = some (some [true], [⟨.cmdOverdue, 5, 7, 1, 0⟩]) ∧
      after (.cmdOverdue 5 7) (waiting 4999999 accepted7) = some (waiting 4999999 accepted7)) :=
  ⟨⟨by decide +kernel, ⟨by decide +kernel, by decide +kernel, fun i _ h => no (free 6 i) h, fun i _ h => no (free 2 i) h⟩⟩,
    by decide +kernel, by decide +kernel, by decide +kernel, by decide +kernel⟩

/-- In RUN, at sample time 50,000, a channel whose command 7 was sent at time 0. -/
def unanswered (s : State) (ch : Nat) (cls : CmdClass) (v : Verb) : State :=
  let s := State.inRun (State.chan s ch cls 9 1 [aCommand 7 v])
  s.withFr { s.fr with sample := 50000 }

/-- Web 5 on channel 0 with an issued operator splice, station B on channel 3 engaged and following, the knife on
channel 2 with its cut at the head, the stacker on channel 4 with a lane and with a drop. -/
def lateSplice : State := unanswered (State.web base 5 { WebState.initial 3 with
  plan := some aPlan, spliceTag := some 7 }) 0 .splicer .spliceAt
def lateStation : State := unanswered ((State.slitter (State.sec base 7 .board .held 90000 [⟨.slitterB, 35000⟩]) 1 3 51
  .engaged).adjustStation 1 (fun x => { x with live := some ⟨.lift, 7⟩ })) 3 .slitter .lift
def lateCut : State := unanswered (base.withCp { base.cp with knife := some 2, frontFault := false, plan :=
  [{ target := 600, good := true, cause := none, order := none, sent := some 7 }] }) 2 .knife .cutAt
def lateStack (v : Verb) : State := unanswered (base.withSg { base.sg with channel := some 4, cmds :=
  [⟨7, v, ⟨5, 0⟩, 3⟩] }) 4 .stacker v

/-- The events and the reaction of the job, for each of the four jobs. -/
theorem witness_TimeoutToldToTheJob :
    (([(lateSplice, 0, CmdClass.splicer), (lateStation, 3, .slitter), (lateCut, 2, .knife), (lateStack .lane, 4, .stacker)
        , (lateStack .stackDrop, 4, .stacker)] : List (State × Nat × CmdClass)).all (fun x => x.1.mu.mode == .run &&
      x.1.wm.boardChange == none && (x.1.channelAt x.2.1).any (fun c => c.cls == some x.2.2 && c.pend == none &&
        (c.outstanding.find? (·.tag == 7)).any (fun y => !y.accepted && y.sendTime == some 0) &&
        c.acceptTimeout * 1000 == 50000))) = true ∧
    (lateSplice.webAt 5).any (fun w => w.cfg.channel == 0 && w.st.spliceTag == some 7 && w.st.plan == some aPlan &&
      w.st.mark == none && !w.st.reelKnown) = true ∧
    (∀ j v, lateSplice.webAt j = some v → v.cfg.channel = 0 → j = 5) ∧
    (after (.cmdTimeout 0 7) lateSplice).map (fun t => (t.mu.events, (t.webAt 5).map (·.st))) =
      some ([⟨.spliceRefused, 5, 91000, 2, 0⟩, ⟨.cmdTimeout, 0, 7, 1, 0⟩], some (WebState.initial 3)) ∧
    ((lateStation.stationAt 1).any (fun x => x.cfg.channel == 3 && x.live == some ⟨.lift, 7⟩) = true ∧
      lateStation.boardIndex = some 7 ∧ Config.boundaryLimit - lateStation.boundaryCount < lateStation.freeCount) ∧
    (∀ j z, lateStation.stationAt j = some z → z.cfg.channel = 3 → j = 1) ∧
    (after (.cmdTimeout 3 7) lateStation).map (fun t => (t.mu.events,
      (t.stationAt 1).map (fun x => (x.state, x.live, x.atRisk)))) =
      some ([⟨.slitterFault, 1, 55000, 2, 0⟩, ⟨.cmdTimeout, 3, 7, 1, 0⟩], some (.fault, none, true)) ∧
    (after (.cmdTimeout 2 7) lateCut).map (fun t => (t.mu.events, t.cp.frontFault,
      (t.channelAt 2).map (·.fault))) = some ([⟨.cutMissed, 7, 600, 3, 0⟩, ⟨.cmdTimeout, 2, 7, 0, 0⟩], true, some true) ∧
    (after (.cmdTimeout 4 7) (lateStack .lane)).map (fun t => (t.mu.events, t.sg.cmds)) =
      some ([⟨.laneFailed, 5, 7, 3, 0⟩, ⟨.cmdTimeout, 4, 7, 0, 0⟩], []) ∧
    (after (.cmdTimeout 4 7) (lateStack .stackDrop)).map (fun t => (t.mu.events, t.sg.cmds)) =
      some ([⟨.dropFailed, 5, 7, 2097155, 0⟩, ⟨.cmdTimeout, 4, 7, 1, 0⟩], []) := by
  refine ⟨by decide +kernel, by decide +kernel, fun j v h _ => only (n := 6) h, by decide +kernel, by decide +kernel,
    fun j z h _ => ?_, by decide +kernel, by decide +kernel, by decide +kernel, by decide +kernel⟩
  match j, h with
  | 0, h => exact nomatch h
  | 1, _ => rfl
  | j + 2, h => exact nomatch h

/-- Web 4 in RUN with slot 42 holding count 9 at raw position 5000, after the waits given. -/
def counting (waits : Nat) : State :=
  State.inRun (State.sec (State.web (State.slot base 42 2 2 .sc 5000 9 true 0) 4
    { WebState.initial 22000 with accounted := some 8, countSeen := some 9, countWait := waits }) 4 .web .primary 6000 [])

theorem witness_SpliceCountIsTaken :
    ((counting 3).mu.mode = .run ∧ ((counting 3).webAt 4).any (fun w => w.cfg.countSlot == some 42 &&
        3 ≤ w.st.countWait && w.st.plan == none && w.st.spliceTag == none && w.st.prepareTag == none &&
        w.st.mark == none && !(counting 3).isBoard w.cfg.sec && w.cfg.sec < (counting 3).wm.maps.length) = true ∧
      (counting 3).wm.boardChange = none ∧ (counting 3).mu.events.length < Config.eventCapacity ∧
      Config.boundaryLimit - (counting 3).boundaryCount < (counting 3).freeCount ∧
      (after (.spliceCountTaken 4) (counting 3)).map (fun t => (t.mapAt 4).marks.map (fun m => (m.pos, m.lead, m.trail)))
        = some [(5000, 1000, 1500)] ∧
      (after (.spliceCountTaken 4) (counting 3)).map (·.mu.events) = some [⟨.spliceUnplanned, 4, 5000, 0, 0⟩]) ∧
    (((counting 2).webAt 4).any (fun w => w.st.countWait < 3) = true ∧
      after (.spliceCountTaken 4) (counting 2) = some (counting 2)) := by
  refine ⟨⟨?_, ?_, ?_, ?_, ?_, ?_, ?_⟩, ?_, ?_⟩ <;> decide +kernel

/-- In RUN with the cell-loss timer of 3,000 us started at 500. -/
def timed : State := State.inRun (base.withFr { base.fr with timerStart := 500 })

/-- In LOST_CELL since 4 originated frames, with generator 3 owning station 5's channel 1. -/
def lostCell : State :=
  let s := feeding .own none true
  s.withFr { s.fr with state := .lostCell, originated := 4, lastOriginated := 500 }

/-- At 3,000 us and at 1,000 us, and 1 us before; the frame holds what FR appends. -/
theorem witness_CellLossOriginates :
    (timed.mu.mode = .run ∧ timed.fr.state = .normal ∧ timed.fr.windowOpen = false ∧
      3 * timed.fr.timerPeriod ≤ ((3500 : Word) - timed.fr.timerStart).toNat ∧
      (after (.cellLost 3500) timed).map (fun t => (t.fr.state, t.fr.cycle, t.fr.originated, t.fr.fieldPort))
        = some (.lostCell, 1, 1,
          [({ kind := 1, flags := 1, source := 0, cycle := 1, sample := 3500, items := [] } : Frame).compose]) ∧
      ((3499 : Word) - timed.fr.timerStart).toNat < 3 * timed.fr.timerPeriod ∧
      after (.cellLost 3499) timed = some (timed.withFr { timed.fr with clock := 3499 })) ∧
    (lostCell.fr.state = .lostCell ∧ lostCell.fr.windowOpen = false ∧ lostCell.mu.mode = .run ∧
      lostCell.fr.nominal ≤ ((1500 : Word) - lostCell.fr.lastOriginated).toNat ∧
      (after (.originateFrame 1500) lostCell).map (fun t => (t.fr.cycle, t.fr.originated, t.fr.fieldPort)) = some (1, 5,
        [({ kind := 1, flags := 1, source := 0, cycle := 1, sample := 1500
            items := [anItem 5 1 1 0 1420] } : Frame).compose]) ∧
      ((1499 : Word) - lostCell.fr.lastOriginated).toNat < lostCell.fr.nominal ∧
      after (.originateFrame 1499) lostCell = some (lostCell.withFr { lostCell.fr with clock := 1499 })) := by
  refine ⟨?_, ?_⟩ <;> decide +kernel

/-! ### Witnesses: table writes -/

def sectionFields : List Word := [1, 0, 1, 0, 2, 1000, 200000, 8, 1, 0, 60000, 3]

def sectionCfg4 : SectionCfg :=
  { kind := .web, primarySlot := 0, backupSlot := some 1, reckon := true, refSlot := some 2, margin := 1000
    exitDist := 200000, down := some 8, points := [⟨.preheat 3, 60000⟩] }

/-- A section newly loaded, rewritten while HELD, and rewritten while it moves: index 0, 11 and 4. One freed, and one in
use by a link or by a mark. -/
theorem witness_SectionWriteStores :
    base.answersInSetup ∧ readSection sectionFields = some (some .web, sectionCfg4) ∧ base.wm.boardChange = none ∧
    (∀ i ∈ [0, 11], sectionFits i (some .web) sectionCfg4 base = true ∧ base.sectionAt i = none) ∧
    (after (.sectionWrite 1 2 (11 :: 0 :: sectionFields)) base).map (fun t =>
      ((t.sectionAt 11).map (·.cfg), (t.sectionAt 11).map (·.trk.source), t.mu.replies))
        = some (some sectionCfg4, some .held, [⟨1, 0, 65536, []⟩]) ∧
    (sectionFits 4 (some .web) sectionCfg4 (State.sec base 4 .web .held 9 []) = true ∧
      (State.sec base 4 .web .held 9 []).answersInSetup ∧
      ((State.sec base 4 .web .held 9 []).sectionAt 4).map (·.trk.source) = some .held ∧
      (after (.sectionWrite 1 2 (4 :: 0 :: sectionFields)) (State.sec base 4 .web .held 9 [])).map (fun t =>
        ((t.sectionAt 4).map (·.trk.count), t.mu.events)) = some (some 9, [])) ∧
    (sectionFits 4 (some .web) sectionCfg4 (State.sec base 4 .web .primary 9 []) = true ∧
      (State.sec base 4 .web .primary 9 []).answersInSetup ∧
      ((State.sec base 4 .web .primary 9 []).sectionAt 4).map (·.trk.source) = some .primary ∧
      (after (.sectionWrite 1 2 (4 :: 0 :: sectionFields)) (State.sec base 4 .web .primary 9 [])).map (fun t =>
        ((t.sectionAt 4).map (·.trk.source), t.mu.events)) = some (some .held, [⟨.sourceSwitch, 4, 9, 4, 0⟩])) ∧
    (readSection (0 :: sectionFields.tail) = some (none, sectionCfg4) ∧
      sectionFits 4 none sectionCfg4 (State.sec base 4 .web .held 9 []) = true ∧
      (after (.sectionWrite 1 2 (4 :: 0 :: 0 :: sectionFields.tail)) (State.sec base 4 .web .held 9 [])).map (fun t =>
        ((t.sectionAt 4).isNone, t.mu.replies)) = some (true, [⟨1, 0, 65536, []⟩]) ∧
      ([(State.sec base 4 .web .held 9 []).setLink 10 (some aLink), listMark aMark (State.sec base 4 .web .held 9 [])].map
        (fun s => (sectionFits 4 none sectionCfg4 s,
          after (.sectionWrite 1 2 (4 :: 0 :: 0 :: sectionFields.tail)) s == some (s.replied 1 8 0 []))))
          = [(true, true), (true, true)]) := by
  refine ⟨?_, ?_, ?_, ?_, ?_, ⟨?_, ?_, ?_, ?_⟩, ⟨?_, ?_, ?_, ?_⟩, ?_, ?_, ?_, ?_⟩ <;> decide +kernel

/-- Section 4 names link 10, which is free, as its downstream link. -/
def leadingOn : State := (State.sec base 4 .web .held 9 []).withPt { (State.sec base 4 .web .held 9 []).pt with
  sections := (State.sec base 4 .web .held 9 []).pt.sections.map (Option.map (fun c =>
    { c with cfg := { c.cfg with down := some 10 } })) }

/-- r at both ends of its range, a link freed, and one, loaded or not, that a section names. -/
theorem witness_LinkWriteStores :
    base.answersInSetup ∧ (10 : Word).toNat ≤ 10 ∧ linkInUse 10 base = false ∧
    (([2048, 8192] : List Word).all (fun r => after (.linkWrite 1 2 [10, 0, 4, 6, r, 1, 5, 100000]) base ==
      some ((base.setLink 10 (some { aLink with ratio := r.toNat, storeWiden := 5, maxCorr := 100000 })).replied
        1 0 0 []))) = true ∧
    after (.linkWrite 1 2 [10, 0, absentWord, absentWord, 0, 0, 0, 0]) (base.setLink 10 (some aLink)) =
      some (base.replied 1 0 0 []) ∧
    linkInUse 10 leadingOn = true ∧
    after (.linkWrite 1 2 [10, 0, absentWord, absentWord, 0, 0, 0, 0]) leadingOn = some (leadingOn.replied 1 8 0 []) := by
  refine ⟨?_, ?_, ?_, ?_, ?_, ?_⟩ <;> decide +kernel

theorem witness_RelayAndThresholdWritesStore :
    (base.answersInSetup ∧ (500 : Word).toNat = 500 ∧ (400 : Word).toNat + 100 ≤ 500 ∧
    after (.relayRecordWrite 1 2 [0, 0, 500, 400]) base =
      some ((base.withFr { base.fr with nominal := 500, window := 400 }).replied 1 0 0 []) ∧
    after (.tableWrite 1 2 [3, 0, 0, 4000, 100]) base =
      some ((base.withFr { base.fr with nominal := 4000, window := 100 }).replied 1 0 0 [])) ∧
    (base.answersInSetup ∧
    ([1, 62] : List Word).all (fun k => 1 ≤ k.toNat && k.toNat ≤ 62 &&
      after (.stationThresholdWrite 1 2 [k, 0, 255]) base ==
        some ((base.adjustHealth k.toNat (fun h => { h with threshold := 255 })).replied 1 0 0 [])) = true) := by
  refine ⟨by
    decide +kernel, by
    decide +kernel⟩

theorem witness_ChannelEntryWriteStores :
    (base.answersInSetup ∧ readChannelEntry [5, 1, 3, 1, 23, 40] = some
        (some .clamp, ⟨5, 1⟩, some (.generator 23), some 40) ∧
      ¬(base.workingAddress = true ∧ (5 : Byte) = base.ownByte) ∧
      sourceAgrees .clamp (some (.generator 23)) = true) ∧
    (∀ j e, base.entryAt j = some e → j ≠ 127 → e.key ≠ ⟨5, 1⟩) ∧
    after (.channelTableWrite 1 2 [127, 0, 5, 1, 3, 1, 23, 40]) base =
      some ((base.withFr { base.fr with channels := base.fr.channels.set 127 (some
        { key := ⟨5, 1⟩, mode := .clamp, source := some (.generator 23), band := some 40 }) }).replied 1 0 0 []) :=
  ⟨by decide +kernel, fun j _ h => no (free 128 j) h, by decide +kernel⟩

theorem witness_WatchWriteStores :
    (base.answersInSetup ∧ readWatchEntry [62, 255, 1, 6, 255] = some (⟨62, 255⟩, .set, some .ss, 255) ∧
      ¬(base.workingAddress = true ∧ (62 : Byte) = base.ownByte)) ∧
    (∀ j w, base.slotAt j = some w → j ≠ 95 → ¬(w.key = ⟨62, 255⟩ ∧ w.kind = .set)) ∧
    (after (.watchTableWrite 1 2 [95, 0, 62, 255, 1, 6, 255]) base).map (fun t => (t.slotAt 95).map (·.setup)) =
      some (some ⟨⟨62, 255⟩, .set, .ss, 255⟩) :=
  ⟨by decide +kernel, fun j _ h => no (free 96 j) h, by decide +kernel⟩

theorem witness_CommandChannelWriteStores :
    (base.answersInSetup ∧ readCommandChannel [3, 7, 10, 2, 20, 3000] = some
        (some .knife, some ⟨7, 10⟩, 2, 20, 3000) ∧ ¬(base.workingAddress = true ∧ (7 : Byte) = base.ownByte)) ∧
    (∀ j c x, base.channelAt j = some c → j ≠ 23 → c.cls.isSome = true → some ⟨7, 10⟩ = some x → c.key ≠ some x) ∧
    (after (.commandChannelWrite 1 2 [23, 0, 3, 7, 10, 2, 20, 3000]) base).map (fun t =>
      (t.channelAt 23).map (fun c => (c.cls, c.key, c.depth))) = some (some (some .knife, some ⟨7, 10⟩, 2)) := by
  refine ⟨by decide +kernel, fun j c x h hj hc => ?_, by decide +kernel⟩
  have hr : c ∈ List.replicate 24 Channel.initial := List.mem_of_getElem? h
  rw [List.eq_of_mem_replicate hr] at hc
  exact nomatch hc

/-- A grade loaded at index 31 after 31 others, and a generator's group of a loaded grade; a pattern loaded, and its
released flag written at OPERATE. -/
theorem witness_GradeAndPatternWritesStore :
    ((base.withOp { base.op with grades := List.replicate 31 aGrade }).answers ∧
    readGradeWebs [1000, 1, absentWord, absentWord, absentWord, absentWord, 65535] =
      some (1000, [some 1, none, none, none, none, some 65535]) ∧
    (after (.gradeWrite 1 2 [31, 0, 1, 1000, 1, absentWord, absentWord, absentWord, absentWord, 65535])
      (base.withOp { base.op with grades := List.replicate 31 aGrade })).map (fun t =>
        (t.op.grades.length, (t.gradeAt 31).map (fun g => (g.released, g.width)))) = some (32, some (false, 1000)) ∧
    (readGradeGen [14, 1800, 0] = some { curve := some 14, target := 1800, trim := true } ∧
      (State.orders base []).answers ∧ (State.orders base []).gradeAt 0 = some aGrade ∧
      (∀ o ∈ (State.orders base []).op.queue, o.grade = 0 →
        o.state ≠ .committed ∧ o.state ≠ .cutting ∧ o.state ≠ .stacking) ∧
      (after (.gradeWrite 1 2 [0, 24, 14, 1800, 0]) (State.orders base [])).map (fun t =>
        (t.gradeAt 0).map (fun g => g.gens[23]?)) = some (some (some { curve := some 14, target := 1800, trim := true })))) ∧
    (base.answers ∧ (0 : Word).toNat = base.op.patterns.length ∧
    readPatternBody [24000, 2, 1, 1, 12000, 4000] = some (24000, 2, [12000], [4000]) ∧
    after (.patternWrite 1 2 [0, 0, 0, 24000, 2, 1, 1, 12000, 4000]) base =
      some ((base.withOp { base.op with patterns :=
        [{ released := true, width := 24000, outs := 2, slits := [12000], scores := [4000] }] }).replied 1 0 0 []) ∧
    (State.orders base []).answers ∧ (State.orders base []).patternAt 0 = some aPattern ∧
    patternShape [9, 9, 1, 0, 7] = true ∧
    after (.patternWrite 1 1 [0, 0, 1, 9, 9, 1, 0, 7]) (State.orders base []) =
      some (((State.orders base []).withOp { (State.orders base []).op with
        patterns := [{ aPattern with released := false }] }).replied 1 1 0 [1, 2, 3, 4])) := by
  refine ⟨by
    refine ⟨?_, ?_, ?_, ?_, ?_, ?_, ?_, ?_⟩ <;> decide +kernel, by
    refine ⟨?_, ?_, ?_, ?_, ?_, ?_, ?_, ?_⟩ <;> decide +kernel⟩

theorem witness_PlannerPairAndCurveWritesStore :
    (base.answers ∧ (State.inRun base).answers ∧
    after (.plannerRecordWrite 1 2 [0, 0, 10000000, 0, 7]) (State.inRun base) = some (((State.inRun base).withOp
      { base.op with presetDist := 10000000, minCommit := 0, gradeMargin := 7 }).replied 1 0 0 []) ∧
    ([5000, 1000000] : List Word).all (fun n => 5000 ≤ n.toNat && n.toNat ≤ 1000000 &&
      after (.pairRecordWrite 1 2 [0, 0, n]) base ==
        some ((base.withSp { base.sp with lateStep := n.toNat }).replied 1 0 0 [])) = true) ∧
    (base.answers ∧ readCurve [2, 5999, 65535, 6000, 0] = some [⟨5999, 65535⟩, ⟨6000, 0⟩] ∧
    after (.curveWrite 1 2 [63, 0, 2, 5999, 65535, 6000, 0]) base =
      some ((base.withSs { base.ss with curves := base.ss.curves.set 63 [⟨5999, 65535⟩, ⟨6000, 0⟩] }).replied 1 0 0 []) ∧
    after (.curveWrite 1 2 [63, 0, 0]) base = some (base.replied 1 0 0 [])) := by
  refine ⟨by
    refine ⟨?_, ?_, ?_, ?_⟩ <;> decide +kernel, by
    refine ⟨?_, ?_, ?_, ?_⟩ <;> decide +kernel⟩

def spliceHead : SpliceHead := ⟨true, 4, .primary, 0, 40, 41, some 42⟩

def settings11 : List Word := [1000, 25000, 200, 16, 500000, 150000, 10000, 1000, 1000, 2000, 10000000]

theorem witness_SpliceWriteStores :
    (base.answersInSetup ∧ readSpliceHead [0, 4, 0, 0, 40, 41, 42] = some spliceHead ∧ base.webAt 5 = none ∧
      (after (.spliceRecordWrite 1 2 [5, 0, 0, 4, 0, 0, 40, 41, 42]) base).map (fun t =>
        (t.webAt 5).map (fun w => (w.cfg.k0, w.cfg.spliceLead, w.st.k))) = some (some (25000, 150000, 25000))) ∧
    (∀ j w, base.webAt j = some w → j ≠ 5 → w.cfg.sec ≠ spliceHead.sec ∧ w.cfg.channel ≠ spliceHead.channel) ∧
    ((State.web base 5 { WebState.initial 3 with confidence := 2 }).answersInSetup ∧
      (after (.spliceRecordWrite 1 2 [5, 0, 0, 4, 0, 0, 40, 41, 42])
        (State.web base 5 { WebState.initial 3 with confidence := 2 })).map (fun t =>
          (t.webAt 5).map (fun w => (w.cfg == webCfg, w.st.k, w.st.confidence))) = some (some (true, 22000, 0)) ∧
      readSpliceHead [1, 4, 0, 0, 40, 41, 42] = some { spliceHead with inUse := false } ∧
      (after (.spliceRecordWrite 1 2 [5, 0, 1, 4, 0, 0, 40, 41, 42]) (State.web base 5 (WebState.initial 3))).map
        (fun t => (t.webAt 5).isNone) = some true ∧
      readSpliceSettings webCfg settings11 = some { WebCfg.loaded spliceHead with failZone := 10000000 } ∧
      (after (.spliceRecordWrite 1 2 (5 :: 1 :: settings11)) (State.web base 5 (WebState.initial 3))).map (fun t =>
        (t.webAt 5).map (fun w => (w.cfg.failZone, w.st.k))) = some (some (10000000, 3))) := by
  refine ⟨?_, fun j _ h => no (free 6 j) h, ?_, ?_, ?_, ?_, ?_, ?_⟩ <;> decide +kernel

def following : State := (State.slitter base 1 3 51 .preset).adjustStation 1 (fun x =>
  { x with live := some ⟨.preset, 9⟩, settled := some 4 })

/-- Both stations FAULT and a cover run active; station A at risk or not. -/
def covering (risk : Bool) : State :=
  let s := (State.slitter (State.slitter base 0 1 50 .fault) 1 3 51 .fault).adjustStation 0 (fun x => { x with atRisk := risk })
  s.withSp { s.sp with cover := { s.sp.cover with active := true } }

/-- A station newly in use, on the same and on another channel, out of use, and out of use in a cover run that the other
station's fault keeps or not; group 1. -/
theorem witness_StationWriteStores :
    (base.answersInSetup ∧ base.stationAt 1 = none ∧
      after (.slitterStationWrite 1 2 [1, 0, 0, 23, 95]) base =
        some ((State.slitter base 1 23 95 .idle).replied 1 0 0 [])) ∧
    (∀ y, base.stationAt (1 - 1) = some y → y.cfg.channel ≠ 23 ∧ y.cfg.slot ≠ 95) ∧
    (following.answersInSetup ∧ (following.stationAt 1).isSome = true ∧
      (after (.slitterStationWrite 1 2 [1, 0, 0, 3, 95]) following).map (fun t =>
        (t.stationAt 1).map (fun x => (x.state, x.live, x.settled)))
          = some (some (.preset, some ⟨.preset, 9⟩, some 4)) ∧
      (after (.slitterStationWrite 1 2 [1, 0, 0, 4, 95]) following).map (fun t =>
        (t.stationAt 1).map (fun x => (x.state, x.live, x.settled))) = some (some (.preset, none, none))) ∧
    (after (.slitterStationWrite 1 2 [1, 0, 1, 3, 95]) following = some (base.replied 1 0 0 []) ∧
      (after (.slitterStationWrite 1 2 [1, 1, 10000, 1000000]) following).map (fun t =>
        (t.stationAt 1).map (fun x => (x.cfg.leadTime, x.cfg.faultZone))) = some (some (10000, 1000000))) ∧
    [true, false].map (fun risk => ((covering risk).stationAt 0).map (fun y => (y.state == .fault, y.atRisk))) =
      [some (true, true), some (true, false)] ∧
    [true, false].map (fun risk => (after (.slitterStationWrite 1 2 [1, 0, 1, 3, 51]) (covering risk)).map (fun t =>
      ((t.stationAt 1).isNone, t.sp.cover.active))) = [some (true, true), some (true, false)] := by
  refine ⟨?_, fun _ h => no (free 2 0) h, ⟨?_, ?_, ?_, ?_⟩, ⟨?_, ?_⟩, ?_, ?_⟩ <;> decide +kernel

theorem witness_CutAndGateWritesStore :
    base.answersInSetup ∧ base.wm.boardChange = none ∧ readOpt 0 23 absentWord = some none ∧
    readOpt 0 23 (23 : Word) = some (some 23) ∧ readOpt 0 95 (95 : Word) = some (some 95) ∧
    readRole (1 : Word) = some .backup ∧
    after (.cutPlannerRecordWrite 1 2 [0, 0, 23, 1]) base =
      some ((base.withCp { base.cp with knife := some 23, role := .backup }).replied 1 0 0 []) ∧
    after (.cutPlannerRecordWrite 1 2 [0, 1, 2000, 40000, 2000, 10000, 0, 100]) base =
      some ((base.withCp { base.cp with minPiece := 2000, swapGap := 40000, scrapLen := 2000, horizon := 10000
                                        cutTol := 0, missDist := 100 }).replied 1 0 0 []) ∧
    after (.sgRecordWrite 1 2 [0, 0, 23, 95]) base =
      some ((base.withSg { base.sg with channel := some 23, slot := some 95 }).replied 1 0 0 []) ∧
    after (.sgRecordWrite 1 2 [0, 1, 100000, 1000000]) base =
      some ((base.withSg { base.sg with gateLead := 100000, laneLead := 1000000 }).replied 1 0 0 []) := by
  refine ⟨?_, ?_, ?_, ?_, ?_, ?_, ?_, ?_, ?_, ?_⟩ <;> decide +kernel

def gen23 : State := State.gen base 23 { GenState.initial with inForce := some 2 }

def settings10 : List Word := [0, 200, 20, 100, 2400, 1, 600, 8000, 1000, 50]

/-- Group 0 for a free generator, one in use at the same and at another point; group 1 in SETUP, in lift, before any
output and with the last output at an end of the new range. -/
theorem witness_GeneratorWriteStores :
    (base.answersInSetup ∧ readOpt 0 95 absentWord = some none ∧ base.generatorAt 23 = none ∧
      (after (.generatorWrite 1 2 [23, 0, 0, 11, 7, absentWord]) base).map (fun t =>
        (t.generatorAt 23).map (fun g => (g.cfg, g.st))) = some (some (GenCfg.loaded 11 7 none, GenState.initial))) ∧
    (∀ j g, base.generatorAt j = some g → j ≠ 23 → ¬(g.cfg.sec = 11 ∧ g.cfg.point = 7)) ∧
    ((after (.generatorWrite 1 2 [23, 0, 0, 4, 0, 9]) gen23).map (fun t => (t.generatorAt 23).map (fun g =>
        (g.cfg.tempSlot, g.st.inForce))) = some (some (some 9, some 2)) ∧
      (after (.generatorWrite 1 2 [23, 0, 0, 4, 1, 9]) gen23).map (fun t => (t.generatorAt 23).map (·.st.inForce))
        = some (some none) ∧
      (after (.generatorWrite 1 2 [23, 0, 1, 4, 0, 9]) gen23).map (fun t => (t.generatorAt 23).isNone) = some true) ∧
    (∀ st ∈ [GenState.initial, { GenState.initial with lastOutput := some 100 },
        { GenState.initial with lastOutput := some 2400 }, { GenState.initial with lastOutput := some 9, inLift := true }],
      (State.inRun (State.gen base 23 st)).answers ∧ (readGeneratorSettings genCfg settings10).isSome = true ∧
      (after (.generatorWrite 1 2 (23 :: 1 :: settings10)) (State.inRun (State.gen base 23 st))).map (fun t =>
        (t.generatorAt 23).map (fun g => (g.cfg.outMin, g.st))) = some (some (100, st))) := by
  refine ⟨?_, fun j _ h => no (free 24 j) h, ?_, ?_⟩ <;> decide +kernel

theorem witness_TableWriteIsTheRow :
    base.answers ∧ (2 : Word).toNat ≤ 2 ∧ after (.tableWrite 1 2 [15, 0, 0]) base = some (base.replied 1 5 0 []) ∧
    after (.tableWrite 1 0 [20, 191, 0]) base = some (base.replied 1 5 0 []) ∧
    after (.tableWrite 1 0 [21, 11, 9, 9]) base = some (base.replied 1 5 0 []) ∧
    after (.tableWrite 1 0 [0, 11, 9, 9]) base = some (base.replied 1 3 0 []) ∧
    after (.tableWrite 1 0 [22, 0, 0]) base = some (base.replied 1 3 0 []) := by
  refine ⟨?_, ?_, ?_, ?_, ?_, ?_, ?_⟩ <;> decide +kernel

/-- Each index at the end of its range. -/
theorem witness_ClassSRefusedInRun :
    (State.inRun base).answers ∧ (State.inRun base).mu.mode = .run ∧ (State.inRun base).wm.boardChange = none ∧
    (∀ c ∈ ([.sectionWrite 1 2 [11, 0], .linkWrite 1 2 [10, 0], .relayRecordWrite 1 2 [0, 0], .sgRecordWrite 1 2 [0, 0],
        .cutPlannerRecordWrite 1 2 [0, 0], .channelTableWrite 1 2 [127, 0], .watchTableWrite 1 2 [95, 0],
        .stationThresholdWrite 1 2 [62, 0], .commandChannelWrite 1 2 [23, 0], .generatorWrite 1 2 [23, 0],
        .spliceRecordWrite 1 2 [5, 0], .slitterStationWrite 1 2 [1, 0]] : List Instr),
      after c (State.inRun base) = some ((State.inRun base).replied 1 6 0 [])) := by
  refine ⟨?_, ?_, ?_, ?_⟩ <;> decide +kernel

/-! ### Witnesses: reads and the order queue -/

def linked : State := base.setLink 10 (some { aLink with store := true, aUp := 5, aDown := 9, anchored := true })

/-- Table ids 1 and 21 are known, 0 and 22 are not; index 10 is a link's last and 11 has none. -/
theorem witness_TableReadAnswers :
    tableHas 2 10 0 = some true ∧ linked.answersWords (tableWords 2 10 0 linked).length ∧ linked.answers ∧
    (linked.linkAt 10).isSome = true ∧
    after (.tableRead 1 0 [2, 10, 0]) linked = some (linked.replied 1 0 0 [4, 6, 4096, 0, 0, 0, 5, 9, 1]) ∧
    tableHas 21 11 70000 = some true ∧ (tableHas 1 11 0 = some true ∧ tableHas 2 11 0 = some false) ∧
    after (.tableRead 1 2 [2, 11, 0]) linked = some (linked.replied 1 4 0 []) ∧
    after (.tableRead 1 2 [0, 0, 0]) linked = some (linked.replied 1 3 0 []) ∧
    after (.tableRead 1 2 [22, 0, 0]) linked = some (linked.replied 1 3 0 []) := by
  refine ⟨?_, ?_, ?_, ?_, ?_, ?_, ?_, ?_, ?_, ?_⟩ <;> decide +kernel

def oneNext : State := State.orders base [anOrder 5 0 .next none]

def oneOpen : State := State.orders base [anOrder 5 0 .cutting (some ⟨0, 1, 700⟩)]

/-- Every number at an end of its range. -/
theorem witness_OrderAddTaken :
    (oneNext.answers ∧ oneNext.op.queue.length < Config.queueCapacity ∧ oneNext.orderAt ⟨6, 3⟩ = none ∧
      oneNext.gradeAt 0 = some aGrade ∧ oneNext.patternAt 0 = some aPattern ∧ aPattern.width ≤ aGrade.width ∧
      oneNext.nextOrder.isSome = true ∧ oneNext.nextKey = oneNext.nextOrder.map (·.key)) ∧
    (after (.orderAdd 1 1 [6, 3, 0, 0, 3000, 1000000, 1, 4, 1000]) oneNext).map (fun t =>
      (t.op.queue.map (fun o => (o.key.number, o.state, o.cuts)), t.mu.replies))
        = some ([(5, .next, 50), (6, .queued, 500000)], [⟨1, 0, 65536, [1, 0]⟩]) ∧
    (oneOpen.answers ∧ oneOpen.orderAt ⟨6, 0⟩ = none ∧
      (∀ x ∈ oneOpen.op.queue, x.start.isSome = true ∧ x.state ≠ .next)) ∧
    (after (.orderAdd 1 2 [6, 0, 0, 0, 80000, 1, 65535, 0, 0]) oneOpen).map (fun t =>
      (t.op.queue.map (fun o => (o.key.number, o.state, o.cuts)), t.mu.replies))
        = some ([(5, .cutting, 50), (6, .next, 1)], [⟨1, 0, 65536, [1, 1]⟩]) := by
  refine ⟨?_, ?_, ?_, ?_⟩ <;> decide +kernel

/-- The order 5/0 in the state given, cancelled or not. -/
def inState (x : OrderState) (cancelled : Bool) : State :=
  State.orders base [{ anOrder 5 0 x (if x = .queued ∨ x = .next then none else some ⟨0, 1, 700⟩) with cancelled := cancelled }]

/-- An order that waits, edited at both levels; a committed one, edited in SETUP and in RUN. -/
theorem witness_OrderEditTaken :
    (oneNext.answersInSetup ∧ oneNext.wm.boardChange = none ∧
      oneNext.orderAt ⟨5, 0⟩ = some (anOrder 5 0 .next none) ∧ oneNext.gradeAt 0 = some aGrade ∧
      oneNext.patternAt 0 = some aPattern ∧ aPattern.width ≤ aGrade.width ∧
      ∀ x ∈ oneNext.op.queue, x.key = ⟨5, 0⟩ → x = anOrder 5 0 .next none) ∧
    after (.orderEdit 1 1 [5, 0, 8, 1000000]) oneNext = some ((State.orders base
      [{ anOrder 5 0 .next none with sheets := 1000000, cuts := 500000 }]).replied 1 0 0 []) ∧
    after (.orderEdit 1 1 [5, 0, 12, 3000, 1]) oneNext = some ((State.orders base
      [{ anOrder 5 0 .next none with sheets := 1, cuts := 1 }]).replied 1 1 0 [2]) ∧
    after (.orderEdit 1 2 [5, 0, 4, 80000]) oneNext = some ((State.orders base
      [{ anOrder 5 0 .next none with length := 80000 }]).replied 1 0 0 []) ∧
    after (.orderEdit 1 1 [5, 0, 4, 80000]) oneNext = some (oneNext.replied 1 5 0 []) ∧
    ([inState .committed false, State.inRun (inState .committed false), inState .cutting false
      , State.inRun (inState .cutting false)].all (fun s => (s.orderAt ⟨5, 0⟩).any (fun o => o.start.isSome && !o.cancelled) &&
        (after (.orderEdit 1 1 [5, 0, 104, 200, 4, 1000]) s).map (fun t =>
          (t.op.queue.map (fun o => [o.sheets, o.cuts, o.lane, o.overrun]), t.mu.replies))
          == some ([[200, 100, 4, 1000]], [⟨1, 0, 65536, []⟩]))) = true ∧
    ((inState .committed false).ordersHeld ∧ (inState .cutting false).ordersHeld) ∧
    ([inState .committed false, inState .cutting false].all (fun s =>
      (after (.orderEdit 1 1 [5, 0, 104, 200, 4, 1000]) (State.inRun s)).map (fun t => t.op.queue.map (·.start)) ==
        some [some ⟨0, 1, 700⟩])) = true := by
  refine ⟨?_, ?_, ?_, ?_, ?_, ?_, ⟨⟨?_, ?_, ?_⟩, ⟨?_, ?_, ?_⟩⟩, ?_⟩ <;> decide +kernel

/-- Every state of the order, cancelled already or not; committed and cutting in SETUP and in RUN. -/
theorem witness_OrderCancelTaken :
    (base.answersInSetup ∧ base.wm.boardChange = none ∧ base.orderAt ⟨5, 0⟩ = none ∧
      after (.orderCancel 1 1 [5, 0]) base = some (base.replied 1 14 0 [])) ∧
    ([OrderState.queued, .next, .committed, .cutting, .stacking, .done, .cancelled].all (fun x =>
      (inState x true).wm.boardChange.isNone && (inState x true).orderAt ⟨5, 0⟩ ==
        some { (anOrder 5 0 x (if x = .queued ∨ x = .next then none else some ⟨0, 1, 700⟩)) with cancelled := true } &&
      after (.orderCancel 1 2 [5, 0]) (inState x true) == some ((inState x true).replied 1 0 0 []))) = true ∧
    ([OrderState.queued, .next].all (fun x => ((inState x false).orderAt ⟨5, 0⟩).any (fun o => o.state == x && !o.cancelled)
      && (after (.orderCancel 1 2 [5, 0]) (inState x false)).map (fun t => (t.op.queue.length, t.mu.events.length))
        == some (0, 1))) = true ∧
    ((inState .committed false).orderAt ⟨5, 0⟩).any (fun o => o.state == .committed && !o.cancelled && o.start.isSome) = true ∧
    ([inState .committed false, State.inRun (inState .committed false)].all (fun s =>
      (after (.orderCancel 1 2 [5, 0]) s).map (fun t => t.op.queue.map (fun o =>
        (o.sheets, o.cuts, o.lane, o.cancelled, o.start))) == some [(0, 0, 0, true, some ⟨0, 1, 700⟩)])) = true ∧
    ([inState .cutting false, State.inRun (inState .cutting false)].all (fun s =>
      (after (.orderCancel 1 2 [5, 0]) s).map (fun t => t.op.queue.map (fun o =>
        (o.sheets, o.cuts, o.lane, o.cancelled))) == some [(100, 20, 1, true)])) = true ∧
    ([OrderState.stacking, .done, .cancelled].all (fun x =>
      after (.orderCancel 1 2 [5, 0]) (inState x false) == some ((inState x false).replied 1 10 0 []))) = true := by
  refine ⟨?_, ?_, ?_, ?_, ?_, ?_, ?_⟩ <;> decide +kernel

/-- An order that waits behind an open one that still needs 30 of its 50 cuts. -/
def openAndNext : State := State.orders base [anOrder 5 0 .cutting (some ⟨0, 1, 700⟩), anOrder 7 0 .next none]

/-- The same, but the open order has all 50 cuts. -/
def openAndFull : State := State.orders base
  [{ anOrder 5 0 .cutting (some ⟨0, 1, 700⟩) with good := 50 }, anOrder 7 0 .next none]

/-- Without an open order, with one that needs no split, and with a split in SETUP and in RUN. -/
theorem witness_OrderRushTaken :
    (oneNext.answersInSetup ∧ oneNext.wm.boardChange = none ∧ oneNext.orderAt ⟨6, 0⟩ = none ∧ oneNext.openOrder = none ∧
      oneNext.op.queue.length < Config.queueCapacity ∧ oneNext.gradeAt 0 = some aGrade ∧
      oneNext.patternAt 0 = some aPattern) ∧
    (after (.orderRush 1 1 [6, 0, 0, 0, 3000, 1, 1, 0, 0]) oneNext).map (fun t =>
      (t.op.queue.map (fun o => (o.key.number, o.state)), t.mu.replies))
        = some ([(6, .next), (5, .queued)], [⟨1, 0, 65536, [0]⟩]) ∧
    (openAndFull.openOrder.any (fun r => r.cuts ≤ r.good + openAndFull.goodInHand r.key) = true ∧
      (after (.orderRush 1 1 [6, 0, 0, 0, 3000, 1, 1, 0, 0]) openAndFull).map (fun t =>
        (t.op.queue.map (fun o => (o.key.number, o.state)), t.mu.replies))
          = some ([(5, .cutting), (6, .next), (7, .queued)], [⟨1, 0, 65536, [1]⟩])) ∧
    (openAndNext.answersInSetup ∧ openAndNext.openOrder = some (anOrder 5 0 .cutting (some ⟨0, 1, 700⟩)) ∧
      openAndNext.orderAt ⟨5, 0⟩ = openAndNext.openOrder ∧ 20 + openAndNext.goodInHand ⟨5, 0⟩ < 50 ∧
      openAndNext.op.queue.length + 2 ≤ Config.queueCapacity ∧ openAndNext.orderAt ⟨5, 1⟩ = none ∧
      openAndNext.orderAt ⟨6, 0⟩ = none) ∧
    (after (.orderRush 1 2 [6, 0, 0, 0, 3000, 1, 1, 0, 0]) openAndNext).map (fun t =>
      t.op.queue.map (fun o => (o.key, o.state, o.cuts, o.sheets))) = some [(⟨5, 0⟩, .cutting, 20, 40),
        (⟨6, 0⟩, .next, 1, 1), (⟨5, 1⟩, .queued, 30, 60), (⟨7, 0⟩, .queued, 50, 100)] ∧
    (after (.orderRush 1 2 [6, 0, 0, 0, 3000, 1, 1, 0, 0]) (State.inRun openAndNext)).map (fun t =>
      (t.op.queue.map (·.key), (t.orderAt ⟨5, 0⟩).map (fun o => (o.cuts, o.sheets, o.split)), t.mu.replies)) =
      some ([⟨5, 0⟩, ⟨6, 0⟩, ⟨5, 1⟩, ⟨7, 0⟩], some (20, 40, true), [⟨1, 0, 65536, [1]⟩]) := by
  refine ⟨?_, ?_, ⟨?_, ?_⟩, ?_, ?_, ?_⟩ <;> decide +kernel

def aCompletion : Completion :=
  { key := ⟨5, 0⟩, cancelled := false, split := true, boundary := 9, good := 1, sheets := 2, scrap := 3
    breakdown := ⟨0, 0, 0, 0, 0, 0, 0, 0, 0, 0⟩, dropped := 4, short := 5, excess := 6, cycle := 7 }

def closed (n : Nat) : State := base.withOp { base.op with history := List.replicate n aCompletion }

theorem witness_OrderAndHistoryReads :
    oneOpen.answersWords 32 ∧ (oneOpen.orderAt ⟨5, 0⟩).isSome = true ∧ (oneOpen.op.queue[0]?).isSome = true ∧
    (after (.orderRead 1 0 [5, 0]) oneOpen).map (fun t => t.mu.replies.map (fun r => (r.part, r.words.length)))
      = some [(0, 24), (1, 8)] ∧
    after (.orderRead 1 0 [0]) oneOpen = after (.orderRead 1 0 [5, 0]) oneOpen ∧
    oneOpen.orderAt ⟨6, 0⟩ = none ∧ oneOpen.op.queue.length ≤ (1 : Word).toNat ∧
    after (.orderRead 1 0 [6, 0]) oneOpen = some (oneOpen.replied 1 14 0 []) ∧
    after (.orderRead 1 0 [1]) oneOpen = some (oneOpen.replied 1 14 0 []) ∧
    base.op.history = [] ∧ after (.historyRead 1 0 []) base = some (base.replied 1 0 0 [0]) ∧
    (closed 8).op.history = List.replicate 7 aCompletion ++ [aCompletion] ∧
    (closed 8).answersWords (1 + 22 * (closed 8).op.history.length) ∧
    (after (.historyRead 1 2 []) (closed 8)).map (fun t => t.mu.replies.map (fun r => r.words.length))
      = some [24, 24, 24, 24, 24, 24, 24, 9] := by
  refine ⟨?_, ?_, ?_, ?_, ?_, ?_, ?_, ?_, ?_, ?_, ?_, ?_, ?_, ?_⟩ <;> decide +kernel

/-! ### Witnesses: links, splices, zones, stations, modes -/

/-- Sections 4 and 6 with a free link 10 between them. -/
def joined : State :=
  (State.sec (State.sec base 4 .web .held 1000 []) 6 .combined .held 400 []).setLink 10 (some { aLink with ratio := 8192 })

theorem witness_AnchorLinkTaken :
    joined.answers ∧ (10 : Word).toNat ≤ 10 ∧ (100000000 : Word).toNat ≤ 100000000 ∧
    joined.linkAt 10 = some { aLink with ratio := 8192 } ∧
    (joined.sectionAt 4).isSome = true ∧ (joined.sectionAt 6).isSome = true ∧
    after (.anchorLink 1 2 [10, 100000000]) joined = some ((joined.setLink 10 (some
      { aLink with ratio := 8192, aUp := 1000, aDown := 50000400, anchored := true })).replied 1 0 0 [1000, 50000400]) ∧
    joined.linkAt 9 = none ∧ after (.anchorLink 1 2 [9, 5]) joined = some (joined.replied 1 14 0 []) ∧
    after (.anchorLink 1 2 [11, 5]) joined = some (joined.replied 1 4 0 []) ∧
    after (.anchorLink 1 2 [10, 100000001]) joined = some (joined.replied 1 4 0 []) := by
  refine ⟨?_, ?_, ?_, ?_, ?_, ?_, ?_, ?_, ?_, ?_, ?_⟩ <;> decide +kernel

/-- Web 5 on section 4 at count 1000, with its splicer's channel 0. -/
def splicing (st : WebState) : State :=
  State.chan (State.sec (State.web base 5 st) 4 .web .primary 1000 []) 0 .splicer 2 1 []

theorem witness_SpliceNowTaken :
    ((State.inRun (splicing (WebState.initial 3))).answers ∧
      (State.inRun (splicing (WebState.initial 3))).wm.boardChange = none ∧
      ((State.inRun (splicing (WebState.initial 3))).webAt 5).any (fun w =>
        w.st.plan == none && w.cfg.spliceLead ≤ 10000000) = true ∧
      ((State.inRun (splicing (WebState.initial 3))).channelAt 0).any (fun c =>
        c.cls == some .splicer && c.outstanding.length < c.depth) = true) ∧
    after (.spliceNow 1 1 [5]) (State.inRun (splicing { WebState.initial 3 with blocked := true })) = some ((State.inRun ((splicing
      { WebState.initial 3 with plan := some aPlan, spliceTag := some 1 }).adjustChannel 0 (fun c =>
        { c with nextTag := 2, outstanding := [{ aCommand 1 .spliceAt with
            args := [91000], role := some ⟨4, .primary⟩, sendTime := none }] }))).replied 1 0 0 [91000]) ∧
    after (.spliceNow 1 1 [5]) (State.inRun (splicing { WebState.initial 3 with plan := some aPlan })) =
      some ((State.inRun (splicing { WebState.initial 3 with plan := some aPlan })).replied 1 9 0 []) ∧
    (splicing (WebState.initial 3)).mu.mode = .setup ∧
    after (.spliceNow 1 2 [5]) (splicing (WebState.initial 3)) = some ((splicing (WebState.initial 3)).replied 1 7 0 []) := by
  refine ⟨?_, ?_, ?_, ?_, ?_⟩ <;> decide +kernel

/-- Section 4 in RUN at count 50000. -/
def zoning : State := State.inRun (State.sec base 4 .web .primary 50000 [])

theorem witness_ZoneAddTaken :
    (zoning.answers ∧ (zoning.sectionAt 4).isSome = true ∧ zoning.wm.boardChange = none ∧ zoning.isBoard 4 = false ∧
      Config.boundaryLimit - zoning.boundaryCount < zoning.freeCount) ∧
    (sdist 50000 (1073791824 : Word)).natAbs ≤ 1073741824 ∧
    (after (.zoneAdd 1 1 [4, 0, 1073791824, 1000000, 0]) zoning).map (fun t =>
      ((t.mapAt 4).marks.map (fun m => (m.pos, m.lead, m.trail)),
        t.mu.replies.map (fun r => (r.tag, r.value, r.words.head?))))
        = some ([(1073791824, 1000000, 0)], [(1, 65536, some 0)]) ∧
    -1000000 ≤ (-1000000 : Word).toInt ∧ (10000000 : Word).toInt ≤ 10000000 ∧
    (after (.zoneAdd 1 1 [4, 1, -1000000, 0, 5]) zoning).map (fun t => (t.mapAt 4).marks.map (·.pos)) = some [1050000] ∧
    (after (.zoneAdd 1 1 [4, 1, 10000000, 0, 5]) zoning).map (fun t => (t.mapAt 4).marks.map (·.pos)) = some [-9950000] ∧
    (State.sec base 4 .web .primary 50000 []).mu.mode = .setup ∧
    after (.zoneAdd 1 1 [4, 1, 0, 0, 5]) (State.sec base 4 .web .primary 50000 []) =
      some ((State.sec base 4 .web .primary 50000 []).replied 1 7 0 []) := by
  refine ⟨?_, ?_, ?_, ?_, ?_, ?_, ?_, ?_, ?_⟩ <;> decide +kernel

/-- Section 4 HELD in RUN with the marks given, and 176 marks in section 5: the free records are the boundary reserve. -/
def crowded (here : List Mark) : State :=
  let far := (List.range 176).map (fun k => { aMark with slot := k, sec := 5 })
  let s := State.inRun (State.sec base 4 .web .held 50000 [])
  s.withWm { s.wm with maps := (s.wm.maps.set 4 { s.mapAt 4 with marks := here }).set 5 { s.mapAt 5 with marks := far } }

def downstream : Mark := { aMark with slot := 190, serial := 7, pos := 49000 }

def upstream : Mark := { aMark with slot := 191, serial := 8, pos := 51000, lead := 400, trail := 100 }

/-- Of two marks as near the one nearer the head takes the zone, its margin of 1,000 included; with none the zone is
dropped. -/
theorem witness_ZoneAddTaken_full :
    ((crowded [downstream, upstream]).answers ∧ (crowded [downstream, upstream]).isBoard 4 = false ∧
      (crowded [downstream, upstream]).freeCount ≤
        Config.boundaryLimit - (crowded [downstream, upstream]).boundaryCount ∧
      (crowded [downstream, upstream]).uncertain 4 = true ∧ (crowded []).freeCount = 16) ∧
    ((sdist downstream.pos 50000).natAbs = 1000 ∧ (sdist upstream.pos 50000).natAbs = 1000) ∧
    (after (.zoneAdd 1 1 [4, 0, 50000, 100, 200]) (crowded [downstream, upstream])).map (fun t => (t.mapAt 4).marks) =
      some [{ downstream with kind := .zone, cause := some .defect, lead := 100, trail := 2200, reckoned := true }
        , upstream] ∧
    (after (.zoneAdd 1 1 [4, 0, 50001, 100, 200]) (crowded [downstream, upstream])).map (fun t => t.mu.replies) =
      some [⟨1, 0, 65536, [1, 191, 8]⟩] ∧
    after (.zoneAdd 1 1 [4, 0, 50000, 100, 200]) (crowded []) =
      some ((raise .mapFull 4 50000 2 (crowded [])).replied 1 0 0 [2]) := by
  refine ⟨?_, ?_, ?_, ?_, ?_⟩ <;> decide +kernel

/-- BOARD in RUN at count 50,000 with the knife 20,000 on, and a cut plan. -/
def boarding (plan : List CutEntry) : State :=
  let s := State.inRun (State.sec base 7 .board .primary 50000 [⟨.knife, 20000⟩])
  s.withCp { s.cp with plan := plan, base := some 31000 }

def plannedCut : CutEntry := { target := 39000, good := true, cause := none, order := none, sent := none }

/-- In BOARD: with nothing PLANNED the plan stays, and a PLANNED cut that the zone touches is planned again. -/
theorem witness_ZoneAddTaken_board :
    ((boarding []).answers ∧ (boarding []).isBoard 7 = true ∧ (boarding []).openOrder = none ∧
      (boarding []).nextOrder = none ∧ Config.boundaryLimit - (boarding []).boundaryCount < (boarding []).freeCount) ∧
    (after (.zoneAdd 1 1 [7, 0, 38000, 100, 200]) (boarding [])).map (fun t =>
      ((t.mapAt 7).marks.map (fun m => (m.pos, m.lead, m.trail)), t.wm.boardChange)) = some ([(38000, 100, 200)], none) ∧
    (after (.zoneAdd 1 1 [7, 0, 38000, 100, 200]) (boarding [])).map (fun t => (t.cp, t.mu.mode, t.op.bproj)) =
      some ((boarding []).cp, .run, .none) ∧
    (after (.zoneAdd 1 1 [7, 0, 38000, 100, 200]) (boarding [plannedCut])).map (fun t =>
      ((t.mapAt 7).marks.map (·.pos), t.cp.plan.head?.map (fun e => (e.target, e.good, e.cause)))) =
        some ([38000], some (38200, false, some .zone)) := by
  refine ⟨?_, ?_, ?_, ?_⟩ <;> decide +kernel

/-- Station A in a state, whose report slot 50 says the given aux word. -/
def reporting (x : StationState) (aux : Word) : State := State.slot (State.slitter base 0 1 50 x) 50 3 0 .sp 0 aux true 0

/-- A swap from the old station to the new one for pattern 0. -/
def aSwap (fresh : Nat) (old : Option Nat) : Swap :=
  { kind := .boundary, boundary := none, pattern := 0, newStation := fresh, oldStation := old, stage := .waiting
    drop := .notSent, lift := .failed, lateStart := none }

def swapping (w : Swap) : State :=
  let s := State.chan (State.orders (reporting .fault 1) []) 1 .slitter 3 1 []
  s.withSp { s.sp with swap := some w }

def clearing : State := (reporting .fault 1).withSp { (reporting .fault 1).sp with
  cover := { (reporting .fault 1).sp.cover with active := true } }

/-- Not FAULT; FAULT without and with the tool state UP; a cover run in SETUP and in RUN; a held swap whose old station
it is or is not, and in RUN whose new station it is. -/
theorem witness_StationClearTaken :
    (reporting .engaged 1).answers ∧ ((reporting .engaged 1).stationAt 0).any (fun x => x.state != .fault) = true ∧
    (reporting .engaged 1).wm.boardChange = none ∧
    after (.stationClear 1 1 [0]) (reporting .engaged 1) = some ((reporting .engaged 1).replied 1 0 0 [3]) ∧
    ((reporting .fault 1).stationAt 0).any (fun x => x.state == .fault && (reporting .fault 1).fresh x.cfg.slot &&
      (reporting .fault 1).slotAux x.cfg.slot == 1) = true ∧ (reporting .fault 1).mu.mode = .setup ∧
    (reporting .fault 1).sp.swap = none ∧ (reporting .fault 1).sp.cover.active = false ∧
    after (.stationClear 1 2 [0]) (reporting .fault 1) = some ((reporting .idle 1).replied 1 0 0 [0]) ∧
    ¬((reporting .fault 2).fresh 50 = true ∧ (reporting .fault 2).slotAux 50 = 1) ∧
    after (.stationClear 1 2 [0]) (reporting .fault 2) = some ((reporting .fault 2).replied 1 9 0 []) ∧
    (clearing.sp.cover.active = true ∧ clearing.sp.swap = none ∧ clearing.openOrder = none ∧ clearing.nextOrder = none ∧
      clearing.op.runningPattern = none ∧ (clearing.stationAt (1 - 0)).isNone = true ∧
      [clearing, State.inRun clearing].map (fun s => (after (.stationClear 1 2 [0]) s).map (fun t =>
        ((t.stationAt 0).map (fun x => (x.state, x.atRisk)), t.sp.cover.active, t.mu.replies))) =
        List.replicate 2 (some (some (.idle, false), false, [⟨1, 0, 65536, [0]⟩]))) ∧
    [aSwap 1 (some 0), aSwap 0 none].map (fun w => (after (.stationClear 1 2 [0]) (swapping w)).map (fun t =>
      ((t.stationAt 0).map (·.state), t.sp.swap.map (·.lift), t.mu.replies))) =
      [some (some .idle, some .done, [⟨1, 0, 65536, [0]⟩]), some (some .idle, some .failed, [⟨1, 0, 65536, [0]⟩])] ∧
    ((State.inRun (swapping (aSwap 0 none))).mu.mode = .run ∧
      (State.inRun (swapping (aSwap 0 none))).patternAt 0 = some aPattern ∧
      ((State.inRun (swapping (aSwap 0 none))).channelAt 1).any (fun c =>
        c.cls == some .slitter && c.outstanding.length < c.depth) = true ∧
      (after (.stationClear 1 2 [0]) (State.inRun (swapping (aSwap 0 none)))).map (fun t =>
        ((t.stationAt 0).map (fun x => (x.state, x.pattern, x.live)), t.mu.replies)) =
        some (some (.presetting, some 0, some ⟨.preset, 1⟩), [⟨1, 0, 65536, [1]⟩]) ∧
      (after (.stationClear 1 2 [0]) (State.inRun (swapping (aSwap 0 none)))).map (fun t =>
        (t.channelAt 1).map (fun c => c.outstanding.map (fun x => (x.tag, x.verb, x.args)))) =
        some (some [(1, .preset, [2, 1, 0, 12000])])) := by
  refine ⟨?_, ?_, ?_, ?_, ?_, ?_, ?_, ?_, ?_, ?_, ?_, ⟨?_, ?_, ?_, ?_, ?_, ?_, ?_⟩, ?_, ?_, ?_, ?_, ?_, ?_⟩ <;>
    decide +kernel

/-- In RUN with section 11 in a source state and at a speed. -/
def moving (src : SourceState) (speed : Nat) : State :=
  State.inRun ((State.sec base 11 .web src 5 []).adjustTrack 11 (fun t => { t with speed := speed }))

/-- A test on every loaded section, made on the 12 records. -/
theorem sections_all {s : State} {p : Section → Bool} (hl : s.pt.sections.length = 12)
    (h : (List.range 12).all (fun i => (s.sectionAt i).all p) = true) (i : Nat) (c : Section)
    (hc : s.sectionAt i = some c) : p c = true := by
  by_cases hi : i < 12
  · have hp := List.all_eq_true.mp h i (List.mem_range.mpr hi)
    rw [hc] at hp
    exact hp
  · refine no (show s.sectionAt i = none from ?_) hc
    simp [State.sectionAt, lookup, hl, Nat.le_of_not_lt hi]

/-- The least line that may run: BOARD with its five points, two slitters, a knife and a stacker on command channels
1, 3, 2 and 4, each with its OWN entry. -/
def leastLine : State :=
  let s := State.sec base 7 .board .held 0 [⟨.slitterA, 20000⟩, ⟨.slitterB, 35000⟩, ⟨.knife, 60000⟩, ⟨.gate, 70000⟩
    , ⟨.stacker, 100000⟩]
  let s := State.slot (State.slot (State.slot s 0 1 0 .pt 0 0 false 0) 50 3 0 .sp 0 1 true 0) 51 4 0 .sp 0 1 true 0
  let s := State.chan (State.chan (State.chan (State.chan s 1 .slitter 3 1 []) 3 .slitter 4 1 []) 2 .knife 7 2 []) 4
    .stacker 6 1 []
  let own (st : Byte) (i : Nat) : Option ChannelEntry :=
    some { key := ⟨st, 10⟩, mode := .own, source := some (.command i), band := none }
  let s := s.withFr { s.fr with
    channels := [own 3 1, own 4 3, own 7 2, own 6 4] ++ List.replicate 124 none }
  let s := State.slitter (State.slitter s 0 1 50 .idle) 1 3 51 .idle
  (s.withCp { s.cp with knife := some 2 }).withSg { s.sg with channel := some 4 }

theorem witness_ModeRequestsTaken :
    (base.answers ∧ base.wm.boardChange = none ∧ base.mu.mode = .setup ∧
      after (.modeSetup 1 2) base = some (base.replied 1 0 0 [])) ∧
    ((moving .held 9).answers ∧ (moving .held 9).wm.boardChange = none ∧ (moving .held 9).mu.mode = .run) ∧
    (∀ i c, (moving .held 9).sectionAt i = some c → c.trk.source = .held ∨ c.trk.speed = 0) ∧
    (after (.modeSetup 1 2) (moving .held 9)).map (fun t => (t.mu.mode, t.mu.events, t.mu.replies.map (·.words)))
      = some (.setup, [⟨.modeChanged, 0, 0, 0, 0⟩], [[]]) ∧
    ((moving .primary 9).answers ∧ (moving .primary 9).wm.boardChange = none ∧
      ((moving .primary 9).sectionAt 11).any (fun c => c.trk.source != .held && c.trk.speed != 0) = true ∧
      ∀ j < 11, (moving .primary 9).sectionAt j = none) ∧
    after (.modeSetup 1 2) (moving .primary 9) = some ((moving .primary 9).replied 1 17 0 [11]) ∧
    ((State.inRun base).answers ∧ (State.inRun base).wm.boardChange = none ∧
      after (.modeRun 1 2) (State.inRun base) = some ((State.inRun base).replied 1 0 0 [])) ∧
    (leastLine.answers ∧ leastLine.wm.boardChange = none ∧ leastLine.mu.mode = .setup ∧ runCheck leastLine = none) ∧
    (after (.modeRun 1 2) leastLine).map (fun t => (t.mu.mode, t.mu.replies, t.mu.events))
      = some (.run, [⟨1, 0, 65536, []⟩], [⟨.modeChanged, 1, 0, 0, 0⟩]) ∧
    (runCheck (leastLine.withCp { leastLine.cp with knife := none }) = some ⟨4, 14, some 0⟩ ∧
      (after (.modeRun 1 2) (leastLine.withCp { leastLine.cp with knife := none })).map (·.mu.replies) =
        some [⟨1, 0, 16 + 256 * 4 + 65536, [14, 0]⟩]) ∧
    (∀ i c, base.sectionAt i = some c → c.cfg.kind ≠ .board) ∧
    after (.modeRun 1 2) base = some (base.replied 1 16 1 [1, absentWord]) := by
  refine ⟨by decide +kernel, by decide +kernel, fun i c h => ?_, by decide +kernel, by decide +kernel, by decide +kernel,
    by decide +kernel, by decide +kernel, by decide +kernel, by decide +kernel, fun i c h => no (free 12 i) h,
    by decide +kernel⟩
  exact .inl (of_decide_eq_true (sections_all (p := fun c => decide (c.trk.source = .held)) (by decide +kernel)
    (by decide +kernel) i c h))

theorem witness_ResetTrackingTaken :
    (openAndNext.answers ∧ openAndNext.wm.boardChange = none ∧ openAndNext.mu.mode = .setup ∧
      (after (.resetTracking 1 2 []) openAndNext).map (fun t => t.op.queue.map (fun o => (o.state, o.start, o.good)))
        = some [(.queued, none, 20), (.queued, none, 20)]) ∧
    (State.inRun base).mu.mode = .run ∧
    after (.resetTracking 1 2 []) (State.inRun base) = some ((State.inRun base).replied 1 6 0 []) := by
  refine ⟨?_, ?_, ?_⟩ <;> decide +kernel

def flagged : State := (base.withFr { base.fr with frameFull := true, badOutbound := 65535 }).withMu
  { base.mu with replyLost := true }

theorem witness_ClearAndStatusTaken : flagged.answers ∧ (0 : Word).toNat ≤ 2 ∧
    after (.clear 1 1 []) flagged = some (base.replied 1 0 0 [5]) ∧
    after (.statusRead 1 0 []) flagged = some (flagged.replied 1 0 5
      ([0, 0, 0, 0, 192, 0, 0, 0, 0, 0, 0] ++ List.replicate 12 0 ++ [10])) := by
  refine ⟨?_, ?_, ?_, ?_⟩ <;> decide +kernel

/-! ### Witnesses: what the blocks compute, and the invariants -/

/-- Section 4 on primary slot 60 with its window open, the counter at 1000. -/
def tracked (src : SourceState) : State :=
  let s := State.slot (State.sec base 4 .web src 1000 []) 60 6 0 .pt 0 0 false 2
  (s.withFr { s.fr with windowOpen := true, sample := 9000 }).withPt { s.pt with
    sections := s.pt.sections.map (Option.map (fun c => { c with cfg := { c.cfg with primarySlot := 60 } })) }

def report (v : Word) : Frame := retFrame 6 0 [anItem 6 0 6 0 v]

/-- A candidate one ahead, level and one behind, and PRIMARY taken over. -/
theorem witness_TrackCounterFollowsPrimary :
    goodReturn (report 999).compose = some (report 999) ∧ (tracked .primary).fr.windowOpen = true ∧
    (report 999).cycle = (tracked .primary).fr.cycle ∧
    ¬((tracked .primary).workingAddress = true ∧ (report 999).source = (tracked .primary).ownByte) ∧
    (tracked .primary).wm.boardChange = none ∧ (tracked .primary).mu.mode = .setup ∧
    (anItem 6 0 6 0 999).readKind = some .report ∧ watchSlot ⟨6, 0⟩ .report (tracked .primary) = some 60 ∧
    ((tracked .primary).slotAt 60).map (·.owner) = some .pt ∧
    ((tracked .primary).healthAt 6).map (·.suspect) = some false ∧
    ((tracked .primary).sectionAt 4).any (fun c => c.cfg.primarySlot == 60 && c.cfg.backupSlot != some 60) = true ∧
    ([(1001, 1001), (1000, 1000), (999, 1000)] : List (Word × Word)).all (fun v =>
      (after (.returnFrame (report v.1).compose) (tracked .primary)).map (fun t =>
        (t.sectionAt 4).map (·.trk.count)) == some (some v.2)) = true ∧
    (after (.returnFrame (report 7).compose) (tracked .held)).map (fun t =>
      (t.sectionAt 4).map (fun c => (c.trk.count, c.trk.primaryOffset, c.trk.source)))
        = some (some (1000, 993, .primary)) := by
  refine ⟨?_, ?_, ?_, ?_, ?_, ?_, ?_, ?_, ?_, ?_, ?_, ?_, ?_⟩ <;> decide +kernel

/-- Distances of 2^30, where the limit begins, and one more; a tie at r = 8192 in both signs. -/
theorem witness_CarryOverALink :
    linked.linkAt 10 = some { aLink with store := true, aUp := 5, aDown := 9, anchored := true } ∧
    carryOver 10 1073741829 linked = (linked, some (1073741833, false)) ∧
    (carryOver 10 1073741830 linked).2 = some (1073741833, true) ∧
    (base.setLink 3 (some aLink)).linkAt 3 = some aLink ∧
    (carryOver 3 7 (base.setLink 3 (some aLink))).2 = none ∧
    carryPos { aLink with ratio := 8192, anchored := true } 5 = (3, false) ∧
    carryPos { aLink with ratio := 8192, anchored := true } (-5) = (-3, false) ∧
    (inverseOver 10 536870921 linked).2 = some 536870917 ∧ (inverseOver 3 7 (base.setLink 3 (some aLink))).2 = none ∧
    [0, 1, 3].map (carryLength { aLink with ratio := 8192 }) = [0, 1, 2] ∧
    [0, 1, 2].map (carryLengthUp { aLink with ratio := 6144 }) = [0, 2, 3] := by
  refine ⟨?_, ?_, ?_, ?_, ?_, ?_, ?_, ?_, ?_, ?_, ?_⟩ <;> decide +kernel

/-- The curve of 10's worked example, at its breakpoints and between them. -/
theorem witness_CurveValueIsInterpolated :
    ([⟨1000, 900⟩, ⟨2500, 1500⟩, ⟨4000, 2100⟩] : List Breakpoint).Pairwise (fun a b => a.v < b.v) ∧
    (∀ b ∈ ([⟨1000, 900⟩, ⟨2500, 1500⟩, ⟨4000, 2100⟩] : List Breakpoint), b.y ≤ 65535) ∧
    [0, 1000, 2500, 2501, 4000, 6000].map (curveValue [⟨1000, 900⟩, ⟨2500, 1500⟩, ⟨4000, 2100⟩])
      = [900, 900, 1500, 1500, 2100, 2100] := by
  refine ⟨?_, ?_, ?_⟩ <;> decide +kernel

theorem witness_GeneratorOutputHeld :
    ((heating { GenState.initial with lastOutput := some 1400 } genCfg).generatorAt 3).any (fun g =>
      g.cfg.outMin ≤ g.cfg.outMax && g.st.lastOutput == some 1400) = true ∧
    (generatorValue 3 (heating { GenState.initial with lastOutput := some 1400 } genCfg)).2 = some 1420 ∧
    (generatorValue 3 (heating GenState.initial { genCfg with outMax := 1499 })).2 = some 1499 ∧
    (generatorValue 3 (heating { GenState.initial with inLift := true, lastOutput := some 9 } genCfg)).2 = some 1500 ∧
    liftsNow ⟨genCfg, GenState.initial⟩ (heating GenState.initial genCfg) = false := by
  refine ⟨?_, ?_, ?_, ?_, ?_⟩ <;> decide +kernel

/-- The reset state meets the premises, and so does a state with one mark in section 4. -/
def marked : State := enterMark aMark base

theorem witness_MapOperationsSound :
    marked.reserveHeld ∧ marked.allMarks.map (fun m => (m.slot, m.sec)) = [(0, 4)] ∧
    (∀ i, ∀ m ∈ (marked.mapAt i).marks, m.sec = i ∧ m.slot < Config.markSlots) ∧
    ((moveMark 0 1 4 90 .confirmed marked).1.mapAt 4).marks.map (·.pos) = [90] ∧
    ((deleteMark 0 1 marked).1.mapAt 4).marks = [] ∧
    (createBoundary 4 5 none false marked).2.map (fun b => (b.serial, b.pos)) = some (2, 5) := by
  refine ⟨by decide +kernel, by decide +kernel, fun i m h => ?_, by decide +kernel, by decide +kernel, by decide +kernel⟩
  by_cases hi : i < 12
  · have hp : (List.range 12).all (fun i => (marked.mapAt i).marks.all (fun m => m.sec == i && m.slot < 192)) = true := by
      decide +kernel
    have hq := List.all_eq_true.mp (List.all_eq_true.mp hp i (List.mem_range.mpr hi)) m h
    simpa [Config.markSlots] using hq
  · have hl : marked.wm.maps.length ≤ i :=
      Nat.le_trans (by decide +kernel : marked.wm.maps.length ≤ 12) (Nat.le_of_not_lt hi)
    rw [State.mapAt, List.getElem?_eq_none hl] at h
    nomatch h

/-- Room in the list with the next tag in use at 65,535; a full list. -/
theorem witness_IssuedTagIsFresh :
    (((State.chan base 2 .knife 7 2 [aCommand 65535 .cutAt]).adjustChannel 2 (fun c =>
      { c with nextTag := 65535, recent := [1] })).channelAt 2).any (fun c => c.nextTag != 0 && c.outstanding.length ≤ 2 &&
        c.recent.length ≤ 4 && c.outstanding.length < c.depth) = true ∧
    (issueCommand 2 .cutAt [5] none ((State.chan base 2 .knife 7 2 [aCommand 65535 .cutAt]).adjustChannel 2 (fun c =>
      { c with nextTag := 65535, recent := [1] }))).2 = some ⟨2, none⟩ ∧
    (issueCommand 2 .cutAt [5] none (State.chan base 2 .knife 7 1 [aCommand 1 .cutAt])).2 = some ⟨2, none⟩ ∧
    ((issueCommand 2 .cutAt [5] none (State.chan base 2 .knife 7 1 [aCommand 1 .cutAt])).1.channelAt 2).map (fun c =>
      (c.outstanding.length, c.pend.map (·.tag))) = some (1, some 2) := by
  refine ⟨?_, ?_, ?_, ?_⟩ <;> decide +kernel

theorem witness_NextCutWithinLimits :
    oneOpen.cp.minPiece ≤ oneOpen.cp.swapGap ∧ 1 ≤ oneOpen.cp.minPiece ∧ oneOpen.cp.minPiece ≤ 80000 ∧
    oneOpen.cp.scrapLen ≤ 80000 ∧ (∀ o ∈ oneOpen.op.queue, o.length ≤ 80000) ∧
    (nextCut oneOpen [] 800).entry = { target := 5800, good := true, cause := none, order := some ⟨5, 0⟩, sent := none } ∧
    (nextCut oneOpen [] 600).entry.good = false := by
  refine ⟨?_, ?_, ?_, ?_, ?_, ?_, ?_⟩ <;> decide +kernel

def aPiece (good : Bool) : Piece :=
  { lead := 100, trail := 5100, good := good, cause := if good then none else some .gap, order := some ⟨5, 0⟩
    cutFault := false, route := none, tallied := false }

theorem witness_GateDecisionPublished :
    routeOf oneOpen (aPiece true) = .pass ∧ routeOf oneOpen (aPiece false) = .divert .scrap ∧
    routeOf oneOpen { aPiece true with cutFault := true } = .divert .cutFault ∧
    oneOpen.sg.published ≠ some .pass ∧ (decidePiece (aPiece true) oneOpen).1.ccu.gate = some .pass ∧
    (decidePiece (aPiece true) (decidePiece (aPiece true) oneOpen).1).1 = (decidePiece (aPiece true) oneOpen).1 := by
  refine ⟨?_, ?_, ?_, ?_, ?_, ?_⟩ <;> decide +kernel

/-- An item with words, and one of unknown kind. -/
theorem witness_FrameReadsBack :
    let f := outFrame 7 [{ anItem 5 1 1 9 4294967295 with words := [3, 4294967295] }, anItem 1 2 200 0 0];
    f.items.length ≤ 255 ∧ (∀ i ∈ f.items, i.words.length ≤ 24) ∧ (itemArea f.items).length ≤ 65535 ∧
    readFrame f.compose = some f := by decide +kernel

/-- Full queues: the event is dropped, the reply lost. -/
def fullQueues : State := base.withMu { base.mu with
  events := List.replicate 32 ⟨.cellLost, 0, 0, 0, 0⟩, replies := List.replicate 64 ⟨1, 0, 0, []⟩ }

theorem witness_QueuesHeldKept :
    fullQueues.queuesHeld ∧ openAndNext.ordersHeld ∧
    (match step (fullQueues.withPending [.clear 1 1 []]) with
      | .next t => t == loseReply fullQueues
      | _ => false) = true ∧
    (after (.cellLost 3000) (State.inRun fullQueues)).map (fun t => (t.mu.events.length, t.mu.eventsDropped))
      = some (32, true) ∧
    (match step (openAndNext.withPending [.orderAdd 1 1 [6, 3, 0, 0, 3000, 1, 1, 4, 0]]) with
      | .next t => t.op.queue.length
      | _ => 0) = 3 := by
  refine ⟨?_, ⟨?_, ?_, ?_⟩, ?_, ?_, ?_⟩ <;> decide +kernel

/-- A test on the lists of the 12 sections. -/
theorem maps_all {s : State} {p : Nat → Mark → Bool} (hl : s.wm.maps.length ≤ 12)
    (h : (List.range 12).all (fun i => (s.mapAt i).marks.all (p i)) = true) (i : Nat) (m : Mark)
    (hm : m ∈ (s.mapAt i).marks) : p i m = true := by
  by_cases hi : i < 12
  · exact List.all_eq_true.mp (List.all_eq_true.mp h i (List.mem_range.mpr hi)) m hm
  · rw [State.mapAt, List.getElem?_eq_none (Nat.le_trans hl (Nat.le_of_not_lt hi))] at hm
    nomatch hm

/-- One mark in section 4, beside which a zone is entered. -/
theorem witness_MapsSoundKept :
    (State.inRun (State.sec marked 4 .web .primary 50000 [])).mapsSound ∧
    (match step ((State.inRun (State.sec marked 4 .web .primary 50000 [])).withPending [.zoneAdd 1 1 [4, 1, 0, 5, 5]]) with
      | .next t => t.markCount
      | _ => 0) = 2 := by
  refine ⟨⟨⟨fun i m h => ?_, by decide +kernel⟩, by decide +kernel, by decide +kernel⟩, by decide +kernel⟩
  simpa [Config.markSlots] using maps_all (s := State.inRun (State.sec marked 4 .web .primary 50000 []))
    (p := fun i m => m.sec == i && m.slot < 192) (by decide +kernel) (by decide +kernel) i m h

/-- `Channel.sound` as a test. -/
def soundTest (c : Channel) : Bool :=
  decide (1 ≤ c.depth ∧ c.depth ≤ 2 ∧ (c.depth = 2 → c.cls = some .knife) ∧ c.outstanding.length ≤ c.depth ∧
    (c.outstanding.map (·.tag) ++ (c.pend.map (·.tag)).toList).Nodup ∧ (∀ x ∈ c.outstanding, x.tag ≠ 0) ∧
    c.nextTag ≠ 0 ∧ c.recent.length ≤ 4) && c.pend.all (fun x => x.tag != 0 && c.outstanding.length == c.depth)

theorem sound_of_test {c : Channel} (h : soundTest c = true) : c.sound := by
  rw [soundTest, Bool.and_eq_true] at h
  obtain ⟨h1, h2, h3, h4, h5, h6, h7, h8⟩ := of_decide_eq_true h.1
  refine ⟨h1, h2, h3, h4, h5, h6, fun x hx => ?_, h7, h8⟩
  have hp := h.2
  rw [hx] at hp
  simpa using hp

/-- A full list with a command pending behind it; the first one times out. -/
theorem witness_ChannelsSoundKept :
    pendingBehind.channelsSound ∧ (pendingBehind.channelAt 5).any (fun c => c.pend.isSome) = true ∧
    (match step (pendingBehind.withPending [.cmdTimeout 5 7]) with
      | .next t => (t.channelAt 5).map (fun c => c.outstanding.map (·.tag))
      | _ => none) = some [8] := by
  refine ⟨fun i c h => ?_, by decide +kernel, by decide +kernel⟩
  have hs : pendingBehind.ccu.records.all soundTest = true := by decide +kernel
  exact sound_of_test (List.all_eq_true.mp hs c (List.mem_of_getElem? h))

/-- Two entries, the first SENT, and two pieces up to the last cut; the SENT cut is missed. -/
def cutting : State := lateCut.withCp { lateCut.cp with
  lastCut := some 4600
  plan := [{ target := 7600, good := true, cause := none, order := none, sent := some 7 }
    , { target := 10600, good := true, cause := none, order := none, sent := none }]
  pieces := [{ aPiece true with lead := 100, trail := 2100 }, { aPiece true with lead := 2100, trail := 4600 }] }

theorem witness_CutsSoundKept :
    cutting.cutsSound ∧
    (match step (cutting.withPending [.cmdTimeout 2 7]) with
      | .next t => t.cp.frontFault
      | _ => false) = true := by
  refine ⟨⟨by decide +kernel, by decide +kernel, fun i p q hp hq => ?_, fun p h => ?_, by decide +kernel, by decide +kernel⟩
    , by decide +kernel⟩
  · match i, hp, hq with
    | 0, hp, hq => cases hp; cases hq; rfl
    | 1, _, hq => nomatch hq
    | i + 2, hp, _ => nomatch hp
  · cases h; rfl

theorem witness_TablesChangeOnlyByWrites :
    (after (.clear 1 1 []) (State.inRun base)).isSome = true ∧ (State.inRun base).mu.mode = .run ∧
    (∀ pins, Instr.clear 1 1 [] ≠ .powerOnReset pins) ∧ (∀ bytes now, Instr.clear 1 1 [] ≠ .outboundFrame bytes now) ∧
    storesTables (.clear 1 1 []) = false :=
  ⟨by decide +kernel, by decide +kernel, nofun, nofun, rfl⟩

theorem witness_ModeChangesOnlyByMode :
    (after (.resetTracking 1 2 []) base).isSome = true ∧ setsMode (.resetTracking 1 2 []) = false ∧
    (lostCell.fr.state = .lostCell ∧ lostCell.mu.mode = .run ∧
      (after (.originateFrame 1500) lostCell).map (fun t => (t.fr.state, t.mu.mode)) = some (.lostCell, .run)) := by
  refine ⟨?_, ?_, ?_, ?_, ?_⟩ <;> decide +kernel

/-! ### Worked examples of the spec -/

def link2 : Link := { aLink with ratio := 6062, aUp := 1000000, aDown := 500000, anchored := true }

/-- 01, Table 1-8 and the inverse carry after it. -/
theorem test_carry_example : carryPos link2 1123456 = (583417, false) ∧ inversePos link2 583417 = (1123456, false) ∧
    carryLength link2 500 = 338 ∧ carryLength link2 800 = 541 := by decide +kernel

/-- 01, Table 1-9. -/
theorem test_rebase_example : Link.rebase 50659904 link2 = { link2 with aUp := 25829952, aDown := 17277216 } ∧
    Link.rebase 50659903 link2 = link2 ∧
    carryPos link2 30000000 = (20094853, false) ∧
    carryPos (Link.rebase 50659904 link2) 30000000 = (20094853, false) := by decide +kernel

/-- 01, the speed estimate after Table 1-7. -/
theorem test_speed_example : speedFrom (2000000, 50000000) 2000534 50008016 0 = 3997 := by decide +kernel

def defect57 : Mark :=
  { slot := 57, serial := 1, kind := .zone, cause := some .defect, sec := 7, pos := 800000, lead := 1000, trail := 1000
    widening := 500, conf := .confirmed, reckoned := false, via := none, verifiedAt := none, origin := none
    order := none, patternChange := false }

/-- 02, Table 2-3. -/
theorem test_merge_example :
    mergedMark defect57 { defect57 with slot := 0, cause := some .slitterFault, pos := 804000, lead := 2000, trail := 2000
                                        widening := 0 } =
      { defect57 with lead := 1500, trail := 6000, widening := 0 } := by decide +kernel

/-- 06, Table 6-3: the five arrivals, and the remaining length at the fifth. -/
theorem test_estimator_example :
    let at5 := [((10000000 : Word), 12000), (11000000, 11890), (11888430, 11800), (13745100, 11600), (15570080, 11400)]
      |>.foldl (fun x p => WebState.takeDiameter webCfg false 1 p.1 p.2 x) (WebState.initial 22000)
    (at5.k, at5.confidence, at5.samples.length) = (26000, 2, 4) ∧ reserveOf webCfg at5 = 400000 ∧
    remainingLength webCfg at5 15570080 = 50987548 := by decide +kernel

/-- 10, Table 10-5: base and trim of frames 1 and 3, and the outputs of frames 1, 3, 4 and 6. -/
theorem test_generator_example :
    let curve : List Breakpoint := [⟨1000, 900⟩, ⟨2500, 1500⟩, ⟨4000, 2100⟩];
    let held (y : Nat) (lift : Bool) : Generator := ⟨genCfg, { GenState.initial with lastOutput := some y, inLift := lift }⟩
    (curveValue curve 3100, curveValue curve 3160) = (1740, 1764) ∧
    (roundDiv (384 * 50) 256, roundDiv (384 * 10) 256) = (75, 15) ∧
    outputOf (held 1790 false) 1815 false = (1810, false) ∧ outputOf (held 1815 false) 1779 false = (1795, false) ∧
    outputOf (held 1795 false) 1779 true = (600, true) ∧ outputOf (held 600 true) 1779 false = (1779, false) := by
  decide +kernel

/-- 08, Table 8-5: the boundary at 560,000 changes the pattern, and a splice zone spans 519,000 to 523,000. -/
def replanning : State :=
  let zone : Mark := { defect57 with kind := .splice, cause := none, pos := 521000, lead := 2000, trail := 2000, widening := 0 }
  let bound : Mark := { defect57 with slot := 1, serial := 2, kind := .boundary, cause := none, pos := 560000, lead := 0
                                      trail := 0, widening := 0, patternChange := true }
  let s := State.sec base 7 .board .primary 400000 []
  let s := s.adjustMap 7 (fun m => { m with marks := [zone, bound] })
  State.orders s [{ anOrder 1 0 .cutting (some ⟨9, 9, 100000⟩) with length := 12000, fin := some ⟨1, 2, 560000⟩ }
    , { anOrder 2 0 .committed (some ⟨1, 2, 560000⟩) with length := 9000 }]

theorem test_replan_example :
    ([500000, 512000, 523000, 535000, 547000, 559000, 563000] : List Word).map (fun c =>
      ((nextCut replanning [] c).entry.target, (nextCut replanning [] c).entry.cause)) =
    [(512000, none), (523000, some .zone), (535000, none), (547000, none), (559000, none), (563000, some .gap)
     , (572000, none)] := by decide +kernel

/-- 10, R156: a due head is taken, but not while its section is HELD. -/
theorem test_held_takes_no_switch :
    [SourceState.primary, .held].map (fun src =>
      let s := State.gen (State.sec base 4 .web src 90000 [⟨.preheat 3, 60000⟩]) 3 { GenState.initial with
        pending := [⟨30500, 1⟩] }
      ((switchCheck 3 s).generatorAt 3).map (fun g => (g.st.inForce, g.st.pending.length))) =
      [some (some 1, 0), some (none, 1)] := by decide +kernel

/-- 02, R26, R27, R30: a splice confirmed upstream of the bridge is CARRIED and has no widening. -/
theorem test_move_over_the_bridge :
    let s := State.sec (State.sec base 4 .web .primary 0 []) 6 .web .primary 0 []
    let s := s.setSection 4 ((s.sectionAt 4).map (fun c => { c with cfg := { c.cfg with down := some 2 } }))
    let s := s.setLink 2 (some { aLink with store := true, storeWiden := 500, anchored := true })
    let s := enterMark { aMark with sec := 6, widening := 2500, conf := .provisional } s
    ((moveMark 0 1 4 90 .confirmed s).1.mapAt 6).marks.map (fun m => (m.pos, m.widening, m.conf)) =
      [(90, 0, .carried)] := by decide +kernel

/-- 09, R150 step 2: at a close, a run above 0 is issued, and with a run of count 0 nothing is issued for a drop owed. -/
theorem test_close_issues_its_run :
    [3, 0].map (fun n =>
      let s := State.inRun (State.chan (State.orders base [anOrder 1 0 .done none]) 4 .stacker 6 1 [])
      let t := closeRun ⟨1, 0⟩ (s.withSg { s.sg with
        channel := some 4, run := ⟨some ⟨1, 0⟩, n⟩, owed := some ⟨⟨1, 0⟩, 5⟩ })
      (t.sg.run.order, t.sg.run.count, t.sg.owed.isSome, t.sg.cmds.map (·.arg))) =
      [(none, 0, false, [8]), (none, 0, true, [])] := by decide +kernel

/-- 00, Conventions; 03, R44: the check of the nine digits, the usual test vector of this CRC. -/
theorem test_frame_check : frameCheck [0x31, 0x32, 0x33, 0x34, 0x35, 0x36, 0x37, 0x38, 0x39] = 0xFC891918#32 := by
  decide +kernel

end Sys2Proof.Tests
end

/-! The Field Relay's bad and late frames (03, R46 and R52): the relay's outcome for such a frame, once each. -/
namespace Sys2Proof.Machine

/-! ### The operations the relay counts and asks with -/

theorem bump_eq_min (limit n : Nat) : bump limit n = min limit (n + 1) := by
  unfold bump
  split <;> omega

theorem countedSource_iff (b : Byte) (s : State) :
    countedSource b s = true ↔ (1 ≤ b.toNat ∧ b.toNat ≤ 62) ∧ ¬(s.workingAddress = true ∧ b = s.ownByte) := by
  simp only [countedSource, Bool.and_eq_true, decide_eq_true_eq, Bool.not_eq_true', ← Bool.not_eq_true, beq_iff_eq]

theorem inTime_iff (f : Frame) (s : State) :
    inTime f s = true ↔ s.fr.windowOpen = true ∧ f.cycle = s.fr.cycle := by
  simp [inTime]

/-- Handing a frame to the cell port does not touch the own address. -/
@[simp] theorem countedSource_sendCell (b : Byte) (bytes : List Byte) (s : State) :
    countedSource b (sendCell bytes s) = countedSource b s := rfl

/-- Handing a frame to the cell port does not touch the cycle or its window. -/
@[simp] theorem inTime_sendCell (f : Frame) (bytes : List Byte) (s : State) :
    inTime f (sendCell bytes s) = inTime f s := rfl

@[simp] theorem takeItems_nil (s : State) : takeItems [] s = s := rfl

/-- R44: a RETURN frame is good only from a station. -/
theorem goodReturn_source {bytes : List Byte} {f : Frame} (h : goodReturn bytes = some f) :
    1 ≤ f.source.toNat ∧ f.source.toNat ≤ 62 := by
  unfold goodReturn at h
  split at h
  · split at h
    case isTrue hgood =>
      obtain ⟨-, -, hlow, hhigh⟩ := hgood
      obtain rfl := Option.some.inj h
      exact ⟨hlow, hhigh⟩
    case isFalse => contradiction
  · contradiction

/-! ### Frames arriving on the cell port -/

theorem exec_outboundFrame (bytes : List Byte) (now : Word) (s : State) :
    exec (.outboundFrame bytes now) s =
      .next (takeItems (relayOutbound bytes now s).2 (relayOutbound bytes now s).1) := rfl

/-- R46: a bad frame is counted and sent on as it came, and hands no request on. -/
theorem relayOutbound_of_bad {bytes : List Byte} (now : Word) (s : State) (h : goodOutbound bytes = none) :
    relayOutbound bytes now s = (s.withFr { s.fr with
      clock := now, badOutbound := min 65535 (s.fr.badOutbound + 1), fieldPort := s.fr.fieldPort ++ [bytes] }, []) := by
  simp only [relayOutbound, h, bump_eq_min]
  rfl

/-- Settles O4: the clock's reading is the frame's operand. -/
theorem badOutboundForwarded : Obligations.BadOutboundForwarded := by
  intro bytes now s hbad
  refine ⟨now, ?_⟩
  rw [exec_outboundFrame, relayOutbound_of_bad now s hbad, takeItems_nil]

/-! ### Frames arriving on the field port -/

theorem exec_returnFrame (bytes : List Byte) (s : State) :
    exec (.returnFrame bytes) s = .next (relayReturn bytes s) := rfl

theorem goodReturnStep_of_late {f : Frame} {s : State} (h : inTime f s = false) :
    goodReturnStep f s = s.adjustHealth f.source.toNat (fun h => { h with late := min 65535 (h.late + 1) }) := by
  simp only [goodReturnStep, h, bump_eq_min, Bool.false_eq_true, if_false]

theorem relayReturn_of_good {bytes : List Byte} {f : Frame} {s : State} (hgood : goodReturn bytes = some f)
    (hcounted : countedSource f.source s = true) :
    relayReturn bytes s = goodReturnStep f (sendCell bytes s) := by
  simp only [relayReturn, hgood, countedSource_sendCell, hcounted, if_true]

theorem relayReturn_of_bad_counted {bytes : List Byte} {b : Byte} {s : State} (hbad : goodReturn bytes = none)
    (hsource : bytes[2]? = some b) (hcounted : countedSource b s = true) :
    relayReturn bytes s =
      (sendCell bytes s).adjustHealth b.toNat (fun h => { h with bad := min 65535 (h.bad + 1) }) := by
  simp only [relayReturn, hbad, hsource, countedSource_sendCell, hcounted, bump_eq_min, if_true]

/-- A bad frame too short for a source byte, or whose byte counts for no station, is sent on and nothing else. -/
theorem relayReturn_of_bad_uncounted {bytes : List Byte} {s : State} (hbad : goodReturn bytes = none)
    (huncounted : ∀ b, bytes[2]? = some b → countedSource b s = false) :
    relayReturn bytes s = sendCell bytes s := by
  cases hsource : bytes[2]? with
  | none => simp only [relayReturn, hbad, hsource]
  | some b =>
    have hb := huncounted b hsource
    simp only [relayReturn, hbad, hsource, countedSource_sendCell, hb, Bool.false_eq_true, if_false]

/-- Settles O8, clause by clause: a late good frame, a bad frame with a station's byte, a bad frame without one. -/
theorem lateOrBadReturnCounted : Obligations.LateOrBadReturnCounted := by
  intro bytes s
  refine ⟨fun f hgood hlate hother => ?_, fun b hbad hsource hlow hhigh hother => ?_, fun hbad hnone => ?_⟩
  · have hcounted := (countedSource_iff f.source s).mpr ⟨goodReturn_source hgood, hother⟩
    have hnotIn : inTime f (sendCell bytes s) = false := by
      rwa [inTime_sendCell, ← Bool.not_eq_true, inTime_iff]
    rw [exec_returnFrame, relayReturn_of_good hgood hcounted, goodReturnStep_of_late hnotIn]
    rfl
  · have hcounted := (countedSource_iff b s).mpr ⟨⟨hlow, hhigh⟩, hother⟩
    rw [exec_returnFrame, relayReturn_of_bad_counted hbad hsource hcounted]
    rfl
  · have huncounted : ∀ b, bytes[2]? = some b → countedSource b s = false := by
      intro b hsource
      rw [← Bool.not_eq_true, countedSource_iff]
      rintro ⟨⟨hlow, hhigh⟩, -⟩
      have := hnone b hsource
      omega
    rw [exec_returnFrame, relayReturn_of_bad_uncounted hbad huncounted]
    rfl

end Sys2Proof.Machine

/-! The base value of a curve (10, R153): the rounded division, the branches of `curveValue`, and the segment around a
speed. -/
namespace Sys2Proof.Machine

/-! ### The rounded division (00, Conventions) -/

theorem roundDiv_natCast (m d : Nat) : roundDiv m d = ((2 * m + d) / (2 * d) : Nat) := by
  unfold roundDiv
  rw [if_neg (by omega), Int.natAbs_natCast]

@[simp] theorem roundDiv_zero (d : Nat) : roundDiv 0 d = 0 := by
  have hquotient : (2 * 0 + d) / (2 * d) = 0 := Nat.div_eq_zero_iff.mpr (by omega)
  rw [← Int.natCast_zero, roundDiv_natCast, hquotient]

/-- Ties go away from zero on both sides of it, so the rounding is odd. -/
theorem roundDiv_neg (n : Int) (d : Nat) : roundDiv (-n) d = -roundDiv n d := by
  rcases lt_trichotomy n 0 with hneg | rfl | hpos
  · rw [roundDiv, roundDiv, if_neg (by omega), if_pos hneg, Int.natAbs_neg, Int.neg_neg]
  · simp
  · rw [roundDiv, roundDiv, if_pos (by omega), if_neg (by omega), Int.natAbs_neg]

/-- The rounded quotient of naturals times its divisor: a tie is reached from below only, which is rounding up. -/
theorem roundedQuotient_bounds (m : Nat) {d : Nat} (hd : 0 < d) :
    2 * ((2 * m + d) / (2 * d) * d) ≤ 2 * m + d ∧ 2 * m < 2 * ((2 * m + d) / (2 * d) * d) + d := by
  have hlow := Nat.div_mul_le_self (2 * m + d) (2 * d)
  have hhigh := Nat.lt_div_mul_add (a := 2 * m + d) (b := 2 * d) (by omega)
  rw [Nat.mul_left_comm] at hlow hhigh
  omega

/-- Rounding to nearest, ties away from zero: the multiple `r * d` is at most half of `d` from `n`, and when it is
exactly half of `d` away it is the one farther from zero. -/
def RoundsTo (n : Int) (d : Nat) (r : Int) : Prop :=
  (2 * (r * d - n)).natAbs ≤ d ∧ ((2 * (r * d - n)).natAbs = d → n.natAbs < (r * d).natAbs)

theorem RoundsTo.neg {n r : Int} {d : Nat} (h : RoundsTo n d r) : RoundsTo (-n) d (-r) := by
  unfold RoundsTo at *
  rw [Int.neg_mul]
  omega

theorem roundsTo_roundDiv (n : Int) {d : Nat} (hd : 0 < d) : RoundsTo n d (roundDiv n d) := by
  have hnat (m : Nat) : RoundsTo m d (roundDiv m d) := by
    have hbounds := roundedQuotient_bounds m hd
    rw [roundDiv_natCast, RoundsTo, ← Int.natCast_mul]
    omega
  obtain ⟨m, rfl | rfl⟩ := n.eq_nat_or_neg
  · exact hnat m
  · rw [roundDiv_neg]
    exact (hnat m).neg

/-- A rise taken in proportion `t / d`, at most 1, rounds to no more than the rise and keeps its sign. -/
theorem roundDiv_mul_mem_range (e : Int) {t d : Nat} (hd : 0 < d) (ht : t ≤ d) :
    min 0 e ≤ roundDiv (e * t) d ∧ roundDiv (e * t) d ≤ max 0 e := by
  have hnat (m : Nat) : 0 ≤ roundDiv (m * t : Nat) d ∧ roundDiv (m * t : Nat) d ≤ m := by
    have hquotient : (2 * (m * t) + d) / (2 * d) < m + 1 := by
      rw [Nat.div_lt_iff_lt_mul (by omega)]
      linarith [Nat.mul_le_mul_left m ht]
    rw [roundDiv_natCast]
    exact ⟨Int.natCast_nonneg _, Int.ofNat_le.mpr (Nat.le_of_lt_succ hquotient)⟩
  obtain ⟨m, rfl | rfl⟩ := e.eq_nat_or_neg
  · have hrise := hnat m
    rw [← Int.natCast_mul]
    omega
  · have hfall := hnat m
    rw [Int.neg_mul, ← Int.natCast_mul, roundDiv_neg]
    omega

/-! ### The branches of the curve's value -/

theorem curveValue_of_le_head {a : Breakpoint} {v : Nat} (bs : List Breakpoint) (h : v ≤ a.v) :
    curveValue (a :: bs) v = a.y := by
  cases bs with
  | nil => rfl
  | cons b rest => rw [curveValue, if_pos h]

theorem curveValue_of_le_first {bs : List Breakpoint} {a : Breakpoint} {v : Nat} (ha : bs.head? = some a)
    (hv : v ≤ a.v) : curveValue bs v = a.y := by
  obtain ⟨rest, rfl⟩ := List.head?_eq_some_iff.mp ha
  exact curveValue_of_le_head rest hv

/-- At the first breakpoint's own speed the line and the first value agree. -/
theorem curveValue_of_first_segment {a b : Breakpoint} {v : Nat} (rest : List Breakpoint) (ha : a.v ≤ v)
    (hb : v < b.v) :
    curveValue (a :: b :: rest) v = a.y + roundDiv (((b.y : Int) - a.y) * ((v : Int) - a.v)) (b.v - a.v) := by
  rcases ha.eq_or_lt with rfl | hlt
  · simp [curveValue_of_le_head]
  · rw [curveValue, if_neg (by omega), if_pos hb]

theorem curveValue_of_second_le {a b : Breakpoint} {v : Nat} (rest : List Breakpoint) (hab : a.v < b.v)
    (hb : b.v ≤ v) : curveValue (a :: b :: rest) v = curveValue (b :: rest) v := by
  rw [curveValue, if_neg (by omega), if_neg (by omega)]

/-! ### The curve by its breakpoints -/

/-- Two neighbours of the list enclose the speed, the left one included. -/
def SegmentAt (bs : List Breakpoint) (v k : Nat) (x y : Breakpoint) : Prop :=
  bs[k]? = some x ∧ bs[k + 1]? = some y ∧ x.v ≤ v ∧ v < y.v

/-- The segment is where the speeds first pass `v`; their order is needed only for there to be no other. -/
theorem exists_segmentAt {bs : List Breakpoint} {a z : Breakpoint} {v : Nat} (ha : bs.head? = some a)
    (hz : bs.getLast? = some z) (hav : a.v ≤ v) (hvz : v < z.v) : ∃ k x y, SegmentAt bs v k x y := by
  induction bs generalizing a with
  | nil => simp at ha
  | cons c rest ih =>
    obtain rfl : c = a := by simpa using ha
    cases rest with
    | nil =>
      obtain rfl : c = z := by simpa using hz
      omega
    | cons b rest =>
      rcases Nat.lt_or_ge v b.v with hvb | hbv
      · exact ⟨0, c, b, rfl, rfl, hav, hvb⟩
      · rw [List.getLast?_cons_cons] at hz
        obtain ⟨k, x, y, hsegment⟩ := ih rfl hz hbv
        exact ⟨k + 1, x, y, hsegment⟩

section

variable {bs : List Breakpoint} {v : Nat} (hbs : bs.Pairwise (fun a b => a.v < b.v))
include hbs

theorem speed_le_of_index_le {i j : Nat} {a b : Breakpoint} (ha : bs[i]? = some a) (hb : bs[j]? = some b)
    (hij : i ≤ j) : a.v ≤ b.v := by
  obtain ⟨hi, rfl⟩ := List.getElem?_eq_some_iff.mp ha
  obtain ⟨hj, rfl⟩ := List.getElem?_eq_some_iff.mp hb
  rcases hij.eq_or_lt with rfl | hlt
  · exact le_rfl
  · exact (List.pairwise_iff_getElem.mp hbs i j hi hj hlt).le

theorem curveValue_of_last_le {z : Breakpoint} (hz : bs.getLast? = some z) (hv : z.v ≤ v) : curveValue bs v = z.y := by
  induction bs with
  | nil => simp at hz
  | cons a rest ih =>
    cases rest with
    | nil =>
      obtain rfl : a = z := by simpa using hz
      rfl
    | cons b rest =>
      rw [List.getLast?_cons_cons] at hz
      obtain ⟨hfirst, htail⟩ := List.pairwise_cons.mp hbs
      have hb : b.v ≤ z.v := by
        rw [List.getLast?_eq_getElem?] at hz
        exact speed_le_of_index_le htail rfl hz (Nat.zero_le _)
      rw [curveValue_of_second_le rest (hfirst b List.mem_cons_self) (hb.trans hv)]
      exact ih htail hz

theorem curveValue_of_segmentAt {k : Nat} {x y : Breakpoint} (h : SegmentAt bs v k x y) :
    curveValue bs v = x.y + roundDiv (((y.y : Int) - x.y) * ((v : Int) - x.v)) (y.v - x.v) := by
  induction k generalizing bs with
  | zero =>
    obtain ⟨hx, hy, hxv, hvy⟩ := h
    match bs, hx, hy with
    | _ :: _ :: rest, rfl, rfl => exact curveValue_of_first_segment rest hxv hvy
  | succ k ih =>
    obtain ⟨hx, hy, hxv, hvy⟩ := h
    match bs, hx with
    | a :: b :: rest, hx =>
      obtain ⟨hfirst, htail⟩ := List.pairwise_cons.mp hbs
      have hb : b.v ≤ x.v := speed_le_of_index_le htail rfl hx (Nat.zero_le k)
      rw [curveValue_of_second_le rest (hfirst b List.mem_cons_self) (hb.trans hxv)]
      exact ih htail ⟨hx, hy, hxv, hvy⟩

theorem SegmentAt.index_le {i j : Nat} {x y x' y' : Breakpoint} (hi : SegmentAt bs v i x y)
    (hj : SegmentAt bs v j x' y') : i ≤ j := by
  obtain ⟨hx, -, hxv, -⟩ := hi
  obtain ⟨-, hy', -, hvy'⟩ := hj
  by_contra hlt
  have := speed_le_of_index_le hbs hy' hx (by omega)
  omega

theorem SegmentAt.index_unique {i j : Nat} {x y x' y' : Breakpoint} (hi : SegmentAt bs v i x y)
    (hj : SegmentAt bs v j x' y') : i = j :=
  Nat.le_antisymm (SegmentAt.index_le hbs hi hj) (SegmentAt.index_le hbs hj hi)

theorem curveValue_between_ends {k : Nat} {x y : Breakpoint} (h : SegmentAt bs v k x y) :
    ((min x.y y.y : Nat) : Int) ≤ curveValue bs v ∧ curveValue bs v ≤ ((max x.y y.y : Nat) : Int) := by
  rw [curveValue_of_segmentAt hbs h]
  obtain ⟨-, -, hxv, hvy⟩ := h
  have hrange := roundDiv_mul_mem_range ((y.y : Int) - x.y) (t := v - x.v) (d := y.v - x.v) (by omega) (by omega)
  rw [Int.natCast_sub hxv] at hrange
  omega

theorem curveValue_mem_range {top : Nat} (hy : ∀ b ∈ bs, b.y ≤ top) (hne : bs ≠ []) :
    0 ≤ curveValue bs v ∧ curveValue bs v ≤ top := by
  have ha := List.head?_eq_some_head hne
  have hz := List.getLast?_eq_some_getLast hne
  rcases Nat.le_total v (bs.head hne).v with hva | hav
  · have hay := hy _ (List.mem_of_head? ha)
    rw [curveValue_of_le_first ha hva]
    omega
  rcases Nat.lt_or_ge v (bs.getLast hne).v with hvz | hzv
  · obtain ⟨k, x, y, hsegment⟩ := exists_segmentAt ha hz hav hvz
    have hrange := curveValue_between_ends hbs hsegment
    obtain ⟨hx, hy', -, -⟩ := hsegment
    have hxy := hy x (List.mem_of_getElem? hx)
    have hyy := hy y (List.mem_of_getElem? hy')
    omega
  · have hzy := hy _ (List.mem_of_getLast? hz)
    rw [curveValue_of_last_le hbs hz hzv]
    omega

/-- R153: the value's difference from the segment's first value is the exact line's, rounded. -/
theorem exists_roundsTo_of_segmentAt {k : Nat} {x y : Breakpoint} (h : SegmentAt bs v k x y) :
    ∃ D : Int, curveValue bs v = x.y + D ∧ RoundsTo (((y.y : Int) - x.y) * (v - x.v)) (y.v - x.v) D := by
  refine ⟨_, curveValue_of_segmentAt hbs h, roundsTo_roundDiv _ ?_⟩
  obtain ⟨-, -, hxv, hvy⟩ := h
  omega

end

/-- Settles O46, clause by clause; the natural span that `curveValue` divides by is the signed one of the statement. -/
theorem curveValueIsInterpolated : Obligations.CurveValueIsInterpolated := by
  intro bs v hbs hy
  refine ⟨fun _ => curveValue_of_le_first, fun _ => curveValue_of_last_le hbs, fun k a b ha hb hav hvb => ?_,
    fun a z ha hz hav hvz => ?_, curveValue_mem_range hbs hy⟩
  · have hsegment : SegmentAt bs v k a b := ⟨ha, hb, hav, hvb⟩
    have hspan : ((b.v - a.v : Nat) : Int) = b.v - a.v := Int.natCast_sub (hav.trans hvb.le)
    obtain ⟨hmin, hmax⟩ := curveValue_between_ends hbs hsegment
    obtain ⟨D, hvalue, hrounds⟩ := exists_roundsTo_of_segmentAt hbs hsegment
    refine ⟨hmin, hmax, D, hvalue, ?_⟩
    dsimp only
    rwa [← hspan, Int.natAbs_natCast]
  · obtain ⟨k, x, y, hsegment⟩ := exists_segmentAt ha hz hav.le hvz
    exact ⟨k, ⟨x, y, hsegment⟩, fun j ⟨_, _, hj⟩ => SegmentAt.index_unique hbs hj hsegment⟩

end Sys2Proof.Machine

/-! What a reaction of the blocks keeps, once for every property: the leaf changes a reaction makes of the state, and
that a property closed under them is kept by every operation built from them. -/
namespace Sys2Proof.Machine

/-! ### Leaf changes -/

/-- The record part of `State.cutsSound` (R129, R137, R138, R140). -/
def CutPlanner.sound (p : CutPlanner) : Prop :=
  p.plan.length ≤ Config.planCapacity ∧
  p.plan.Pairwise (fun a b => b.sent.isSome = true → a.sent.isSome = true) ∧
  (∀ (i : Nat) (x y : Piece), p.pieces[i]? = some x → p.pieces[i + 1]? = some y → y.lead = x.trail) ∧
  (∀ x, p.pieces.getLast? = some x → p.lastCut = some x.trail) ∧
  2000 ≤ p.minPiece ∧ ∀ x ∈ p.pieces, 2000 ≤ sdist x.lead x.trail

theorem State.cutsSound_iff (s : State) : s.cutsSound ↔ s.cp.sound := Iff.rfl

/-- The record part of `State.ordersHeld` (R78, R79, R94). -/
def Planner.held (p : Planner) : Prop :=
  p.queue.length ≤ Config.queueCapacity ∧ (p.queue.map (·.key)).Nodup ∧ p.history.length ≤ Config.historyCapacity

theorem State.ordersHeld_iff (s : State) : s.ordersHeld ↔ s.op.held := Iff.rfl

/-- Every command channel record is sound. -/
def Channels.sound (x : Channels) : Prop := ∀ c ∈ x.records, c.sound

theorem State.channelsSound_iff (s : State) : s.channelsSound ↔ s.ccu.sound := by
  simp only [State.channelsSound, Channels.sound, State.channelAt, List.mem_iff_getElem?]
  exact ⟨fun h c ⟨i, hi⟩ => h i c hi, fun h i c hi => h c ⟨i, hi⟩⟩

/-- An order without what a designation, a commit and a passage change: its state and its boundaries. -/
def Order.stripped (o : Order) : Order := { o with state := .queued, start := none, fin := none }

/-- What designating, committing and projecting change of the Order Planner: states and boundaries of the orders alone,
and, where the keys are distinct, no start boundary an order has (R78, R81, R86). -/
structure Commits (p x : Planner) : Prop where
  stripped : x.queue.map Order.stripped = p.queue.map Order.stripped
  history : x.history = p.history
  starts : (p.queue.map (·.key)).Nodup → ∀ o ∈ p.queue, ∀ y ∈ x.queue, y.key = o.key → o.start.isSome = true →
    y.start = o.start

theorem map_key_of_map_stripped {l m : List Order} (h : l.map Order.stripped = m.map Order.stripped) :
    l.map (·.key) = m.map (·.key) := by
  have := congrArg (List.map Order.key) h
  simpa [List.map_map, Function.comp_def, Order.stripped] using this

theorem Commits.held {p x : Planner} (h : Commits p x) : p.held → x.held := by
  rintro ⟨hlen, hkeys, hhist⟩
  have hk := map_key_of_map_stripped h.stripped
  refine ⟨?_, hk ▸ hkeys, h.history ▸ hhist⟩
  simpa using (congrArg List.length hk).trans_le (by simpa using hlen)

/-- A change of the command channels that issues or cancels commands alone: it leaves their faults and recent tags. -/
structure CommandChange (u v : Channels) : Prop where
  sound : u.sound → v.sound
  answers : v.records.map (fun c => (c.recent, c.fault)) = u.records.map (fun c => (c.recent, c.fault))

/-- A change of the Cut Planner that plans and feeds alone: it leaves the pieces and the last cut, and behind a SENT head
the base and front fault too. -/
structure PlanChange (p q : CutPlanner) : Prop where
  sound : p.sound → q.sound
  pieces : q.pieces = p.pieces
  lastCut : q.lastCut = p.lastCut
  fault : p.frontFault = true → q.frontFault = true
  head : ∀ e rest, p.plan = e :: rest → e.sent.isSome = true →
    (∃ later, q.plan = e :: later) ∧ q.base = p.base ∧ q.frontFault = p.frontFault

/-- A property of states that planning, commits and the map's operations keep: it survives an event and any change of the
blocks that it does not look into. -/
structure QuietSteps (P : State → Prop) : Prop where
  on_raise : ∀ {s k a b d}, P s → P (raise k a b d s)
  on_wm : ∀ {s x}, P s → P (s.withWm x)
  on_sc : ∀ {s x}, P s → P (s.withSc x)
  on_ss : ∀ {s x}, P s → P (s.withSs x)
  on_commands : ∀ {s x}, CommandChange s.ccu x → P s → P (s.withCcu x)
  on_plan : ∀ {s x}, PlanChange s.cp x → P s → P (s.withCp x)

/-- A property that the Slitter Pair Controller's reactions keep too. -/
structure SwapSteps (P : State → Prop) : Prop extends QuietSteps P where
  on_sp : ∀ {s x}, P s → P (s.withSp x)

/-- A property of states that the operations of the blocks keep: it survives an event, any change of the blocks that it
does not look into, and a change of a block that keeps that block sound. -/
structure Steps (P : State → Prop) : Prop extends SwapSteps P where
  on_sg : ∀ {s x}, P s → P (s.withSg x)
  on_ccu : ∀ {s x}, (s.ccu.sound → x.sound) → P s → P (s.withCcu x)
  on_cp : ∀ {s x}, (s.cp.sound → x.sound) → P s → P (s.withCp x)
  on_commands := fun h => on_ccu h.sound
  on_plan := fun h => on_cp h.sound

/-- A property that the end of an event keeps: it survives commits, and the swap that a commit makes while the pair is
STEADY. -/
structure SettleSteps (P : State → Prop) : Prop extends QuietSteps P where
  on_commits : ∀ {s x}, Commits s.op x → P s → P (s.withOp x)
  on_createSwap : ∀ {s b p}, s.pairState = .steady → P s → P (createSwap b p s)

/-- A property that the Order Planner's own reactions keep too. -/
structure CommitSteps (P : State → Prop) : Prop extends Steps P where
  on_commits : ∀ {s x}, Commits s.op x → P s → P (s.withOp x)

/-- A property that the tallies and closes of the Stack and Gate Unit keep too. -/
structure TallySteps (P : State → Prop) : Prop extends CommitSteps P where
  on_op : ∀ {s x}, (s.op.held → x.held) → P s → P (s.withOp x)

/-- A property that the reactions of the Path Tracker keep too: it survives any change of the path's state. -/
structure TrackSteps (P : State → Prop) : Prop extends TallySteps P where
  on_pt : ∀ {s x}, P s → P (s.withPt x)

/-- Repeating an operation that keeps a property keeps it. -/
theorem foldl_keeps {α : Type} {P : State → Prop} {g : State → α → State} (h : ∀ s a, P s → P (g s a)) (l : List α)
    {s : State} (hs : P s) : P (l.foldl g s) := by
  induction l generalizing s with
  | nil => exact hs
  | cons a l ih => exact ih (h s a hs)

/-- The same for a repetition that carries a result beside the state. -/
theorem foldl_keeps_fst {α β : Type} {P : State → Prop} {g : State × β → α → State × β}
    (h : ∀ p a, P p.1 → P (g p a).1) (l : List α) {p : State × β} (hp : P p.1) : P (l.foldl g p).1 := by
  induction l generalizing p with
  | nil => exact hp
  | cons a l ih => exact ih (h p a hp)

section
variable {P : State → Prop} (c : QuietSteps P) {s : State}
include c

/-! ### One record changed -/

theorem QuietSteps.on_raiseNoValue {k a b} (h : P s) : P (raiseNoValue k a b s) := c.on_raise h
theorem QuietSteps.on_raiseNoPosition {k a b} (h : P s) : P (raiseNoPosition k a b s) := c.on_raise h
theorem QuietSteps.on_raiseSubject {k a} (h : P s) : P (raiseSubject k a s) := c.on_raise h
theorem QuietSteps.on_adjustMap {i f} (h : P s) : P (s.adjustMap i f) := c.on_wm h
theorem QuietSteps.on_adjustWeb {i f} (h : P s) : P (s.adjustWeb i f) := c.on_sc h
omit c in
theorem SwapSteps.on_adjustStation (c : SwapSteps P) {i f} (h : P s) : P (s.adjustStation i f) := c.on_sp h
theorem QuietSteps.on_adjustGen {i f} (h : P s) : P (s.adjustGen i f) := c.on_ss h
omit c in
theorem SwapSteps.on_adjustSwap (c : SwapSteps P) {f} (h : P s) : P (s.adjustSwap f) := c.on_sp h

omit c in
/-- A record changed at its place: by a function that keeps it sound. -/
theorem sound_set {u : Channels} {i : Nat} {x y : Channel} (hx : u.records[i]? = some x) (hy : x.sound → y.sound)
    (h : u.sound) : ({ u with records := u.records.set i y } : Channels).sound := by
  intro z hz
  rcases List.mem_or_eq_of_mem_set hz with hz | rfl
  · exact h z hz
  · exact hy (h x (List.mem_of_getElem? hx))

omit c in
theorem Steps.on_adjustChannel_at (c : Steps P) {i f} (hf : ∀ x, s.channelAt i = some x → x.sound → (f x).sound)
    (h : P s) : P (s.adjustChannel i f) := by
  unfold State.adjustChannel
  split
  · next x hx => exact c.on_ccu (sound_set hx (hf x hx)) h
  · exact h

omit c in
theorem Steps.on_adjustChannel (c : Steps P) {i f} (hf : ∀ x : Channel, x.sound → (f x).sound) (h : P s) :
    P (s.adjustChannel i f) := c.on_adjustChannel_at (fun x _ => hf x) h

/-- The commands of a record changed, its fault and recent tags left. -/
theorem QuietSteps.on_changeCommands_at {i f} (hf : ∀ x, s.channelAt i = some x → x.sound → (f x).sound)
    (ha : ∀ x : Channel, (f x).recent = x.recent ∧ (f x).fault = x.fault) (h : P s) : P (s.adjustChannel i f) := by
  unfold State.adjustChannel
  split
  · next x hx =>
    refine c.on_commands ⟨sound_set hx (hf x hx), ?_⟩ h
    obtain ⟨hi, hxi⟩ := List.getElem?_eq_some_iff.mp hx
    obtain ⟨hr, hfault⟩ := ha x
    have hsame : ((f x).recent, (f x).fault) = (s.ccu.records[i].recent, s.ccu.records[i].fault) := by
      rw [hr, hfault, hxi]
    refine List.ext_getElem? fun j => ?_
    rw [List.map_set, List.getElem?_set]
    split
    · next hj =>
      subst hj
      rw [List.length_map, if_pos hi, hsame, List.getElem?_map, List.getElem?_eq_getElem hi]
      rfl
    · rfl
  · exact h

theorem QuietSteps.on_changeCommands {i f} (hf : ∀ x : Channel, x.sound → (f x).sound)
    (ha : ∀ x : Channel, (f x).recent = x.recent ∧ (f x).fault = x.fault) (h : P s) : P (s.adjustChannel i f) :=
  c.on_changeCommands_at (fun x _ => hf x) ha h

/-! ### Carries (R14, R15) -/

theorem QuietSteps.on_carryOver {l p} (h : P s) : P (carryOver l p s).1 := by
  unfold carryOver
  split
  · exact h
  · dsimp only
    split
    · dsimp only
      split
      · exact c.on_raiseNoValue h
      · exact h
    · exact h

theorem QuietSteps.on_inverseOver {l p} (h : P s) : P (inverseOver l p s).1 := by
  unfold inverseOver
  split
  · exact h
  · dsimp only
    split
    · dsimp only
      split
      · exact c.on_raiseNoValue h
      · exact h
    · exact h

theorem QuietSteps.on_inverseChain {l p} (h : P s) : P (inverseChain l p s).1 := by
  refine foldl_keeps_fst (fun r a hr => ?_) _ h
  split
  · exact hr
  · exact c.on_inverseOver hr

end
end Sys2Proof.Machine

/-! The tags and lists of a command channel (04, R62, R63, R66). -/
namespace Sys2Proof.Machine

/-! ### The next free tag (R62) -/

/-- The tags R62 calls in use. -/
def Channel.tags (c : Channel) : List Half :=
  c.outstanding.map (·.tag) ++ (c.pend.map (·.tag)).toList ++ c.recent

theorem Channel.tagInUse_iff (c : Channel) (t : Half) : c.tagInUse t = true ↔ t ∈ c.tags := by
  have hl : c.outstanding.any (·.tag == t) = true ↔ t ∈ c.outstanding.map (·.tag) := by simp
  have hp : ((c.pend.map (·.tag)) == some t) = true ↔ t ∈ (c.pend.map (·.tag)).toList := by simp
  rw [Channel.tagInUse, Bool.or_eq_true, Bool.or_eq_true, hl, hp, List.contains_iff_mem]
  simp only [Channel.tags, List.mem_append]

theorem tagAfter_ne_zero (t : Half) : tagAfter t ≠ 0 := by
  unfold tagAfter
  split <;> bv_omega

/-- The tag steps count through 1 to 65,535. -/
theorem tagAfter_iterate_toNat {t : Half} (ht : t ≠ 0) (n : Nat) :
    (tagAfter^[n] t).toNat = (t.toNat - 1 + n) % 65535 + 1 := by
  have hpos : 1 ≤ t.toNat := by bv_omega
  have hlt : t.toNat < 65536 := t.isLt
  induction n with
  | zero => simp only [Function.iterate_zero, id_eq]; omega
  | succ n ih =>
    rw [Function.iterate_succ_apply', tagAfter]
    split
    · next h =>
      have : (tagAfter^[n] t).toNat = 65535 := by rw [h]; rfl
      simp only [BitVec.toNat_ofNat]
      omega
    · next h =>
      have : (tagAfter^[n] t).toNat ≠ 65535 := fun e => h (BitVec.eq_of_toNat_eq (by rw [e]; rfl))
      rw [BitVec.toNat_add]
      simp only [BitVec.toNat_ofNat]
      omega

theorem tagAfter_iterate_ne_zero {t : Half} (ht : t ≠ 0) (n : Nat) : tagAfter^[n] t ≠ 0 := by
  intro h
  have := tagAfter_iterate_toNat ht n
  rw [h] at this
  simp at this

theorem tagAfter_iterate_inj {t : Half} (ht : t ≠ 0) {i j : Nat} (hi : i < 65535) (hj : j < 65535)
    (h : tagAfter^[i] t = tagAfter^[j] t) : i = j := by
  have h1 := tagAfter_iterate_toNat ht i
  have h2 := tagAfter_iterate_toNat ht j
  rw [h] at h1
  omega

/-- The search stops at the first value not in use, or at the end of its fuel. -/
theorem chooseTag_spec (c : Channel) (fuel : Nat) (t : Half) :
    ∃ k ≤ fuel, chooseTag c fuel t = tagAfter^[k] t ∧ (∀ j < k, tagAfter^[j] t ∈ c.tags) ∧
      (k < fuel → tagAfter^[k] t ∉ c.tags) := by
  induction fuel generalizing t with
  | zero => exact ⟨0, le_rfl, rfl, by simp, by simp⟩
  | succ n ih =>
    unfold chooseTag
    split
    · next hu =>
      obtain ⟨k, hk, he, hused, hfree⟩ := ih (tagAfter t)
      refine ⟨k + 1, by omega, he, fun j hj => ?_, fun hlt => hfree (by omega)⟩
      cases j with
      | zero => exact (c.tagInUse_iff t).mp hu
      | succ j => exact hused j (by omega)
    · next hu => exact ⟨0, by omega, rfl, by simp, fun _ hm => hu ((c.tagInUse_iff t).mpr hm)⟩

/-- R62: with fewer than 8 tags in use the search finds one that is not, and never 0. -/
theorem chooseTag_free {c : Channel} (hn : c.nextTag ≠ 0) (hu : c.tags.length < 8) :
    chooseTag c 8 c.nextTag ∉ c.tags ∧ chooseTag c 8 c.nextTag ≠ 0 := by
  obtain ⟨k, hk, he, hused, hfree⟩ := chooseTag_spec c 8 c.nextTag
  refine ⟨?_, he ▸ tagAfter_iterate_ne_zero hn k⟩
  rw [he]
  refine hfree (lt_of_le_of_ne hk fun hk8 => ?_)
  subst hk8
  have hinj : Set.InjOn (fun j => tagAfter^[j] c.nextTag) (Finset.range 8 : Finset Nat) := by
    intro i hi j hj
    have hi8 : i < 8 := by simpa using hi
    have hj8 : j < 8 := by simpa using hj
    exact tagAfter_iterate_inj hn (by omega) (by omega)
  have hcard := Finset.card_le_card_of_injOn (s := Finset.range 8) (t := c.tags.toFinset) _
    (fun j hj => by simpa using hused j (by simpa using hj)) hinj
  have := hcard.trans c.tags.toFinset_card_le
  simp at this
  omega

/-! ### Soundness of a record -/

/-- A sound record, but that a command may be pending beside a list with room: as an answer leaves it before the pending
command is promoted (R66). -/
structure Channel.Loose (c : Channel) : Prop where
  depth_pos : 1 ≤ c.depth
  depth_le : c.depth ≤ 2
  knife : c.depth = 2 → c.cls = some .knife
  listed : c.outstanding.length ≤ c.depth
  nodup : (c.outstanding.map (·.tag) ++ (c.pend.map (·.tag)).toList).Nodup
  tag_ne : ∀ x ∈ c.outstanding, x.tag ≠ 0
  pend_ne : ∀ x, c.pend = some x → x.tag ≠ 0
  next_ne : c.nextTag ≠ 0
  recent_le : c.recent.length ≤ 4

theorem Channel.sound_iff (c : Channel) :
    c.sound ↔ c.Loose ∧ ∀ x, c.pend = some x → c.outstanding.length = c.depth := by
  constructor
  · rintro ⟨h1, h2, h3, h4, h5, h6, h7, h8, h9⟩
    exact ⟨⟨h1, h2, h3, h4, h5, h6, fun x hx => (h7 x hx).1, h8, h9⟩, fun x hx => (h7 x hx).2⟩
  · rintro ⟨⟨h1, h2, h3, h4, h5, h6, h7, h8, h9⟩, h10⟩
    exact ⟨h1, h2, h3, h4, h5, h6, fun x hx => ⟨h7 x hx, h10 x hx⟩, h8, h9⟩

theorem Channel.sound.loose {c : Channel} (h : c.sound) : c.Loose := (c.sound_iff.mp h).1

theorem Channel.sound.tags_length {c : Channel} (h : c.sound) : c.tags.length < 8 := by
  have hl := h.loose
  have h1 := hl.listed
  have h2 := hl.depth_le
  have h3 := hl.recent_le
  have h4 : (c.pend.map (·.tag)).toList.length ≤ 1 := by cases c.pend <;> simp
  simp only [Channel.tags, List.length_append, List.length_map]
  omega

theorem Channel.sound.chooseTag_free {c : Channel} (h : c.sound) :
    chooseTag c 8 c.nextTag ∉ c.tags ∧ chooseTag c 8 c.nextTag ≠ 0 :=
  Machine.chooseTag_free h.loose.next_ne h.tags_length

/-- A change of the commands listed that keeps their tags. -/
theorem Channel.sound.mapOutstanding {c : Channel} {f : Command → Command} (hf : ∀ x, (f x).tag = x.tag)
    (h : c.sound) : ({ c with outstanding := c.outstanding.map f } : Channel).sound := by
  obtain ⟨h1, h2, h3, h4, h5, h6, h7, h8, h9⟩ := h
  refine ⟨h1, h2, h3, by simpa using h4, ?_, ?_, by simpa using h7, h8, h9⟩
  · simpa [List.map_map, Function.comp_def, hf] using h5
  · intro x hx
    obtain ⟨y, hy, rfl⟩ := List.mem_map.mp hx
    exact hf y ▸ h6 y hy

/-- No command pending leaves a record sound. -/
theorem Channel.sound.dropPend {c : Channel} (h : c.sound) : ({ c with pend := none } : Channel).sound := by
  obtain ⟨h1, h2, h3, h4, h5, h6, -, h8, h9⟩ := h
  exact ⟨h1, h2, h3, h4, by simpa using h5.of_append_left, h6, by simp, h8, h9⟩

theorem rememberTag_length_le {t : Half} {l : List Half} (h : l.length ≤ 4) : (rememberTag t l).length ≤ 4 := by
  unfold rememberTag
  split
  · next hlt => simpa using hlt
  · have : 1 ≤ l.length := by omega
    simp; omega

theorem Channel.sound.remember {c : Channel} (t : Half) (h : c.sound) :
    ({ c with recent := rememberTag t c.recent } : Channel).sound := by
  obtain ⟨h1, h2, h3, h4, h5, h6, h7, h8, h9⟩ := h
  exact ⟨h1, h2, h3, h4, h5, h6, h7, h8, rememberTag_length_le h9⟩

/-- A change of the fields that soundness does not look at. -/
theorem Channel.sound.setState {c : Channel} (u : Option Unsolicited) (b : Bool) (h : c.sound) :
    ({ c with lastUnsol := u, fault := b } : Channel).sound := h

/-- R66, R69: a command taken off the list leaves the record sound but for the pending command. -/
theorem Channel.sound.remove {c : Channel} (t : Half) {r : List Half} (hr : r.length ≤ 4) (h : c.sound) :
    ({ c with outstanding := c.outstanding.filter (·.tag != t), recent := r } : Channel).Loose := by
  have hl := h.loose
  refine ⟨hl.depth_pos, hl.depth_le, hl.knife, ?_, ?_, ?_, hl.pend_ne, hl.next_ne, hr⟩
  · exact (List.length_filter_le _ _).trans hl.listed
  · exact hl.nodup.sublist ((List.filter_sublist.map _).append_right _)
  · exact fun x hx => hl.tag_ne x (List.mem_of_mem_filter hx)

/-- What `promote` makes of a record. -/
def Channel.promoted (enter : Command → Command) (c : Channel) : Channel :=
  match c.pend with
  | some p =>
    if c.outstanding.length < c.depth then { c with outstanding := c.outstanding ++ [enter p], pend := none } else c
  | none => c

theorem promote_eq (ch : Nat) (s : State) : promote ch s = s.adjustChannel ch (Channel.promoted (translate s)) := rfl

@[simp] theorem translate_tag (s : State) (x : Command) : (translate s x).tag = x.tag := by
  unfold translate
  split <;> rfl

/-- R62: a pending command entering the list makes a record sound. -/
theorem Channel.Loose.promoted {c : Channel} {f : Command → Command} (hf : ∀ x, (f x).tag = x.tag) (h : c.Loose) :
    (c.promoted f).sound := by
  unfold Channel.promoted
  split
  · next p hp =>
    split
    · next hlt =>
      have hnd : (c.outstanding.map (·.tag) ++ [p.tag]).Nodup := by simpa [hp] using h.nodup
      refine ⟨h.depth_pos, h.depth_le, h.knife, by simpa using hlt, ?_, ?_, by simp, h.next_ne, h.recent_le⟩
      · simpa [hf] using hnd
      · intro x hx
        rcases List.mem_append.mp hx with hx | hx
        · exact h.tag_ne x hx
        · obtain rfl := List.mem_singleton.mp hx
          exact hf p ▸ h.pend_ne p hp
    · next hge => exact c.sound_iff.mpr ⟨h, fun _ _ => le_antisymm h.listed (by omega)⟩
  · next hp => exact c.sound_iff.mpr ⟨h, by simp [hp]⟩

/-- R62: a command with a tag that is not in use enters the list. -/
theorem Channel.sound.append {c : Channel} {x : Command} {n : Half} (hlt : c.outstanding.length < c.depth)
    (hx : x.tag ∉ c.tags) (hx0 : x.tag ≠ 0) (hn : n ≠ 0) (h : c.sound) :
    ({ c with outstanding := c.outstanding ++ [x], nextTag := n } : Channel).sound := by
  obtain ⟨h1, h2, h3, h4, h5, h6, h7, h8, h9⟩ := h
  have hp : c.pend = none := by
    cases hc : c.pend with
    | none => rfl
    | some p => exact absurd (h7 p hc).2 (by omega)
  have hmem : x.tag ∉ c.outstanding.map (·.tag) := fun hm => hx (by simp only [Channel.tags, List.mem_append]; tauto)
  refine ⟨h1, h2, h3, by simpa using hlt, ?_, ?_, by simp [hp], hn, h9⟩
  · have hnd : (c.outstanding.map (·.tag)).Nodup := h5.of_append_left
    simpa [hp, List.nodup_append] using ⟨hnd, fun a ha he => hmem (List.mem_map.mpr ⟨a, ha, he⟩)⟩
  · intro y hy
    rcases List.mem_append.mp hy with hy | hy
    · exact h6 y hy
    · obtain rfl := List.mem_singleton.mp hy
      exact hx0

/-- R63: beside a full list it becomes the pending command. -/
theorem Channel.sound.setPend {c : Channel} {x : Command} {n : Half} (hge : ¬ c.outstanding.length < c.depth)
    (hx : x.tag ∉ c.tags) (hx0 : x.tag ≠ 0) (hn : n ≠ 0) (h : c.sound) :
    ({ c with pend := some x, nextTag := n } : Channel).sound := by
  obtain ⟨h1, h2, h3, h4, h5, h6, -, h8, h9⟩ := h
  have hmem : x.tag ∉ c.outstanding.map (·.tag) := fun hm => hx (by simp only [Channel.tags, List.mem_append]; tauto)
  refine ⟨h1, h2, h3, h4, ?_, h6, ?_, hn, h9⟩
  · have hnd : (c.outstanding.map (·.tag)).Nodup := h5.of_append_left
    simpa [List.nodup_append] using ⟨hnd, fun a ha he => hmem (List.mem_map.mpr ⟨a, ha, he⟩)⟩
  · rintro y hy
    obtain rfl := Option.some.inj hy
    exact ⟨hx0, le_antisymm h4 (not_lt.mp hge)⟩

theorem Channel.sound.setNext {c : Channel} {n : Half} (hn : n ≠ 0) (h : c.sound) :
    ({ c with nextTag := n } : Channel).sound := by
  obtain ⟨h1, h2, h3, h4, h5, h6, h7, -, h9⟩ := h
  exact ⟨h1, h2, h3, h4, h5, h6, h7, hn, h9⟩

/-- R74: a record emptied is sound, with any written fields in range (R61). -/
theorem Channel.sound.emptied {c : Channel} {cls : Option CmdClass} {k : Option Key} {d a b : Nat} (h1 : 1 ≤ d)
    (h2 : d ≤ 2) (h3 : d = 2 → cls = some .knife) (h : c.sound) :
    ({ Channel.resetTracking c with cls := cls, key := k, depth := d, acceptTimeout := a, completeTimeout := b } :
      Channel).sound :=
  ⟨h1, h2, h3, Nat.zero_le _, List.nodup_nil, by simp [Channel.resetTracking], by simp [Channel.resetTracking],
    h.loose.next_ne, Nat.zero_le _⟩

theorem Channel.sound.resetTracking {c : Channel} (h : c.sound) : c.resetTracking.sound :=
  h.emptied h.loose.depth_pos h.loose.depth_le h.loose.knife

/-! ### The operations of the Command Channel Unit -/

/-- Two changes of one record make one. -/
theorem State.adjustChannel_adjustChannel (s : State) (i : Nat) (f g : Channel → Channel) :
    (s.adjustChannel i f).adjustChannel i g = s.adjustChannel i (fun x => g (f x)) := by
  unfold State.adjustChannel
  cases hx : s.channelAt i with
  | none => simp [hx]
  | some x =>
    have hi : i < s.ccu.records.length := (List.getElem?_eq_some_iff.mp hx).1
    have hset : (s.withCcu { s.ccu with records := s.ccu.records.set i (f x) }).channelAt i = some (f x) := by
      simp [State.channelAt, hi]
    simp only [hset]
    simp [State.withCcu]

theorem translate_congr {s t : State} (h : t.pt = s.pt) : translate t = translate s := by
  funext x
  simp [translate, toRaw, offsetOf, State.sectionAt, h]

theorem promote_adjustChannel (ch : Nat) (f : Channel → Channel) (s : State) :
    promote ch (s.adjustChannel ch f) = s.adjustChannel ch (fun x => (f x).promoted (translate s)) := by
  rw [promote_eq, State.adjustChannel_adjustChannel, translate_congr]
  unfold State.adjustChannel
  split <;> rfl

theorem Command.restart_tag (w : Word) (x : Command) : (x.restart w).tag = x.tag := by
  unfold Command.restart
  split <;> rfl

section
variable {P : State → Prop} (c : Steps P) {s : State}
include c

omit c in
/-- R62, R63: issuing keeps every channel sound. -/
theorem QuietSteps.on_issueCommand (c : QuietSteps P) {ch v args role} (h : P s) : P (issueCommand ch v args role s).1 := by
  unfold issueCommand
  split
  · exact h
  · next x hx =>
    have htag (hs : x.sound) := hs.chooseTag_free
    have hnext := tagAfter_ne_zero (chooseTag x 8 x.nextTag)
    split
    · exact h
    · dsimp only
      split
      · next hlt =>
        refine c.on_changeCommands_at (fun y hy hs => ?_) (fun _ => ⟨rfl, rfl⟩) h
        obtain rfl : x = y := Option.some.inj (hx.symm.trans hy)
        exact hs.append hlt (by simpa using (htag hs).1) (by simpa using (htag hs).2) hnext
      · next hge =>
        split
        · exact c.on_raiseNoPosition (c.on_changeCommands (fun _ hs => hs.setNext hnext) (fun _ => ⟨rfl, rfl⟩) h)
        · refine c.on_changeCommands_at (fun y hy hs => ?_) (fun _ => ⟨rfl, rfl⟩) h
          obtain rfl : x = y := Option.some.inj (hx.symm.trans hy)
          exact hs.setPend hge (htag hs).1 (htag hs).2 hnext

omit c in
theorem QuietSteps.on_cancelCommand (c : QuietSteps P) {ch tag} (h : P s) : P (cancelCommand ch tag s).1 := by
  unfold cancelCommand
  split
  · exact h
  · split
    · exact c.on_changeCommands (fun _ hs => hs.dropPend) (fun _ => ⟨rfl, rfl⟩) h
    · split
      · exact c.on_changeCommands (fun _ hs => hs.mapOutstanding fun x => by split <;> rfl) (fun _ => ⟨rfl, rfl⟩) h
      · exact h

omit c in
theorem QuietSteps.on_cancelOwn (c : QuietSteps P) {ch tag} (h : P s) : P (cancelOwn ch tag s) := c.on_cancelCommand h

theorem Steps.on_markSent {ch tag} (h : P s) : P (markSent ch tag s) :=
  c.on_adjustChannel (fun _ hs => hs.mapOutstanding fun x => by split <;> rfl) h

theorem Steps.on_recoverChannel {ch} (h : P s) : P (recoverChannel ch s) := by
  unfold recoverChannel
  split
  · split
    · exact c.on_raiseSubject (c.on_adjustChannel (fun x hs => hs.setState x.lastUnsol false) h)
    · exact h
  · exact h

/-- R66: an ended command leaves its channel sound, the pending one promoted. -/
theorem Steps.on_endCommand {ch tag} (h : P s) : P (endCommand ch tag s) := by
  unfold endCommand
  rw [promote_adjustChannel]
  exact c.on_adjustChannel
    (fun _ hs => (hs.remove tag (rememberTag_length_le hs.loose.recent_le)).promoted (translate_tag s)) h

theorem Steps.on_dropTimedOut {ch tag} (h : P s) : P (dropTimedOut ch tag s) := by
  unfold dropTimedOut
  rw [promote_adjustChannel]
  exact c.on_adjustChannel (fun _ hs => (hs.remove tag hs.loose.recent_le).promoted (translate_tag s)) h

theorem Steps.on_takeAccept {ch tag} (h : P s) : P (takeAccept ch tag s).1 := by
  have hr : P (recoverChannel ch s) := c.on_recoverChannel h
  unfold takeAccept
  dsimp only
  split
  · exact hr
  · split
    · exact hr
    · exact c.on_adjustChannel (fun _ hs => hs.mapOutstanding fun x => by split <;> rfl) hr

theorem Steps.on_takeDone {ch tag v ws} (h : P s) : P (takeDone ch tag v ws s).1 := by
  have hr : P (recoverChannel ch s) := c.on_recoverChannel h
  unfold takeDone
  dsimp only
  split
  · exact hr
  · split
    · exact c.on_endCommand hr
    · split
      · exact hr
      · split
        · split
          · exact hr
          · exact c.on_adjustChannel (fun x hs => hs.setState _ x.fault) hr
        · exact c.on_adjustChannel (fun _ hs => hs.remember tag) hr

theorem Steps.on_takeRefuse {ch tag v} (h : P s) : P (takeRefuse ch tag v s).1 := by
  unfold takeRefuse
  split
  · exact h
  · split
    · exact c.on_endCommand h
    · exact h

theorem Steps.on_reportTimeout {ch tag v} (h : P s) : P (reportTimeout ch tag v s) :=
  c.on_adjustChannel (fun x hs => hs.setState x.lastUnsol true) (c.on_raise h)

theorem Steps.on_overdueStep {ch tag} (h : P s) : P (overdueStep ch tag s) := by
  unfold overdueStep
  split
  · exact h
  · split
    · exact h
    · split
      · exact c.on_raise (c.on_adjustChannel (fun _ hs => hs.mapOutstanding fun x => by split <;> rfl) h)
      · exact h

theorem Steps.on_publishGate {g} (h : P s) : P (publishGate g s) := c.on_ccu id h

theorem Steps.on_channelsEnterRun (h : P s) : P (channelsEnterRun s) := by
  refine c.on_ccu (fun hs x hx => ?_) h
  obtain ⟨y, hy, rfl⟩ := List.mem_map.mp hx
  exact (hs y hy).mapOutstanding (Command.restart_tag _)

end
end Sys2Proof.Machine

/-! The operations of the Web Map, the Cut Planner and the Setpoint Scheduler keep what `Steps` names. -/
namespace Sys2Proof.Machine

section
variable {P : State → Prop} (c : QuietSteps P) {s : State}
include c

/-! ### The Web Map (02) -/

theorem QuietSteps.on_listMark {m} (h : P s) : P (listMark m s) := c.on_adjustMap h
theorem QuietSteps.on_unlistMark {sec slot} (h : P s) : P (unlistMark sec slot s) := c.on_adjustMap h
theorem QuietSteps.on_replaceMark {m} (h : P s) : P (replaceMark m s) := c.on_adjustMap h
theorem QuietSteps.on_markSeen {sec} (h : P s) : P (markSeen sec s) := c.on_adjustMap h

theorem QuietSteps.on_noteChange {sec sp} (h : P s) : P (noteChange sec sp s) := by
  unfold noteChange
  split
  · exact c.on_wm h
  · exact h

theorem QuietSteps.on_mergeInto {m n} (h : P s) : P (mergeInto m n s) := c.on_noteChange (c.on_replaceMark h)

theorem QuietSteps.on_enterMark {m} (h : P s) : P (enterMark m s) := c.on_noteChange (c.on_wm (c.on_listMark h))

theorem QuietSteps.on_createMark {q} (h : P s) : P (createMark q s).1 := by
  unfold createMark
  dsimp only
  split
  · exact c.on_enterMark h
  · split
    · exact c.on_mergeInto h
    · exact c.on_raise h

theorem QuietSteps.on_placeMark {q} (h : P s) : P (placeMark q s) := c.on_createMark h

theorem QuietSteps.on_createBoundary {sec p o b} (h : P s) : P (createBoundary sec p o b s).1 := by
  unfold createBoundary
  split
  · exact c.on_enterMark h
  · exact c.on_raise h

theorem QuietSteps.on_carryMove {l p} (h : P s) : P (carryMove l p s).1 := by
  refine foldl_keeps_fst (fun r a hr => ?_) _ h
  dsimp only
  split <;> exact c.on_carryOver hr

theorem QuietSteps.on_moveMark {slot serial sec p conf} (h : P s) : P (moveMark slot serial sec p conf s).1 := by
  unfold moveMark
  split
  · exact h
  · split
    · exact h
    · dsimp only
      split
      · exact c.on_mergeInto (c.on_carryMove h)
      · exact c.on_noteChange (c.on_listMark (c.on_unlistMark (c.on_carryMove h)))

theorem QuietSteps.on_deleteMark {slot serial} (h : P s) : P (deleteMark slot serial s).1 := by
  unfold deleteMark
  split
  · exact h
  · split
    · exact h
    · exact c.on_noteChange (c.on_unlistMark h)

theorem QuietSteps.on_carryHeads {l d fuel} (h : P s) : P (carryHeads l d fuel s) := by
  induction fuel generalizing s with
  | zero => exact h
  | succ n ih =>
    unfold carryHeads
    split
    · exact h
    · split
      · exact h
      · dsimp only
        split
        · exact c.on_carryOver h
        · split
          · exact ih (c.on_noteChange (c.on_listMark (c.on_unlistMark (c.on_carryOver h))))
          · exact c.on_carryOver h

theorem QuietSteps.on_carryInto {d} (h : P s) : P (carryInto d s) := by
  refine foldl_keeps (fun t l ht => ?_) _ h
  split
  · split
    · exact c.on_carryHeads ht
    · exact ht
  · exact ht

theorem QuietSteps.on_jointMisses {sec} (h : P s) : P (jointMisses sec s) := by
  unfold jointMisses
  split
  · exact h
  · refine foldl_keeps (fun t ip ht => ?_) _ h
    split
    · refine foldl_keeps (fun u m hu => ?_) _ ht
      split
      · exact c.on_raise hu
      · exact hu
    · exact ht

theorem QuietSteps.on_retireMarks (h : P s) : P (retireMarks s) := by
  unfold retireMarks
  split
  · exact c.on_adjustMap h
  · exact h

/-! ### The Setpoint Scheduler (10) -/

theorem QuietSteps.on_switchCheck {i} (h : P s) : P (switchCheck i s) := by
  unfold switchCheck
  split
  · exact c.on_adjustGen h
  · exact h

theorem QuietSteps.on_switchPosition {sec b} (h : P s) : P (switchPosition sec b s).1 := by
  unfold switchPosition
  split
  · exact h
  · split
    · exact c.on_inverseChain h
    · exact h

theorem QuietSteps.on_forceHead {i} (h : P s) : P (forceHead i s) := by
  unfold forceHead
  split
  · exact h
  · split
    · exact h
    · split
      · exact c.on_raise (c.on_adjustGen h)
      · exact h

theorem QuietSteps.on_placeSwitch {i b g} (h : P s) : P (placeSwitch i b g s).1 := by
  have hp {sec} : P (switchPosition sec b s).1 := c.on_switchPosition h
  unfold placeSwitch
  split
  · exact h
  · split
    · exact h
    · dsimp only
      split
      · exact hp
      · split
        · exact c.on_forceHead hp
        · split
          · exact c.on_adjustGen (c.on_adjustGen (c.on_forceHead hp))
          · dsimp only
            exact c.on_adjustGen (c.on_forceHead hp)

theorem QuietSteps.on_placeSwitches {b g} (h : P s) : P (placeSwitches b g s) := by
  have hf : P ((List.range 24).foldl
      (fun acc i =>
        let p := placeSwitch i b g acc.1
        match p.2 with
        | some d => (p.1, acc.2.1 + 1, max acc.2.2 d)
        | none => (p.1, acc.2))
      (s, (0 : Nat), (0 : Int))).1 := by
    refine foldl_keeps_fst (fun r i hr => ?_) _ h
    dsimp only
    split <;> exact c.on_placeSwitch hr
  unfold placeSwitches
  dsimp only
  split
  · exact hf
  · exact c.on_raise hf

theorem QuietSteps.on_setpointUpdate {sec} (h : P s) : P (setpointUpdate sec s) := by
  refine foldl_keeps (fun t i ht => ?_) _ h
  split
  · exact c.on_switchCheck ht
  · exact ht

theorem QuietSteps.on_curveMissing {i k g} (h : P s) : P (curveMissing i k g s) := by
  unfold curveMissing
  split
  · exact h
  · exact c.on_raise (c.on_adjustGen h)

theorem QuietSteps.on_generatorValue {i} (h : P s) : P (generatorValue i s).1 := by
  unfold generatorValue
  split
  · exact h
  · split
    · dsimp only
      exact c.on_adjustGen h
    · split
      · dsimp only
        exact c.on_adjustGen h
      · split
        · exact c.on_curveMissing h
        · exact c.on_curveMissing h
        · dsimp only
          exact c.on_adjustGen h

theorem QuietSteps.on_setpointEnterRun (h : P s) : P (setpointEnterRun s) := by
  refine foldl_keeps (fun t i ht => c.on_switchCheck ht) _ (foldl_keeps (fun t i ht => ?_) _ h)
  split
  · exact c.on_adjustGen ht
  · exact ht

end

/-! ### The Cut Planner's record (R129, R137, R138) -/

/-- Only the plan changes, and stays within its bounds. -/
theorem CutPlanner.sound.setPlan {p : CutPlanner} {l : List CutEntry} {b : Option Word} {f : Bool}
    (hlen : l.length ≤ Config.planCapacity)
    (hsent : l.Pairwise (fun a b => b.sent.isSome = true → a.sent.isSome = true)) (h : p.sound) :
    ({ p with plan := l, base := b, frontFault := f } : CutPlanner).sound := by
  obtain ⟨-, -, h3, h4, h5, h6⟩ := h
  exact ⟨hlen, hsent, h3, h4, h5, h6⟩

theorem CutPlanner.sound.sublistPlan {p : CutPlanner} {l : List CutEntry} {b : Option Word} {f : Bool}
    (hl : l.Sublist p.plan) (h : p.sound) : ({ p with plan := l, base := b, frontFault := f } : CutPlanner).sound :=
  h.setPlan (hl.length_le.trans h.1) (h.2.1.sublist hl)

theorem CutPlanner.sound.setRange {p : CutPlanner} {k : Option OrderKey} (h : p.sound) :
    ({ p with rangeOrder := k } : CutPlanner).sound := h

theorem CutPlanner.sound.setForwardBase {p : CutPlanner} {b : Option Word} {f : Bool} (h : p.sound) :
    ({ p with base := b, frontFault := f } : CutPlanner).sound := h

/-- R134: a cut found is appended PLANNED. -/
theorem CutPlanner.sound.appendPlanned {p : CutPlanner} {e : CutEntry} (he : e.sent = none)
    (hlt : p.plan.length < Config.planCapacity) (h : p.sound) :
    ({ p with plan := p.plan ++ [e] } : CutPlanner).sound := by
  refine h.setPlan (by simpa using hlt) (List.pairwise_append.mpr ⟨h.2.1, List.pairwise_singleton _ _, ?_⟩)
  rintro a - b hb hs
  obtain rfl := List.mem_singleton.mp hb
  simp [he] at hs

/-- The entries before the first PLANNED one are SENT. -/
theorem firstPlanned_spec {l : List CutEntry} {i : Nat} (h : firstPlanned l = some i) :
    i < l.length ∧ ∀ j < i, ∀ e, l[j]? = some e → e.sent.isSome = true := by
  rw [firstPlanned, firstIndex, List.find?_range_eq_some] at h
  obtain ⟨-, hi, hj⟩ := h
  refine ⟨by simpa using hi, fun j hji e he => ?_⟩
  have := hj j hji
  rw [he] at this
  cases hs : e.sent <;> simp_all

/-- R137: the first PLANNED entry becomes SENT. -/
theorem CutPlanner.sound.send {p : CutPlanner} {i : Nat} {e : CutEntry} {t : Half} (hi : firstPlanned p.plan = some i)
    (h : p.sound) : ({ p with plan := p.plan.set i { e with sent := some t } } : CutPlanner).sound := by
  obtain ⟨-, hbefore⟩ := firstPlanned_spec hi
  refine h.setPlan (by simpa using h.1) (List.pairwise_iff_getElem.mpr fun a b ha hb hab hs => ?_)
  have hsent := List.pairwise_iff_getElem.mp h.2.1
  simp only [List.length_set] at ha hb
  rw [List.getElem_set] at hs ⊢
  split at hs
  · next hib =>
    subst hib
    rw [if_neg (by omega)]
    exact hbefore a hab _ (List.getElem?_eq_getElem ha)
  · split
    · rfl
    · exact hsent a b ha hb hab hs

theorem nextCut_planned (s : State) (found : List (OrderKey × Nat)) (p : Word) :
    (nextCut s found p).entry.sent = none := by
  have ho (x : CutContext) (t : Word) : (ordinaryCut s found x t).entry.sent = none := by
    unfold ordinaryCut
    repeat' split
    all_goals rfl
  unfold nextCut
  dsimp only
  repeat' split
  all_goals first | rfl | exact ho _ _

theorem noteSheetRange_plan (x : Word) (f : FoundCut) (s : State) : (noteSheetRange x f s).cp.plan = s.cp.plan := by
  unfold noteSheetRange
  repeat' split
  all_goals simp

theorem issueCommand_cp (ch : Nat) (v : Verb) (args : List Word) (role : Option PosRole) (s : State) :
    (issueCommand ch v args role s).1.cp = s.cp := by
  unfold issueCommand
  dsimp only
  repeat' split
  all_goals simp [raiseNoPosition]

/-! ### Plans and feeds (R134, R137) -/

/-- The plan changes alone: behind a SENT head it stays. -/
theorem PlanChange.of_plan {p : CutPlanner} {l : List CutEntry} (hs : p.sound → ({ p with plan := l } : CutPlanner).sound)
    (h : ∀ e rest, p.plan = e :: rest → e.sent.isSome = true → ∃ later, l = e :: later) :
    PlanChange p { p with plan := l } where
  sound := hs
  pieces := rfl
  lastCut := rfl
  fault := id
  head e rest hp hsent := ⟨h e rest hp hsent, rfl, rfl⟩

theorem PlanChange.setRange (p : CutPlanner) (k : Option OrderKey) : PlanChange p { p with rangeOrder := k } where
  sound hs := hs.setRange
  pieces := rfl
  lastCut := rfl
  fault := id
  head _ rest hp _ := ⟨⟨rest, hp⟩, rfl, rfl⟩

/-- R134: the base of an empty plan moves to the knife, faulted. -/
theorem PlanChange.settleBase {p : CutPlanner} (m : Option Word) (h : p.plan = []) :
    PlanChange p { p with base := m, frontFault := true } where
  sound hs := hs.setForwardBase
  pieces := rfl
  lastCut := rfl
  fault _ := rfl
  head _ _ hp _ := nomatch h.symm.trans hp

theorem PlanChange.appendPlanned {p : CutPlanner} {e : CutEntry} (he : e.sent = none)
    (hlt : p.plan.length < Config.planCapacity) : PlanChange p { p with plan := p.plan ++ [e] } :=
  .of_plan (fun hs => hs.appendPlanned he hlt) fun _ rest hp _ => ⟨rest ++ [e], by rw [hp]; rfl⟩

theorem PlanChange.send {p : CutPlanner} {i : Nat} {e : CutEntry} {t : Half} (hi : firstPlanned p.plan = some i) :
    PlanChange p { p with plan := p.plan.set i { e with sent := some t } } := by
  refine .of_plan (fun hs => hs.send hi) fun x rest hp hsent => ?_
  cases i with
  | zero =>
    have hnone : x.sent.isNone = true := by
      rw [firstPlanned, firstIndex, List.find?_range_eq_some, hp] at hi
      exact hi.1
    rw [Option.isNone_iff_eq_none.mp hnone] at hsent
    cases hsent
  | succ j => exact ⟨rest.set j { e with sent := some t }, by rw [hp]; rfl⟩

/-- R135: a re-plan from a PLANNED entry on. -/
theorem PlanChange.take {p : CutPlanner} {i : Nat} (hi : ∀ e, p.plan[i]? = some e → e.sent.isNone = true) :
    PlanChange p { p with plan := p.plan.take i } := by
  refine .of_plan (fun hs => hs.sublistPlan (List.take_sublist _ _)) fun x rest hp hsent => ?_
  cases i with
  | zero =>
    have hnone := hi x (by rw [hp]; rfl)
    rw [Option.isNone_iff_eq_none.mp hnone] at hsent
    cases hsent
  | succ j => exact ⟨rest.take j, by rw [hp]; rfl⟩

/-- The place of the first entry that meets a test is one whose entry meets it. -/
theorem firstIndex_any {l : List CutEntry} {i : Nat} {f : Nat → CutEntry → Bool}
    (h : firstIndex l.length (fun i => (l[i]?).any (f i)) = some i) : ∀ e, l[i]? = some e → f i e = true := by
  intro e he
  have := List.find?_some h
  rwa [he] at this

section
variable {P : State → Prop} (c : QuietSteps P) {s : State}
include c

theorem QuietSteps.on_noteSheetRange {x f} (h : P s) : P (noteSheetRange x f s) := by
  unfold noteSheetRange
  split
  · split
    · exact h
    · exact c.on_plan (.setRange _ _) (c.on_raise h)
  · exact h

theorem QuietSteps.on_planCuts {fuel} (h : P s) : P (planCuts fuel s) := by
  induction fuel generalizing s with
  | zero => exact h
  | succ n ih =>
    unfold planCuts
    split
    · split
      · next hroom =>
        refine ih (c.on_plan (.appendPlanned (nextCut_planned ..) ?_) (c.on_noteSheetRange h))
        rw [noteSheetRange_plan]
        exact hroom.1
      · exact h
    · exact h

theorem QuietSteps.on_settleBase (h : P s) : P (settleBase s) := by
  unfold settleBase
  split
  · exact h
  · next m _ =>
    have hmove (behind : Bool) : P (if (s.cp.plan.isEmpty && behind) = true then
        s.withCp { s.cp with base := some m, frontFault := true } else s) := by
      split
      · next hb => exact c.on_plan (.settleBase _ (List.isEmpty_iff.mp (Bool.and_eq_true_iff.mp hb).1)) h
      · exact h
    exact hmove _

theorem QuietSteps.on_feedKnife {fuel} (h : P s) : P (feedKnife fuel s) := by
  induction fuel generalizing s with
  | zero => exact h
  | succ n ih =>
    unfold feedKnife
    split
    · next hi =>
      split
      · exact h
      · split
        · dsimp only
          split
          · exact ih (c.on_plan (.send (by rw [issueCommand_cp]; exact hi)) (c.on_issueCommand h))
          · exact c.on_issueCommand h
        · exact h
    · exact h

theorem QuietSteps.on_feedCheck (h : P s) : P (feedCheck s) := c.on_feedKnife h

theorem QuietSteps.on_planAndFeed (h : P s) : P (planAndFeed s) := by
  unfold planAndFeed
  split
  · exact c.on_feedCheck (c.on_planCuts (c.on_settleBase h))
  · exact h

theorem QuietSteps.on_replanFrom {i} (hi : ∀ e, s.cp.plan[i]? = some e → e.sent.isNone = true) (h : P s) :
    P (replanFrom i s) := c.on_planAndFeed (c.on_plan (.take hi) h)

theorem QuietSteps.on_replanForChange {sp} (h : P s) : P (replanForChange sp s) := by
  unfold replanForChange
  split
  · next hi =>
    split
    · exact c.on_replanFrom (fun e he => (Bool.and_eq_true_iff.mp (firstIndex_any hi e he)).1) h
    · exact h
  · exact h

theorem QuietSteps.on_replanForOrder {k} (h : P s) : P (replanForOrder k s) := by
  unfold replanForOrder
  split
  · next hi =>
    split
    · exact c.on_replanFrom (fun e he => (Bool.and_eq_true_iff.mp (firstIndex_any hi e he)).1) h
    · exact h
  · exact h

end

section
variable {P : State → Prop} (c : Steps P) {s : State}
include c

theorem Steps.on_replanAll (h : P s) : P (replanAll s) := by
  unfold replanAll
  split
  · exact c.on_planAndFeed (c.on_cp (fun hs => hs.sublistPlan List.filter_sublist) h)
  · exact h

theorem Steps.on_missHead {v} (h : P s) : P (missHead v s) := by
  unfold missHead
  split
  · exact h
  · next e rest he =>
    exact c.on_raise (c.on_cp (fun hs => hs.sublistPlan (he ▸ List.sublist_cons_self e rest)) h)

theorem Steps.on_missAhead {n} (h : P s) : P (missAhead n s) := by
  induction n generalizing s with
  | zero => exact h
  | succ n ih => exact ih (c.on_missHead h)

theorem Steps.on_cutFailed {tag v} (h : P s) : P (cutFailed tag v s) := by
  unfold cutFailed
  split
  · exact c.on_planAndFeed (c.on_missHead (c.on_missAhead h))
  · exact c.on_feedCheck h

theorem Steps.on_cancelCut {tag} (h : P s) : P (cancelCut tag s) := by
  unfold cancelCut
  split
  · split
    · exact c.on_cancelOwn h
    · exact h
  · exact h

theorem Steps.on_distanceCheck {fuel} (h : P s) : P (distanceCheck fuel s) := by
  induction fuel generalizing s with
  | zero => exact h
  | succ n ih =>
    unfold distanceCheck
    split
    · split
      · refine ih ?_
        split
        · exact c.on_cancelCut (c.on_missHead h)
        · exact c.on_missHead h
      · exact h
    · exact h

end
end Sys2Proof.Machine

/-! The operations of the Slitter Pair Controller and the Splice Controller keep what `Steps` names. -/
namespace Sys2Proof.Machine

section
variable {P : State → Prop} (c : SwapSteps P) {s : State}
include c

/-! ### The Slitter Pair Controller (07) -/

theorem SwapSteps.on_coverZone {z p} (h : P s) : P (coverZone z p s) := by
  unfold coverZone
  split
  · exact h
  · exact c.on_sp (c.on_placeMark h)

theorem SwapSteps.on_coverStep (h : P s) : P (coverStep s) := by
  unfold coverStep
  split
  · split
    · exact c.on_coverZone h
    · exact h
  · exact h

theorem SwapSteps.on_startCover {p} (h : P s) : P (startCover p s) := by
  unfold startCover
  split
  · exact h
  · exact c.on_coverStep (c.on_sp h)

theorem SwapSteps.on_endCover {z} (h : P s) : P (endCover z s) := by
  unfold endCover
  split
  · refine c.on_sp ?_
    split
    · split
      · exact c.on_coverZone h
      · exact h
    · exact h
  · exact h

theorem SwapSteps.on_swapEndCheck (h : P s) : P (swapEndCheck s) := by
  unfold swapEndCheck
  split
  · exact h
  · split
    · exact c.on_raise (c.on_sp h)
    · exact h

theorem SwapSteps.on_makeLate (h : P s) : P (makeLate s) := by
  unfold makeLate
  split
  · exact h
  · exact c.on_startCover (c.on_raise (c.on_adjustSwap h))

theorem SwapSteps.on_faultOnSwap {i} (h : P s) : P (faultOnSwap i s) := by
  unfold faultOnSwap
  split
  · exact h
  · split
    · split
      · exact c.on_makeLate h
      · exact h
    · split
      · exact c.on_swapEndCheck (c.on_adjustSwap h)
      · exact h

theorem SwapSteps.on_stationFault {i v} (h : P s) : P (stationFault i v s) := by
  unfold stationFault
  split
  · dsimp only
    refine c.on_faultOnSwap ?_
    split
    · refine c.on_startCover (c.on_raise (c.on_placeMark (c.on_adjustStation ?_)))
      split
      · exact c.on_cancelOwn h
      · exact h
    · refine c.on_raise (c.on_placeMark (c.on_adjustStation ?_))
      split
      · exact c.on_cancelOwn h
      · exact h
  · exact h

theorem SwapSteps.on_supersededLive {i l t} (h : P s) : P (supersededLive i l t s) := by
  unfold supersededLive
  split
  · exact c.on_stationFault h
  · exact h

theorem SwapSteps.on_stationIssue {i v args} {taken : State → State} (ht : ∀ t, P t → P (taken t)) (h : P s) :
    P (stationIssue i v args taken s) := by
  unfold stationIssue
  split
  · exact h
  · dsimp only
    split
    · exact c.on_supersededLive (ht _ (c.on_adjustStation (c.on_issueCommand h)))
    · exact c.on_issueCommand h

theorem SwapSteps.on_issuePreset {i p} (h : P s) : P (issuePreset i p s) :=
  c.on_stationIssue (fun _ ht => ht) (c.on_adjustStation h)

theorem SwapSteps.on_issueSwapDrop {w} (h : P s) : P (issueSwapDrop w s) :=
  c.on_stationIssue (fun _ ht => c.on_adjustSwap ht) h

theorem SwapSteps.on_issueSwapLift {w} (h : P s) : P (issueSwapLift w s) := by
  unfold issueSwapLift
  split
  · exact h
  · split
    · exact c.on_adjustSwap h
    · exact c.on_stationIssue (fun _ ht => c.on_adjustSwap ht) h

theorem SwapSteps.on_endLateness (h : P s) : P (endLateness s) := by
  unfold endLateness
  split
  · exact h
  · split
    · refine c.on_endCover (c.on_swapEndCheck (c.on_adjustSwap ?_))
      split
      · exact c.on_issueSwapLift (c.on_issueSwapDrop h)
      · exact c.on_issueSwapDrop h
    · exact h

theorem SwapSteps.on_noteLead {i} (h : P s) : P (noteLead i s) := c.on_adjustStation h

theorem SwapSteps.on_issueDue {w a b} (h : P s) : P (issueDue w a b s) := by
  unfold issueDue
  refine c.on_swapEndCheck ?_
  split
  · refine c.on_issueSwapLift ?_
    split
    · exact c.on_issueSwapDrop h
    · exact h
  · split
    · exact c.on_issueSwapDrop h
    · exact h

theorem SwapSteps.on_swapDueCheck (h : P s) : P (swapDueCheck s) := by
  unfold swapDueCheck
  split
  · exact h
  · split
    · exact h
    · split
      · exact h
      · have h1 {i : Nat} : P (noteLead i s) := c.on_noteLead h
        have h2 {i j : Nat} : P (noteLead j (noteLead i s)) := c.on_noteLead h1
        split <;> dsimp only <;> split
        · split
          · exact c.on_makeLate h2
          · exact h2
        · exact c.on_issueDue h2
        · split
          · exact c.on_makeLate h1
          · exact h1
        · exact c.on_issueDue h1

theorem SwapSteps.on_createSwap {b p} (h : P s) : P (createSwap b p s) :=
  c.on_swapDueCheck (c.on_issuePreset (c.on_sp h))

end

section
variable {P : State → Prop} (c : Steps P) {s : State}
include c

theorem Steps.on_liveComplete {i v} (h : P s) : P (liveComplete i v s) := by
  unfold liveComplete
  split
  · exact c.on_endLateness (c.on_adjustStation h)
  · exact c.on_swapEndCheck (c.on_adjustSwap (c.on_adjustStation h))
  · exact c.on_swapEndCheck (c.on_adjustSwap (c.on_adjustStation h))
  · exact h

theorem Steps.on_liveFailed {i t v} (h : P s) : P (liveFailed i t v s) := by
  unfold liveFailed
  split
  · exact c.on_stationFault h
  · exact h

theorem Steps.on_slitterTold {i t} (h : P s) : P (slitterTold i t s) := by
  unfold slitterTold
  split
  case h_2 =>
    split
    · split
      · exact c.on_liveComplete h
      · exact h
    · exact h
  all_goals first | exact h | exact c.on_liveFailed h

theorem Steps.on_settleLive {i l} (h : P s) : P (settleLive i l s) := by
  unfold settleLive
  split
  · exact h
  · exact c.on_liveComplete (c.on_cancelOwn (c.on_adjustStation h))

theorem Steps.on_stationReport {i v a} (h : P s) : P (stationReport i v a s) := by
  unfold stationReport
  split
  · exact h
  · split
    · exact h
    · split
      · exact c.on_stationFault h
      · split
        · split
          · exact c.on_settleLive h
          · exact h
        · exact h

theorem Steps.on_slitterArrival {slot} (h : P s) : P (slitterArrival slot s) := by
  unfold slitterArrival
  split
  · refine foldl_keeps (fun t i ht => ?_) _ h
    split
    · exact c.on_stationReport ht
    · exact ht
  · exact h

theorem Steps.on_recoveryCheck (h : P s) : P (recoveryCheck s) := by
  unfold recoveryCheck
  dsimp only
  split
  · split
    · exact c.on_makeLate (c.on_issuePreset (c.on_sp h))
    · exact h
  · exact h

theorem Steps.on_represet {i} (h : P s) : P (represet i s) := by
  unfold represet
  split
  · split
    · exact c.on_issuePreset h
    · exact h
  · exact h

theorem Steps.on_clearedLift {i} (h : P s) : P (clearedLift i s) := by
  unfold clearedLift
  split
  · split
    · exact c.on_swapEndCheck (c.on_adjustSwap h)
    · exact h
  · exact h

theorem Steps.on_clearStation {i} (h : P s) : P (clearStation i s) :=
  c.on_recoveryCheck (c.on_endCover (c.on_clearedLift (c.on_represet (c.on_adjustStation h))))

theorem Steps.on_slitterUpdate (h : P s) : P (slitterUpdate s) := c.on_coverStep (c.on_swapDueCheck h)

theorem Steps.on_stationEnterRun {i} (h : P s) : P (stationEnterRun i s) := by
  unfold stationEnterRun
  split
  · exact h
  · split
    · exact h
    · dsimp only
      split
      · split
        · exact h
        · split
          · exact c.on_settleLive h
          · exact c.on_stationFault h
      · split
        · exact h
        · split
          · exact c.on_settleLive h
          · exact c.on_stationFault h

theorem Steps.on_slitterEnterRun (h : P s) : P (slitterEnterRun s) := by
  have h' := c.on_stationEnterRun (i := 1) (c.on_stationEnterRun (i := 0) h)
  unfold slitterEnterRun
  refine c.on_recoveryCheck ?_
  split
  · split
    · exact c.on_represet h'
    · exact h'
  · exact h'

/-! ### The Splice Controller (06) -/

theorem Steps.on_prepareSuperseded {i t} (h : P s) : P (prepareSuperseded i t s) := by
  unfold prepareSuperseded
  split
  · exact h
  · split
    · exact c.on_raise (c.on_adjustWeb h)
    · exact h

theorem Steps.on_issueCheck {i} (h : P s) : P (issueCheck i s) := by
  unfold issueCheck
  split
  · exact h
  · split
    · exact h
    · split
      · dsimp only
        split
        · exact c.on_prepareSuperseded (c.on_adjustWeb (c.on_issueCommand h))
        · exact c.on_issueCommand h
      · exact h

theorem Steps.on_paperCheck {i a b} (h : P s) : P (paperCheck i a b s) := by
  unfold paperCheck
  split
  · split
    · exact h
    · exact c.on_raise h
  · exact h

theorem Steps.on_planRunout {i w x a b} (h : P s) : P (planRunout i w x a b s) := by
  unfold planRunout
  split
  · exact c.on_issueCheck (c.on_paperCheck (c.on_adjustWeb h))
  · split
    · exact h
    · exact c.on_raise (c.on_adjustWeb h)

theorem Steps.on_advanceGrade {i w p x a b} (h : P s) : P (advanceGrade i w p x a b s) := by
  unfold advanceGrade
  split
  · exact h
  · exact c.on_issueCheck (c.on_raise (c.on_adjustWeb h))

theorem Steps.on_evaluateWeb {i} (h : P s) : P (evaluateWeb i s) := by
  unfold evaluateWeb
  split
  · exact h
  · split
    · dsimp only
      split
      · split
        · exact c.on_planRunout (c.on_adjustWeb h)
        · split
          · exact c.on_advanceGrade (c.on_adjustWeb h)
          · exact c.on_adjustWeb h
      · exact c.on_adjustWeb h
    · exact h

omit c in
theorem QuietSteps.on_planGrade (c : QuietSteps P) {i t p} (h : P s) : P (planGrade i t p s) := by
  unfold planGrade
  split
  · exact h
  · dsimp only
    split
    · exact c.on_adjustWeb (c.on_issueCommand (c.on_adjustWeb h))
    · exact c.on_issueCommand (c.on_adjustWeb h)

theorem Steps.on_deleteCreated {w} (h : P s) : P (deleteCreated w s) := by
  unfold deleteCreated
  split
  · split
    · exact c.on_deleteMark h
    · exact h
  · exact h

theorem Steps.on_spliceAccepted {i w p} (h : P s) : P (spliceAccepted i w p s) := by
  unfold spliceAccepted
  split
  · exact c.on_adjustWeb (c.on_createMark h)
  · exact h

theorem Steps.on_confirmMark {i w a} (h : P s) : P (confirmMark i w a s) := by
  unfold confirmMark
  dsimp only
  split
  · exact c.on_placeMark h
  · split
    · exact c.on_placeMark (c.on_moveMark h)
    · exact c.on_moveMark h

theorem Steps.on_spliceMade {i w p a} (h : P s) : P (spliceMade i w p a s) := by
  unfold spliceMade
  refine c.on_adjustWeb (c.on_raise ?_)
  split
  · exact c.on_placeMark (c.on_confirmMark h)
  · exact c.on_confirmMark h

theorem Steps.on_spliceFailed {i w p v} (h : P s) : P (spliceFailed i w p v s) := by
  unfold spliceFailed
  refine c.on_evaluateWeb (c.on_adjustWeb ?_)
  split
  · exact c.on_raise (c.on_placeMark (c.on_deleteCreated h))
  · exact c.on_raise (c.on_deleteCreated h)

theorem Steps.on_prepareOutcome {i w r} (h : P s) : P (prepareOutcome i w r s) := by
  unfold prepareOutcome
  dsimp only
  split
  · exact c.on_adjustWeb h
  · exact c.on_raise (c.on_adjustWeb h)

theorem Steps.on_cancelTags {w} (h : P s) : P (cancelTags w s) := by
  have h1 : P (match w.st.spliceTag with
      | some t => cancelOwn w.cfg.channel t s
      | none => s) := by
    split
    · exact c.on_cancelOwn h
    · exact h
  unfold cancelTags
  dsimp only
  split
  · exact c.on_cancelOwn h1
  · exact h1

theorem Steps.on_withdrawGrade {i w p a} (h : P s) : P (withdrawGrade i w p a s) := by
  unfold withdrawGrade
  split
  · exact c.on_raise (c.on_placeMark h)
  · exact h

theorem Steps.on_spliceUnplanned {i w a} (h : P s) : P (spliceUnplanned i w a s) := by
  have h1 {code : Nat} : P ((deleteCreated w (cancelTags w (raise .spliceUnplanned (natWord i) a (natWord code)
      (placeMark (spliceRequest i w a 0 .confirmed) s)))).adjustWeb i
        (fun x => { x with settledTag := x.spliceTag <|> x.settledTag })) :=
    c.on_adjustWeb (c.on_deleteCreated (c.on_cancelTags (c.on_raise (c.on_placeMark h))))
  unfold spliceUnplanned
  refine c.on_adjustWeb ?_
  split
  · exact c.on_withdrawGrade h1
  · exact h1

theorem Steps.on_splicerFailed {i w t v} (h : P s) : P (splicerFailed i w t v s) := by
  unfold splicerFailed
  split
  · split
    · exact c.on_spliceFailed h
    · exact h
  · split
    · exact c.on_prepareOutcome h
    · exact h

theorem Steps.on_splicerComplete {i w t v x} (h : P s) : P (splicerComplete i w t v x s) := by
  unfold splicerComplete
  split
  · split
    · exact c.on_spliceMade h
    · exact h
  · split
    · exact c.on_prepareOutcome h
    · split
      · exact h
      · exact c.on_spliceUnplanned h

theorem Steps.on_splicerTold {i t} (h : P s) : P (splicerTold i t s) := by
  unfold splicerTold
  split
  · exact h
  · split
    case h_1 =>
      split
      · split
        · exact c.on_spliceAccepted h
        · exact h
      · exact h
    case h_2 => exact c.on_splicerComplete h
    case h_10 =>
      split
      · exact c.on_spliceUnplanned h
      · exact h
    all_goals first | exact h | exact c.on_splicerFailed h

theorem Steps.on_takeFromCount {i} (h : P s) : P (takeFromCount i s) := by
  unfold takeFromCount
  split
  · exact h
  · split
    · exact h
    · split
      · refine c.on_adjustWeb ?_
        split
        · split
          · exact c.on_cancelOwn (c.on_adjustWeb (c.on_spliceMade h))
          · exact c.on_spliceUnplanned h
        · exact c.on_spliceUnplanned h
      · exact h

theorem Steps.on_countWaitStep {i} (h : P s) : P (countWaitStep i s) := by
  unfold countWaitStep
  split
  · exact h
  · split
    · exact c.on_takeFromCount (c.on_adjustWeb h)
    · exact h

theorem Steps.on_webArrival {slot i} (h : P s) : P (webArrival slot i s) := by
  have h1 (w : Web) : P (if w.cfg.diamSlot = slot then
      evaluateWeb i (s.adjustWeb i (WebState.takeDiameter w.cfg (s.held w.cfg.sec) s.fr.cycle (webCount w s)
        (s.slotValue slot).toNat))
    else s) := by
    split
    · exact c.on_evaluateWeb (c.on_adjustWeb h)
    · exact h
  have h2 (w : Web) {t : State} (ht : P t) :
      P (if w.cfg.standbySlot = slot ∧ w.st.blocked then evaluateWeb i t else t) := by
    split
    · exact c.on_evaluateWeb ht
    · exact ht
  unfold webArrival
  split
  · exact h
  · next w _ =>
    dsimp only
    split
    · exact c.on_adjustWeb (h2 w (h1 w))
    · exact h2 w (h1 w)

theorem Steps.on_spliceArrival {slot} (h : P s) : P (spliceArrival slot s) := by
  unfold spliceArrival
  split
  · exact foldl_keeps (fun t i ht => c.on_webArrival ht) _ h
  · exact h

theorem Steps.on_spliceUpdate {sec} (h : P s) : P (spliceUpdate sec s) := by
  refine foldl_keeps (fun t i ht => ?_) _ h
  split
  · split
    · exact c.on_issueCheck (c.on_evaluateWeb ht)
    · exact ht
  · exact ht

theorem Steps.on_webEnterRun {i} (h : P s) : P (webEnterRun i s) := by
  unfold webEnterRun
  split
  · exact h
  · dsimp only
    split
    · exact c.on_adjustWeb h
    · have hw {f : WebState → WebState} : P (s.adjustWeb i f) := c.on_adjustWeb h
      have hd {w : Web} {f g : WebState → WebState} : P ((deleteCreated w (s.adjustWeb i f)).adjustWeb i g) :=
        c.on_adjustWeb (c.on_deleteCreated hw)
      split <;> split
      all_goals first | exact hw | exact hd

theorem Steps.on_spliceEnterRun (h : P s) : P (spliceEnterRun s) :=
  foldl_keeps (fun _ _ ht => c.on_webEnterRun ht) _ h

end
end Sys2Proof.Machine

/-! The gate decisions, the knife's outcomes, the tallies of the Stack and Gate Unit and the Order Planner's reactions
keep what `Steps` and its extensions name. -/
namespace Sys2Proof.Machine

/-! ### The piece list (R138, R140) -/

/-- The edges of a piece. -/
def Piece.ends (p : Piece) : Word × Word := (p.lead, p.trail)

/-- A piece list with the same edges is as sound. -/
theorem CutPlanner.sound.setPieces {p : CutPlanner} {l : List Piece} (hl : l.map Piece.ends = p.pieces.map Piece.ends)
    (h : p.sound) : ({ p with pieces := l } : CutPlanner).sound := by
  obtain ⟨h1, h2, h3, h4, h5, h6⟩ := h
  have hat (i : Nat) (x : Piece) (hx : l[i]? = some x) : ∃ y, p.pieces[i]? = some y ∧ x.lead = y.lead ∧ x.trail = y.trail := by
    have := congrArg (fun m => m[i]?) hl
    simp only [List.getElem?_map, hx, Option.map_some] at this
    obtain ⟨y, hy, he⟩ := Option.map_eq_some_iff.mp this.symm
    exact ⟨y, hy, (congrArg Prod.fst he).symm, (congrArg Prod.snd he).symm⟩
  have hlen : l.length = p.pieces.length := by simpa using congrArg List.length hl
  refine ⟨h1, h2, fun i x y hx hy => ?_, fun x hx => ?_, h5, fun x hx => ?_⟩
  · obtain ⟨x', hx', -, htrail⟩ := hat i x hx
    obtain ⟨y', hy', hlead, -⟩ := hat (i + 1) y hy
    exact hlead.trans ((h3 i x' y' hx' hy').trans htrail.symm)
  · rw [List.getLast?_eq_getElem?] at hx
    obtain ⟨x', hx', -, htrail⟩ := hat _ x hx
    exact (h4 x' (by rw [List.getLast?_eq_getElem?, ← hlen]; exact hx')).trans (congrArg some htrail.symm)
  · obtain ⟨i, hi⟩ := List.mem_iff_getElem?.mp hx
    obtain ⟨x', hx', hlead, htrail⟩ := hat i x hi
    rw [hlead, htrail]
    exact h6 x' (List.mem_of_getElem? hx')

theorem map_set_ends {l : List Piece} {i : Nat} {x y : Piece} (hx : l[i]? = some x) (hy : y.ends = x.ends) :
    (l.set i y).map Piece.ends = l.map Piece.ends := map_set_getElem l i x y Piece.ends hx hy

/-- R147: the first piece leaves the list. -/
theorem CutPlanner.sound.tailPieces {p : CutPlanner} {x : Piece} {rest : List Piece} (hx : p.pieces = x :: rest)
    (h : p.sound) : ({ p with pieces := rest } : CutPlanner).sound := by
  obtain ⟨h1, h2, h3, h4, h5, h6⟩ := h
  rw [hx] at h3 h4 h6
  refine ⟨h1, h2, fun i a b ha hb => h3 (i + 1) a b ha hb, fun a ha => h4 a ?_, h5,
    fun a ha => h6 a (List.mem_cons_of_mem x ha)⟩
  cases rest with
  | nil => simp at ha
  | cons b rest => simpa using ha

/-- R138, R140: a piece from the last actual cut to a new one, at least min_piece long. -/
theorem CutPlanner.sound.addPiece {p : CutPlanner} {q : Piece} {a : Word} {f : Bool}
    (hlead : q.lead = (p.lastCut <|> p.base).getD a) (htrail : q.trail = a)
    (hlong : (p.minPiece : Int) ≤ sdist q.lead q.trail) (h : p.sound) :
    ({ p with pieces := p.pieces ++ [q], lastCut := some a, frontFault := f } : CutPlanner).sound := by
  obtain ⟨h1, h2, h3, h4, h5, h6⟩ := h
  refine ⟨h1, h2, fun i x y hx hy => ?_, ?_, h5, fun x hx => ?_⟩
  · rcases Nat.lt_trichotomy (i + 1) p.pieces.length with hlt | heq | hgt
    · rw [List.getElem?_append_left (by omega)] at hx
      rw [List.getElem?_append_left hlt] at hy
      exact h3 i x y hx hy
    · rw [List.getElem?_append_left (by omega)] at hx
      rw [List.getElem?_append_right (by omega), heq, Nat.sub_self] at hy
      obtain rfl : q = y := by simpa using hy
      have hlast : p.pieces.getLast? = some x := by rw [List.getLast?_eq_getElem?, ← heq]; exact hx
      rw [hlead, h4 x hlast]
      rfl
    · rw [List.getElem?_eq_none (by simp; omega)] at hy
      cases hy
  · intro x hx
    obtain rfl : q = x := by simpa using hx
    rw [htrail]
  · rcases List.mem_append.mp hx with hx | hx
    · exact h6 x hx
    · obtain rfl := List.mem_singleton.mp hx
      have : (2000 : Int) ≤ p.minPiece := by exact_mod_cast h5
      omega

/-- R138, R141: the last actual cut set where there was none. -/
theorem CutPlanner.sound.setLast {p : CutPlanner} {w : Option Word} {f : Bool} (h : p.sound) :
    ({ p with lastCut := p.lastCut <|> w, frontFault := f } : CutPlanner).sound := by
  obtain ⟨h1, h2, h3, h4, h5, h6⟩ := h
  refine ⟨h1, h2, h3, fun x hx => ?_, h5, h6⟩
  rw [h4 x hx]
  rfl

section
variable {P : State → Prop} (c : Steps P) {s : State}
include c

/-! ### The gate decision (R144 to R146) -/

theorem Steps.on_noteLaneMissing {p r} (h : P s) : P (noteLaneMissing p r s) := by
  unfold noteLaneMissing
  split
  · split
    · exact c.on_sg (c.on_raise h)
    · exact h
  · exact h

theorem Steps.on_publishRoute {r} (h : P s) : P (publishRoute r s) := by
  unfold publishRoute
  split
  · exact h
  · exact c.on_publishGate (c.on_sg h)

theorem Steps.on_decidePiece {p} (h : P s) : P (decidePiece p s).1 := c.on_publishRoute (c.on_noteLaneMissing h)

theorem Steps.on_setRoute {i r} (h : P s) : P (setRoute i r s) := by
  unfold setRoute
  split
  · next hp => exact c.on_cp (fun hs => hs.setPieces (map_set_ends hp rfl)) h
  · exact h

theorem Steps.on_decideForeseen (h : P s) : P (decideForeseen s) := by
  unfold decideForeseen
  split
  · split
    · exact c.on_sg (c.on_decidePiece h)
    · exact h
  · exact h

theorem Steps.on_gateDecisions (h : P s) : P (gateDecisions s) := by
  refine c.on_decideForeseen (foldl_keeps (fun t i ht => ?_) _ h)
  split
  · split
    · exact c.on_setRoute (c.on_decidePiece ht)
    · exact ht
  · exact ht

theorem Steps.on_withdrawCheck {p} (h : P s) : P (withdrawCheck p s).1 := by
  unfold withdrawCheck
  split
  · split
    · split
      · exact c.on_publishRoute (c.on_raise h)
      · exact h
    · exact h
  · exact h

end

/-- R145 changes neither the Cut Planner nor the edges of the piece. -/
theorem publishRoute_cp (r : Route) (s : State) : (publishRoute r s).cp = s.cp := by
  unfold publishRoute publishGate
  split <;> simp

theorem withdrawCheck_frame (p : Piece) (s : State) :
    (withdrawCheck p s).1.cp = s.cp ∧ (withdrawCheck p s).2.ends = p.ends := by
  unfold withdrawCheck
  repeat' split
  all_goals simp [publishRoute_cp, Piece.ends]

section
variable {P : State → Prop} (c : Steps P) {s : State}
include c

/-! ### Completions (R138) -/

/-- R138: the piece that a cut forms, admitted with the last actual cut moved on. -/
theorem Steps.on_admitCut {p : Piece} {f : Bool} (hlead : p.lead = (s.cp.lastCut <|> s.cp.base).getD p.trail)
    (hlong : (s.cp.minPiece : Int) ≤ sdist p.lead p.trail) (h : P s) :
    P ((admitPiece p s).withCp { (admitPiece p s).cp with lastCut := some p.trail, frontFault := f }) := by
  let q : Piece := { p with route := (s.sg.forward.filter (·.lead == p.lead)).map (·.route) }
  let r := withdrawCheck q (s.withSg { s.sg with forward := none })
  obtain ⟨hcp, hends⟩ : r.1.cp = s.cp ∧ r.2.ends = q.ends := withdrawCheck_frame q _
  have hl : r.2.lead = p.lead := congrArg Prod.fst hends
  have ht : r.2.trail = p.trail := congrArg Prod.snd hends
  have hr : P r.1 := c.on_withdrawCheck (c.on_sg h)
  change P (r.1.withCp
    { r.1.cp with pieces := r.1.cp.pieces ++ [r.2], lastCut := some p.trail, frontFault := f })
  refine c.on_cp (fun hs => hs.addPiece ?_ ht ?_) hr
  · rw [hl, hcp, hlead]
  · rw [hl, ht, hcp]
    exact hlong

theorem Steps.on_cutMade {e a} (h : P s) : P (cutMade e a s) := by
  unfold cutMade
  refine c.on_cp (fun hs => hs.sublistPlan (List.tail_sublist _)) ?_
  have hbody : P (if decide ((s.cp.minPiece : Int) ≤ sdist ((s.cp.lastCut <|> s.cp.base).getD a) a) = true then
      let t := admitPiece
        { lead := (s.cp.lastCut <|> s.cp.base).getD a, trail := a, good := e.good, cause := e.cause, order := e.order
          cutFault := s.cp.frontFault || decide (s.cp.cutTol < (sdist e.target a).natAbs), route := none
          tallied := false } s
      t.withCp { t.cp with lastCut := some a, frontFault := decide (s.cp.cutTol < (sdist e.target a).natAbs) }
    else s.withCp { s.cp with lastCut := s.cp.lastCut <|> s.cp.base, frontFault := true }) := by
    split
    · next hl => exact c.on_admitCut rfl (of_decide_eq_true hl) h
    · exact c.on_cp (fun hs => hs.setLast) h
  dsimp only at hbody ⊢
  split
  · exact c.on_raise hbody
  · exact hbody

theorem Steps.on_cutComplete {tag x} (h : P s) : P (cutComplete tag x s) := by
  unfold cutComplete
  split
  · dsimp only
    split
    · exact c.on_planAndFeed (c.on_cutMade (c.on_missAhead h))
    · exact c.on_missAhead h
  · exact c.on_feedCheck h

theorem Steps.on_knifeTold {t} (h : P s) : P (knifeTold t s) := by
  unfold knifeTold
  split
  case h_1 => exact c.on_feedCheck h
  case h_2 => exact c.on_cutComplete h
  all_goals first | exact h | exact c.on_cutFailed h

theorem Steps.on_knifeUpdate (h : P s) : P (knifeUpdate s) := c.on_planAndFeed (c.on_distanceCheck h)

theorem Steps.on_lostCut {e} (h : P s) : P (lostCut e s) := by
  unfold lostCut
  split
  · exact c.on_missHead h
  · exact c.on_raise (c.on_cp (fun hs => hs.sublistPlan List.filter_sublist) h)

theorem Steps.on_knifeEnterRun (h : P s) : P (knifeEnterRun s) := by
  have hf : P (s.withCp { s.cp with plan := s.cp.plan.filter (·.sent.isSome) }) :=
    c.on_cp (fun hs => hs.sublistPlan List.filter_sublist) h
  unfold knifeEnterRun
  refine c.on_planAndFeed (c.on_cp (fun hs => hs.setLast) (foldl_keeps (fun t e ht => ?_) _ hf))
  split
  · split
    · exact ht
    · exact c.on_lostCut ht
  · exact ht

/-! ### Stacks and lanes without tallies (R147 to R149) -/

theorem Steps.on_dueAtOnce {k n} (h : P s) : P (dueAtOnce k n s) := by
  unfold dueAtOnce
  split
  · exact c.on_sg h
  · split
    · exact c.on_sg h
    · exact c.on_sg h

theorem Steps.on_stackDue (h : P s) : P (stackDue s) := by
  unfold stackDue
  split
  · exact h
  · split
    · exact h
    · dsimp only
      repeat' split
      all_goals first | exact h | exact c.on_sg (c.on_dueAtOnce h)

theorem Steps.on_stackPiece {k} (h : P s) : P (stackPiece k s) := by
  unfold stackPiece
  split
  · exact c.on_sg h
  · refine c.on_sg ?_
    split
    · split
      · exact c.on_dueAtOnce h
      · exact h
    · exact h

theorem Steps.on_laneStep (h : P s) : P (laneStep s) := by
  unfold laneStep
  split
  · split
    · split
      · dsimp only
        split
        · exact c.on_sg (c.on_issueCommand h)
        · exact c.on_issueCommand h
      · exact h
    · exact h
  · exact h

theorem Steps.on_stackerFailed {x n l} (h : P s) : P (stackerFailed x n l s) := by
  unfold stackerFailed
  split
  · exact c.on_raise h
  · exact c.on_raise h

theorem Steps.on_endStacker {tag} {react : StackerCommand → State → State} (hr : ∀ x t, P t → P (react x t)) (h : P s) :
    P (endStacker tag react s) := by
  unfold endStacker
  split
  · exact hr _ _ (c.on_sg h)
  · exact h

theorem Steps.on_stackEnterRun (h : P s) : P (stackEnterRun s) := by
  refine foldl_keeps (fun t x ht => ?_) _ (c.on_sg h)
  split
  · exact ht
  · dsimp only
    split
    · exact c.on_sg ht
    · exact c.on_stackerFailed (c.on_sg ht)

end

theorem decidePiece_cp (p : Piece) (s : State) : (decidePiece p s).1.cp = s.cp := by
  have : (noteLaneMissing p (routeOf s p) s).cp = s.cp := by
    unfold noteLaneMissing
    repeat' split
    all_goals simp
  rw [decidePiece, publishRoute_cp, this]

/-! ### The order queue's bounds (R78, R79, R94) -/

/-- A change of the orders that keeps their keys. -/
theorem Planner.held.mapQueue {p : Planner} {f : Order → Order} (hf : ∀ o ∈ p.queue, (f o).key = o.key) (h : p.held) :
    ({ p with queue := p.queue.map f } : Planner).held := by
  obtain ⟨h1, h2, h3⟩ := h
  refine ⟨by simpa using h1, ?_, h3⟩
  have : (p.queue.map f).map (·.key) = p.queue.map (·.key) := by
    rw [List.map_map]
    exact List.map_congr_left hf
  exact this ▸ h2

theorem Planner.held.filterQueue {p : Planner} {f : Order → Bool} (h : p.held) :
    ({ p with queue := p.queue.filter f } : Planner).held := by
  obtain ⟨h1, h2, h3⟩ := h
  exact ⟨(List.length_filter_le _ _).trans h1, h2.sublist (List.filter_sublist.map _), h3⟩

theorem pushHistory_length_le {x : Completion} {l : List Completion} (h : l.length ≤ Config.historyCapacity) :
    (pushHistory x l).length ≤ Config.historyCapacity := by
  unfold pushHistory
  split
  · next hlt => simpa using hlt
  · have : 0 < Config.historyCapacity := by decide
    simp
    omega

section
variable {P : State → Prop} (c : TallySteps P) {s : State}
include c

theorem TallySteps.on_adjustOrder {k f} (hf : ∀ o, s.op.held → (f o).key = o.key) (h : P s) :
    P (s.adjustOrder k f) := by
  refine c.on_op (fun hs => hs.mapQueue fun o _ => ?_) h
  split
  · exact hf o hs
  · rfl

/-! ### Tallies, drops and closes (R147, R148, R150) -/

theorem TallySteps.on_countPiece {p r} (h : P s) : P (countPiece p r s) := by
  unfold countPiece
  split
  · exact c.on_sg h
  · split
    · exact c.on_stackDue (c.on_stackPiece (c.on_adjustOrder (fun _ _ => rfl) h))
    · exact c.on_adjustOrder (fun _ _ => rfl) h

theorem TallySteps.on_takePieces {fuel} (h : P s) : P (takePieces fuel s) := by
  induction fuel generalizing s with
  | zero => exact h
  | succ n ih =>
    unfold takePieces
    split
    · next p rest m hp hm =>
      split
      · have hd : P (match p.route with
              | some r => (s, r)
              | none => decidePiece p s).1 := by
          split
          · exact h
          · exact c.on_decidePiece h
        have hcp : (match p.route with
              | some r => (s, r)
              | none => decidePiece p s).1.cp = s.cp := by
          split
          · rfl
          · exact decidePiece_cp p s
        have hw := c.on_cp (fun hs => hs.tailPieces ((congrArg CutPlanner.pieces hcp).trans hp)) hd
        refine ih ?_
        split
        · exact hw
        · exact c.on_countPiece hw
      · exact h
    · exact h

theorem TallySteps.on_issueDrop (h : P s) : P (issueDrop s).1 := by
  unfold issueDrop
  split
  · dsimp only
    split
    · exact c.on_sg (c.on_adjustOrder (fun _ _ => rfl) (c.on_issueCommand h))
    · exact c.on_issueCommand h
  · exact h

theorem TallySteps.on_dropStep {fuel} (h : P s) : P (dropStep fuel s) := by
  induction fuel generalizing s with
  | zero => exact h
  | succ n ih =>
    unfold dropStep
    dsimp only
    split
    · exact ih (c.on_stackDue (c.on_issueDrop h))
    · exact c.on_issueDrop h

theorem TallySteps.on_issueDrops (h : P s) : P (issueDrops s) := c.on_dropStep h

theorem TallySteps.on_tallyRest {k} (h : P s) : P (tallyRest k s) := by
  refine foldl_keeps (fun t i ht => ?_) _ h
  split
  · next p hp =>
    split
    · have hd : P (match p.route with
            | some r => (t, r)
            | none => (publishRoute (closingRoute t p) t, closingRoute t p)).1 := by
        split
        · exact ht
        · exact c.on_publishRoute ht
      have hcp : (match p.route with
            | some r => (t, r)
            | none => (publishRoute (closingRoute t p) t, closingRoute t p)).1.cp = t.cp := by
        split
        · rfl
        · exact publishRoute_cp _ t
      exact c.on_countPiece (c.on_cp (fun hs =>
        hs.setPieces (map_set_ends (x := p) ((congrArg (·.pieces[i]?) hcp).trans hp) rfl)) hd)
    · exact ht
  · exact ht

theorem TallySteps.on_closeRun {k} (h : P s) : P (closeRun k s) := by
  unfold closeRun
  split
  · dsimp only
    split
    · exact c.on_issueDrops (c.on_dueAtOnce (c.on_sg h))
    · exact c.on_sg h
  · exact h

theorem TallySteps.on_recordClose {o} (h : P s) : P (recordClose o s) :=
  c.on_sg (c.on_raise (c.on_op (fun hs => ⟨hs.filterQueue.1, hs.filterQueue.2.1, pushHistory_length_le hs.2.2⟩) h))

theorem TallySteps.on_closeOrder {k} (h : P s) : P (closeOrder k s) := by
  unfold closeOrder
  split
  · exact h
  · dsimp only
    split
    · exact c.on_recordClose (c.on_closeRun (c.on_tallyRest h))
    · exact c.on_closeRun (c.on_tallyRest h)

theorem TallySteps.on_stackerTold {t} (h : P s) : P (stackerTold t s) := by
  have hfail {tag n l} : P (issueDrops (endStacker tag (fun x s => stackerFailed x n l s) s)) :=
    c.on_issueDrops (c.on_endStacker (fun _ _ ht => c.on_stackerFailed ht) h)
  unfold stackerTold
  split
  case h_1 => exact c.on_issueDrops h
  case h_2 =>
    refine c.on_issueDrops (c.on_endStacker (fun x u hu => ?_) h)
    dsimp only
    split
    · exact c.on_stackerFailed hu
    · exact hu
  all_goals first | exact h | exact hfail

end
end Sys2Proof.Machine

/-! The Order Planner's reactions, the Path Tracker's and the end of an event keep what `CommitSteps` and `TrackSteps`
name. -/
namespace Sys2Proof.Machine

/-! ### Commits of the Order Planner (R78, R86) -/

/-- The Order Planner is no block that the other blocks' operations change. -/
theorem steps_op (p : Planner) : Steps (fun t => t.op = p) where
  on_raise h := by simpa using h
  on_wm h := h
  on_sc h := h
  on_sp h := h
  on_sg h := h
  on_ss h := h
  on_ccu _ h := h
  on_cp _ h := h

theorem Commits.of_queue {p x : Planner} (hq : x.queue = p.queue) (hh : x.history = p.history) : Commits p x where
  stripped := by rw [hq]
  history := hh
  starts hn o ho y hy hk _ := by
    rw [hq] at hy
    rw [List.inj_on_of_nodup_map hn hy ho hk]

theorem Commits.setBlock (p : Planner) (b : Option BlockCause) : Commits p { p with block := b } := .of_queue rfl rfl

theorem Commits.setProjection (p : Planner) (b : Projection) : Commits p { p with bproj := b } := .of_queue rfl rfl

theorem Commits.setRunning (p : Planner) (g t : Option Nat) (b : Option BlockCause) :
    Commits p { p with runningGrade := g, runningPattern := t, block := b } := .of_queue rfl rfl

/-- A change of the orders one by one. -/
theorem Commits.of_map {p : Planner} {f : Order → Order} {x : Planner} (hx : x.queue = p.queue.map f)
    (hh : x.history = p.history) (hf : ∀ o, (f o).stripped = o.stripped)
    (hs : (p.queue.map (·.key)).Nodup → ∀ o ∈ p.queue, o.start.isSome = true → (f o).start = o.start) :
    Commits p x where
  stripped := by
    rw [hx, List.map_map]
    exact List.map_congr_left fun o _ => hf o
  history := hh
  starts hn o ho y hy hk hsome := by
    rw [hx] at hy
    obtain ⟨z, hz, rfl⟩ := List.mem_map.mp hy
    have hkey : (f z).key = z.key := by simpa [Order.stripped] using congrArg Order.key (hf z)
    obtain rfl : z = o := List.inj_on_of_nodup_map hn hz ho (hkey.symm.trans hk)
    exact hs hn z hz hsome

theorem Order.designate_stripped (k : Option OrderKey) (o : Order) : (o.designate k).stripped = o.stripped := by
  unfold Order.designate
  split <;> rfl

theorem Order.designate_start (k : Option OrderKey) (o : Order) : (o.designate k).start = o.start := by
  unfold Order.designate
  split <;> rfl

/-- With distinct keys, an order with the key of the one that R78 makes NEXT has no start boundary. -/
theorem start_none_of_nextOrder {s : State} {n o : Order} (hn : s.nextOrder = some n)
    (hkeys : (s.op.queue.map (·.key)).Nodup) (ho : o ∈ s.op.queue) (hk : o.key = n.key) : o.start = none := by
  have hmem : n ∈ s.op.queue := List.mem_of_find?_eq_some hn
  obtain rfl := List.inj_on_of_nodup_map hkeys ho hmem hk
  simpa using List.find?_some hn

theorem nextOrder_congr {s t : State} (h : t.op = s.op) : t.nextOrder = s.nextOrder := by
  unfold State.nextOrder
  rw [h]

/-- The stations are no concern of planning, commits and the map. -/
theorem quietSteps_sp (p : SlitterPair) : QuietSteps (fun t => t.sp = p) where
  on_raise h := by simpa using h
  on_wm h := h
  on_sc h := h
  on_ss h := h
  on_commands _ h := h
  on_plan _ h := h

theorem pairState_congr {s t : State} (h : t.sp = s.sp) : t.pairState = s.pairState := by
  cases s
  cases t
  cases h
  rfl

theorem patternDiffers_congr {s t : State} {n : Order} (h : t.op.runningPattern = s.op.runningPattern) :
    patternDiffers t n = patternDiffers s n := by
  unfold patternDiffers
  rw [h]

/-- R84: an attempt that nothing blocks and that needs a swap has the pair STEADY. -/
theorem steady_of_unblocked {s : State} {n : Order} (h : blockedBy s n = none) (hp : patternDiffers s n = true) :
    s.pairState = .steady := by
  unfold blockedBy at h
  split at h
  · cases h
  · split at h
    · cases h
    · next hpair => simpa [hp] using hpair

section
variable {P : State → Prop} (c : SettleSteps P) {s : State}
include c

theorem SettleSteps.on_refreshFrom {k} (h : P s) : P (refreshFrom k s) := by
  unfold refreshFrom
  dsimp only
  split
  · exact h
  · exact c.on_commits (.of_map rfl rfl (Order.designate_stripped _) fun _ o _ _ => Order.designate_start _ o) h

theorem SettleSteps.on_project (h : P s) : P (project s) := c.on_commits (.setProjection _ _) h

omit c in
theorem QuietSteps.on_spliceTarget (c : QuietSteps P) {w b} (h : P s) : P (spliceTarget w b s).1 := by
  unfold spliceTarget
  split
  · split
    · exact c.on_inverseChain h
    · exact h
  · exact h

omit c in
theorem QuietSteps.on_targetDistance (c : QuietSteps P) {w b} (h : P s) : P (targetDistance w b s).1 := by
  unfold targetDistance
  dsimp only
  split <;> exact c.on_spliceTarget h

omit c in
theorem QuietSteps.on_anyWeb (c : QuietSteps P) {l b t} (h : P s) : P (anyWeb l b t s).1 := by
  refine foldl_keeps_fst (fun r w hr => ?_) _ h
  exact c.on_targetDistance hr

omit c in
theorem QuietSteps.on_triggered (c : QuietSteps P) (h : P s) : P (triggered s).1 := by
  unfold triggered
  split
  · exact h
  · split
    · exact h
    · exact h
    · split
      · dsimp only
        split
        · exact h
        · split
          · exact h
          · exact c.on_anyWeb h
      · exact h

omit c in
theorem QuietSteps.on_placeBoundary (c : QuietSteps P) {l n b fuel k} (h : P s) : P (placeBoundary l n b fuel k s).1 := by
  induction fuel generalizing s k with
  | zero => exact h
  | succ m ih =>
    unfold placeBoundary
    dsimp only
    split
    · split
      · exact ih (c.on_anyWeb h)
      · exact c.on_anyWeb h
    · exact ih h

omit c in
theorem triggered_next {a : Attempt} (h : (triggered s).2 = some a) : a.next = s.nextOrder := by
  unfold triggered at h
  dsimp only at h
  split at h
  · cases h
  · split at h
    · cases h
    · next hn =>
      obtain rfl := Option.some.inj h
      exact hn.symm
    · next hn =>
      split at h
      · split at h
        · obtain rfl := Option.some.inj h
          rfl
        · split at h
          · cases h
          · next hsome =>
            split at h
            · obtain rfl := Option.some.inj h
              rfl
            · cases h
      · cases h

theorem SettleSteps.on_blockAttempt {a x} (h : P s) : P (blockAttempt a x s) := by
  unfold blockAttempt
  split
  · exact h
  · exact c.on_raise (c.on_commits (.setBlock _ _) h)

/-- R86 step 1: no order that has begun gets another start. -/
theorem SettleSteps.on_attachBoundary {k b} {n : Option Order} (hn : n = s.nextOrder) (h : P s) :
    P (attachBoundary k (n.map (·.key)) b s) := by
  refine c.on_refreshFrom (c.on_commits (.of_map rfl rfl (fun o => ?_) (fun hkeys o ho hsome => ?_)) h)
  · dsimp only
    split <;> split <;> rfl
  · have hne : n.map (·.key) ≠ some o.key := by
      intro hk
      obtain ⟨m, hm, hkey⟩ := Option.map_eq_some_iff.mp hk
      have := start_none_of_nextOrder (hn.symm.trans hm) hkeys ho hkey.symm
      simp [this] at hsome
    dsimp only
    rw [if_neg (by split <;> exact hne)]
    split <;> rfl

omit c in
theorem QuietSteps.on_commitWebs (c : QuietSteps P) {l g b} (h : P s) : P (commitWebs l g b s) := by
  refine foldl_keeps (fun t w ht => ?_) _ h
  dsimp only
  split
  · exact c.on_planGrade (c.on_spliceTarget ht)
  · exact c.on_spliceTarget ht

/-- R86 step 2: a swap is made where the pair is STEADY, if one is due. -/
theorem SettleSteps.on_commitNext {n l b k} (hsteady : patternDiffers s n = true → s.pairState = .steady) (h : P s) :
    P (commitNext n l b k s) := by
  unfold commitNext
  refine c.on_raise (c.on_commits (.setRunning _ _ _ _) (c.on_placeSwitches (c.on_commitWebs ?_)))
  split
  · next hp => exact c.on_createSwap (hsteady hp) h
  · exact h

omit c in
/-- R85, R86: a boundary created and attached leaves the stations and the running pattern. -/
theorem commitRecords (d : Nat) (ch : Bool) (p : Word) (b : BoundaryRef) (s : State) (k n : Option OrderKey) :
    (attachBoundary k n b (createBoundary d p n ch s).1).sp = s.sp ∧
      (attachBoundary k n b (createBoundary d p n ch s).1).op.runningPattern = s.op.runningPattern := by
  have hsp : (createBoundary d p n ch s).1.sp = s.sp := (quietSteps_sp _).on_createBoundary rfl
  have hop : (createBoundary d p n ch s).1.op = s.op := (steps_op _).on_createBoundary rfl
  have hrefresh (o : Option OrderKey) (t : State) : (refreshFrom o t).sp = t.sp ∧
      (refreshFrom o t).op.runningPattern = t.op.runningPattern := by
    unfold refreshFrom
    dsimp only
    split <;> exact ⟨rfl, rfl⟩
  obtain ⟨h1, h2⟩ := hrefresh (createBoundary d p n ch s).1.nextKey _
  exact ⟨h1.trans hsp, h2.trans (show (createBoundary d p n ch s).1.op.runningPattern = _ by rw [hop])⟩

theorem SettleSteps.on_commitAt {a l p k} (ha : a.next = s.nextOrder)
    (hsteady : ∀ n, a.next = some n → patternDiffers s n = true → s.pairState = .steady) (h : P s) :
    P (commitAt a l p k s).1 := by
  obtain ⟨next, bp⟩ := a
  have hb {d : Nat} {ch : Bool} : P (createBoundary d p (next.map (·.key)) ch s).1 := c.on_createBoundary h
  have hatt {d : Nat} {ch : Bool} {k : Option OrderKey} {b : BoundaryRef} :
      P (attachBoundary k (next.map (·.key)) b (createBoundary d p (next.map (·.key)) ch s).1) := by
    refine c.on_attachBoundary (ha.trans (nextOrder_congr ?_).symm) hb
    exact (steps_op s.op).on_createBoundary rfl
  cases next with
  | none =>
    unfold commitAt
    split
    · exact h
    · dsimp only
      split
      · dsimp only
        exact c.on_blockAttempt hb
      · exact c.on_raise (c.on_commits (.setBlock _ _) hatt)
  | some n =>
    unfold commitAt
    split
    · exact h
    · dsimp only
      split
      · dsimp only
        exact c.on_blockAttempt hb
      · dsimp only
        refine c.on_commitNext (fun hp => ?_) hatt
        rw [pairState_congr (commitRecords ..).1]
        exact hsteady n rfl (by rwa [patternDiffers_congr (commitRecords ..).2] at hp)

theorem SettleSteps.on_attemptCommit (h : P s) : P (attemptCommit s).1 := by
  have ht : P (triggered s).1 := c.on_triggered h
  have hop : (triggered s).1.op = s.op := (steps_op s.op).on_triggered rfl
  unfold attemptCommit
  dsimp only
  split
  · exact ht
  · next a ha =>
    split
    · exact c.on_blockAttempt ht
    · next hblock =>
      split
      · exact c.on_blockAttempt (c.on_placeBoundary ht)
      · refine c.on_commitAt ?_ (fun n hn hp => ?_) (c.on_placeBoundary ht)
        · exact (triggered_next ha).trans
            (nextOrder_congr (((steps_op _).on_placeBoundary rfl).trans hop)).symm
        · rw [hn, Option.bind_some] at hblock
          rw [patternDiffers_congr (congrArg Planner.runningPattern ((steps_op _).on_placeBoundary rfl))] at hp
          rw [pairState_congr ((quietSteps_sp _).on_placeBoundary rfl)]
          exact steady_of_unblocked hblock hp

/-! ### The end of an event (R28, R81, R83) -/

theorem SettleSteps.on_announceChange (h : P s) : P (announceChange s) := by
  unfold announceChange
  split
  · exact h
  · exact c.on_project (c.on_replanForChange (c.on_wm h))

theorem SettleSteps.on_settleLoop {fuel b f a} (h : P s) : P (settleLoop fuel b f a s) := by
  induction fuel generalizing s b f a with
  | zero => exact h
  | succ n ih =>
    have hloop {t : State} {go : Bool} (ht : P t) : P (if go = true then
        if (attemptCommit t).2 = true then settleLoop n t.signature true true (attemptCommit t).1
        else (attemptCommit t).1
      else t) := by
      split
      · split
        · exact ih (c.on_attemptCommit ht)
        · exact c.on_attemptCommit ht
      · exact ht
    refine hloop ?_
    split
    · exact c.on_project (c.on_announceChange h)
    · exact c.on_announceChange h

theorem SettleSteps.on_settle {b f a} (h : P s) : P (settle b f a s) := c.on_settleLoop h

theorem SettleSteps.on_event {f : State → State} (hf : ∀ t, P t → P (f t)) (h : P s) : P (event f s) :=
  c.on_settle (hf _ h)

theorem SettleSteps.on_quantityChanged {k} (h : P s) : P (quantityChanged k s) := by
  unfold quantityChanged
  split
  · split
    · exact c.on_replanForOrder h
    · exact h
  · exact h

end

/-! ### The same for properties that any swap keeps -/

section
variable {P : State → Prop} (c : CommitSteps P) {s : State}
include c

theorem CommitSteps.settles : SettleSteps P :=
  { c with on_createSwap := fun _ h => c.on_createSwap h }

theorem CommitSteps.on_refreshFrom {k} (h : P s) : P (refreshFrom k s) := c.settles.on_refreshFrom h
theorem CommitSteps.on_refreshNext (h : P s) : P (refreshNext s) := c.on_refreshFrom h
theorem CommitSteps.on_settle {b f a} (h : P s) : P (settle b f a s) := c.settles.on_settle h

theorem CommitSteps.on_event {f : State → State} (hf : ∀ t, P t → P (f t)) (h : P s) : P (event f s) :=
  c.settles.on_event hf h

theorem CommitSteps.on_quantityChanged {k} (h : P s) : P (quantityChanged k s) := c.settles.on_quantityChanged h
theorem CommitSteps.on_announceChange (h : P s) : P (announceChange s) := c.settles.on_announceChange h

end

/-! ### The movement of orders (R80) -/

theorem Order.startCut_key (o : Order) : o.startCut.key = o.key := by
  unfold Order.startCut
  split <;> rfl

theorem Order.endCut_key (o : Order) : o.endCut.key = o.key := by
  unfold Order.endCut
  split <;> rfl

theorem Order.endStacked_key (o : Order) : o.endStacked.key = o.key := by
  unfold Order.endStacked
  split <;> rfl

theorem Order.sweep_key (a b : Option Word) (o : Order) : (o.sweep a b).key = o.key := by
  have h1 : (if boundaryBehind o.start a then o.startCut else o).key = o.key := by
    split
    · exact o.startCut_key
    · rfl
  unfold Order.sweep
  generalize (if boundaryBehind o.start a then o.startCut else o) = x at h1
  dsimp only
  split <;> split <;> simp [Order.endCut_key, Order.endStacked_key, h1]

section
variable {P : State → Prop} (c : TallySteps P) {s : State}
include c

theorem TallySteps.on_takePassage {p} (h : P s) : P (takePassage p s) := by
  unfold takePassage
  split
  · split
    · refine c.on_op (fun hs => hs.mapQueue fun o _ => ?_) h
      dsimp only
      split <;> split <;> simp [Order.endCut_key, Order.startCut_key]
    · refine c.on_op (fun hs => hs.mapQueue fun o _ => ?_) h
      split
      · exact o.endStacked_key
      · rfl
    · exact h
  · exact h

theorem TallySteps.on_sweepOrders (h : P s) : P (sweepOrders s) :=
  c.on_op (fun hs => hs.mapQueue fun o _ => o.sweep_key _ _) h

theorem TallySteps.on_closeOrders (h : P s) : P (closeOrders s) :=
  c.on_refreshNext (foldl_keeps (fun _ _ ht => c.on_closeOrder ht) _ h)

/-! ### What the blocks do at a track update (log 8) -/

theorem TallySteps.on_boardUpdate {sec} (h : P s) : P (boardUpdate sec s) := by
  have h1 := c.on_sweepOrders (c.on_retireMarks (c.on_markSeen (sec := sec)
    (foldl_keeps (fun _ p ht => c.on_takePassage (p := p) ht) (s.passages sec) h)))
  have h2 := c.on_knifeUpdate (c.on_announceChange (c.on_slitterUpdate (c.on_setpointUpdate (sec := sec) h1)))
  unfold boardUpdate
  exact c.on_laneStep (c.on_issueDrops (c.on_stackDue (c.on_closeOrders (c.on_takePieces (c.on_gateDecisions h2)))))

omit c in
theorem Steps.on_webUpdate (c : Steps P) {sec} (h : P s) : P (webUpdate sec s) :=
  c.on_spliceUpdate (c.on_setpointUpdate (c.on_markSeen h))

theorem TallySteps.on_afterUpdate {sec} (h : P s) : P (afterUpdate sec s) := by
  unfold afterUpdate
  split
  · dsimp only
    split
    · exact c.on_boardUpdate (c.on_jointMisses (c.on_carryInto h))
    · exact c.on_webUpdate (c.on_jointMisses (c.on_carryInto h))
  · exact c.on_markSeen h

end

section
variable {P : State → Prop} (c : TrackSteps P) {s : State}
include c

/-! ### Joint sensors (R35 to R38) -/

theorem TrackSteps.on_adjustTrack {i f} (h : P s) : P (s.adjustTrack i f) := c.on_pt h
theorem TrackSteps.on_adjustLink {i f} (h : P s) : P (s.adjustLink i f) := c.on_pt h

theorem TrackSteps.on_correctLink {sec l slot x y} (h : P s) : P (correctLink sec l slot x y s) :=
  foldl_keeps (fun _ _ ht => c.on_noteChange (c.on_listMark (c.on_unlistMark ht))) _ (c.on_adjustLink h)

theorem TrackSteps.on_matchedJoint {sec pt x pj m} (h : P s) : P (matchedJoint sec pt x pj m s) := by
  unfold matchedJoint
  dsimp only
  repeat' split
  all_goals
    first
    | exact c.on_raise (c.on_noteChange (c.on_listMark (c.on_unlistMark h)))
    | exact c.on_correctLink (c.on_raise (c.on_noteChange (c.on_listMark (c.on_unlistMark h))))
    | exact c.on_correctLink (c.on_raise (c.on_raise (c.on_noteChange (c.on_listMark (c.on_unlistMark h)))))

theorem TrackSteps.on_jointDetection {sec pt x w l t n pj} (h : P s) : P (jointDetection sec pt x w l t n pj s) := by
  unfold jointDetection
  split
  · exact c.on_matchedJoint h
  · exact c.on_raise (c.on_placeMark h)

theorem TrackSteps.on_jointArrival {sec pt p slot} (h : P s) : P (jointArrival sec pt p slot s) := by
  unfold jointArrival
  split
  · dsimp only
    split
    · exact c.on_adjustMap h
    · split
      · exact c.on_adjustMap h
      · exact c.on_jointDetection (c.on_adjustMap h)
  · exact h

theorem TrackSteps.on_mapArrival {slot} (h : P s) : P (mapArrival slot s) := by
  refine foldl_keeps (fun t sec ht => ?_) _ h
  split
  · exact ht
  · refine foldl_keeps (fun u ip hu => ?_) _ ht
    split
    · split
      · exact c.on_jointArrival hu
      · exact hu
    · exact hu

/-! ### The Path Tracker (01) -/

theorem TrackSteps.on_rebaseSection {sec} (h : P s) : P (rebaseSection sec s) := by
  unfold rebaseSection
  split
  · exact h
  · split
    · exact c.on_adjustLink h
    · exact h

theorem TrackSteps.on_trackUpdate {sec a b} (h : P s) : P (trackUpdate sec a b s) := by
  unfold trackUpdate
  dsimp only
  split
  · exact c.on_afterUpdate (c.on_adjustTrack (c.on_rebaseSection (c.on_adjustTrack h)))
  · exact c.on_adjustTrack (c.on_adjustTrack h)

theorem TrackSteps.on_takeOver {sec x f} (h : P s) : P (takeOver sec x f s) := c.on_raise (c.on_adjustTrack h)

theorem TrackSteps.on_primaryArrival {sec x raw} (h : P s) : P (primaryArrival sec x raw s) := by
  have hpair {t : State} {n : Word} (ht : P t) : P (match x.cfg.backupSlot with
      | some b => if t.fresh b && t.arrivedNow b then pairBackup sec b n t else t
      | none => t) := by
    split
    · split
      · exact c.on_adjustTrack ht
      · exact ht
    · exact ht
  refine c.on_trackUpdate (hpair ?_)
  split
  · exact h
  · exact c.on_takeOver h

theorem TrackSteps.on_backupArrival {sec x slot raw} (h : P s) : P (backupArrival sec x slot raw s) := by
  unfold backupArrival
  dsimp only
  split
  · split
    · exact c.on_adjustTrack h
    · exact h
  · exact c.on_trackUpdate h
  · exact c.on_trackUpdate (c.on_takeOver h)

theorem TrackSteps.on_referenceArrival {sec x} (h : P s) : P (referenceArrival sec x s) := by
  unfold referenceArrival
  split
  · exact c.on_raise (c.on_adjustTrack h)
  · exact h

omit c in
/-- Three looks at a section in turn, each with its own reaction. -/
theorem sectionLooks_keep {f g k : Section → State → State} {a b d : Section → Prop} [DecidablePred a]
    [DecidablePred b] [DecidablePred d] {sec : Nat} (hf : ∀ x t, P t → P (f x t)) (hg : ∀ x t, P t → P (g x t))
    (hk : ∀ x t, P t → P (k x t)) (h : P s) :
    P (let s := match s.sectionAt sec with
        | some x => if a x then f x s else s
        | none => s
      let s := match s.sectionAt sec with
        | some x => if b x then g x s else s
        | none => s
      match s.sectionAt sec with
      | some x => if d x then k x s else s
      | none => s) := by
  have look {p : Section → Prop} [DecidablePred p] {r : Section → State → State} (hr : ∀ x t, P t → P (r x t))
      {t : State} (ht : P t) : P (match t.sectionAt sec with
        | some x => if p x then r x t else t
        | none => t) := by
    split
    · split
      · exact hr _ _ ht
      · exact ht
    · exact ht
  exact look hk (look hg (look hf h))

theorem TrackSteps.on_sectionArrival {slot sec} (h : P s) : P (sectionArrival slot sec s) :=
  sectionLooks_keep (fun _ _ ht => c.on_primaryArrival ht) (fun _ _ ht => c.on_backupArrival ht)
    (fun _ _ ht => c.on_referenceArrival ht) h

theorem TrackSteps.on_trackArrival {slot} (h : P s) : P (trackArrival slot s) :=
  foldl_keeps (fun _ _ ht => c.on_sectionArrival ht) _ h

theorem TrackSteps.on_reckonOrHold {sec x} (h : P s) : P (reckonOrHold sec x s) := by
  unfold reckonOrHold
  split <;> exact c.on_raise (c.on_adjustTrack h)

theorem TrackSteps.on_backupTakeOver {sec x slot} (h : P s) : P (backupTakeOver sec x slot s) := by
  unfold backupTakeOver
  dsimp only
  split
  · exact c.on_trackUpdate (c.on_raise (c.on_adjustTrack h))
  · exact c.on_raise (c.on_adjustTrack h)

theorem TrackSteps.on_primaryStale {sec x} (h : P s) : P (primaryStale sec x s) := by
  unfold primaryStale
  split
  · split
    · split
      · exact c.on_backupTakeOver h
      · exact c.on_reckonOrHold h
    · exact c.on_reckonOrHold h
  · exact h

theorem TrackSteps.on_backupStale {sec x} (h : P s) : P (backupStale sec x s) := by
  unfold backupStale
  dsimp only
  split
  · exact c.on_reckonOrHold (c.on_adjustTrack h)
  · exact c.on_adjustTrack h

theorem TrackSteps.on_referenceStale {sec x} (h : P s) : P (referenceStale sec x s) := by
  unfold referenceStale
  split
  · exact c.on_raise (c.on_adjustTrack h)
  · exact h

theorem TrackSteps.on_sectionStale {slot sec} (h : P s) : P (sectionStale slot sec s) :=
  sectionLooks_keep (fun _ _ ht => c.on_primaryStale ht) (fun _ _ ht => c.on_backupStale ht)
    (fun _ _ ht => c.on_referenceStale ht) h

theorem TrackSteps.on_trackStale {slot} (h : P s) : P (trackStale slot s) :=
  foldl_keeps (fun _ _ ht => c.on_sectionStale ht) _ h

theorem TrackSteps.on_reckonStep {sec} (h : P s) : P (reckonStep sec s) := by
  unfold reckonStep
  split
  · exact h
  · dsimp only
    split
    · exact c.on_trackUpdate (c.on_adjustTrack h)
    · exact h

theorem TrackSteps.on_trackExpiry (h : P s) : P (trackExpiry s) :=
  c.on_pt (foldl_keeps (fun _ _ ht => c.on_event (fun _ hu => c.on_reckonStep hu) ht) _ h)

end
end Sys2Proof.Machine

/-! The Field Relay, the requests and the modes keep what `RelaySteps` and its extensions name. -/
namespace Sys2Proof.Machine

/-- What FR keeps between resets and changes of its state: the state itself and the own address (R43). -/
abbrev FieldRelay.standing (x : FieldRelay) : FrState × BitVec 6 := (x.state, x.ownAddr)

/-- A property that the Field Relay's reactions keep too: it survives a change of the relay in which FR keeps its
state and its address. -/
structure RelaySteps (P : State → Prop) : Prop extends TrackSteps P where
  on_fr : ∀ {s x}, x.standing = s.fr.standing → P s → P (s.withFr x)

/-- A property that the requests other than MODE keep too: it survives a change of the sticky flags. -/
structure RequestSteps (P : State → Prop) : Prop extends RelaySteps P where
  on_flags : ∀ {s x}, x.events = s.mu.events → x.replies = s.mu.replies → x.mode = s.mu.mode → P s → P (s.withMu x)

/-- A property that a change of the mode keeps too. -/
structure BodySteps (P : State → Prop) : Prop extends RequestSteps P where
  on_mode : ∀ {s x}, x.events = s.mu.events → x.replies = s.mu.replies → P s → P (s.withMu x)

/-- A property that survives any change of the event and the reply queue. -/
structure QueueSteps (P : State → Prop) : Prop extends BodySteps P where
  on_mu : ∀ {s x}, P s → P (s.withMu x)

/-! ### The Field Relay (03) -/

section
variable {P : State → Prop} (c : RelaySteps P) {s : State}
include c

theorem RelaySteps.on_sendCell {b} (h : P s) : P (sendCell b s) := c.on_fr rfl h
theorem RelaySteps.on_sendField {b} (h : P s) : P (sendField b s) := c.on_fr rfl h
theorem RelaySteps.on_setClock {n} (h : P s) : P (setClock n s) := c.on_fr rfl h
theorem RelaySteps.on_adjustSlot {i f} (h : P s) : P (s.adjustSlot i f) := c.on_fr rfl h
theorem RelaySteps.on_countMisses (h : P s) : P (countMisses s) := c.on_fr rfl h
theorem RelaySteps.on_beginCycle {a b} (h : P s) : P (beginCycle a b s) := c.on_fr rfl h

theorem RelaySteps.on_adjustHealth {i f} (h : P s) : P (s.adjustHealth i f) := by
  unfold State.adjustHealth
  split
  · exact c.on_fr rfl h
  · exact h

theorem RelaySteps.on_restartTimer {n} (h : P s) : P (restartTimer n s) := by
  unfold restartTimer
  split
  · exact c.on_fr rfl h
  · exact h

theorem RelaySteps.on_ownerArrival {o slot} (h : P s) : P (ownerArrival o slot s) := by
  cases o with
  | pt => exact c.on_trackArrival h
  | wm => exact c.on_mapArrival h
  | sc => exact c.on_spliceArrival h
  | sp => exact c.on_slitterArrival h
  | sg => exact h
  | ss => exact h

theorem RelaySteps.on_ownerStale {o slot} (h : P s) : P (ownerStale o slot s) := by
  cases o with
  | pt => exact c.on_trackStale h
  | wm | sc | sp | sg | ss => exact h

theorem RelaySteps.on_storeItem {i k} (h : P s) : P (storeItem i k s) := by
  unfold storeItem
  split
  · exact h
  · have hs {slot v a} : P (storeValue slot v a s) := c.on_adjustSlot h
    dsimp only
    split
    · split
      · exact c.on_event (fun _ ht => c.on_ownerArrival ht) hs
      · exact hs
    · exact hs

theorem RelaySteps.on_tellJob {ch t} (h : P s) : P (tellJob ch t s) := by
  unfold tellJob
  split
  · split
    · refine foldl_keeps (fun u i hu => ?_) _ h
      split
      · exact c.on_splicerTold hu
      · exact hu
    · refine foldl_keeps (fun u i hu => ?_) _ h
      split
      · exact c.on_slitterTold hu
      · exact hu
    · split
      · exact c.on_knifeTold h
      · exact h
    · split
      · exact c.on_stackerTold h
      · exact h
    · exact h
  · exact h

theorem RelaySteps.on_tellAnswer {ch} {r : State × Option Told} (h : P r.1) : P (tellAnswer ch r) := by
  unfold tellAnswer
  split
  · exact c.on_tellJob h
  · exact h

theorem RelaySteps.on_handAnswer {i k} (h : P s) : P (handAnswer i k s) := by
  unfold handAnswer
  split
  · exact h
  · split
    · exact c.on_event (fun _ ht => c.on_tellAnswer (c.on_takeAccept ht)) h
    · exact c.on_event (fun _ ht => c.on_tellAnswer (c.on_takeDone ht)) h
    · exact c.on_event (fun _ ht => c.on_tellAnswer (c.on_takeRefuse ht)) h
    · exact h

theorem RelaySteps.on_timeoutStep {ch tag} (h : P s) : P (timeoutStep ch tag s) := by
  unfold timeoutStep
  split
  · exact h
  · exact c.on_event (fun _ ht => c.on_reportTimeout (c.on_tellJob (c.on_dropTimedOut ht))) h

theorem RelaySteps.on_examineCommands (h : P s) : P (examineCommands s) := by
  refine foldl_keeps (fun t ch ht => ?_) _ h
  split
  · exact ht
  · exact foldl_keeps (fun u tag hu => c.on_overdueStep (c.on_timeoutStep hu)) _ ht

theorem RelaySteps.on_makeStale {slot} (h : P s) : P (makeStale slot s) := by
  unfold makeStale
  split
  · exact h
  · split
    · exact c.on_event (fun _ ht => c.on_ownerStale ht) (c.on_adjustSlot h)
    · exact h

theorem RelaySteps.on_staleStep {slot} (h : P s) : P (staleStep slot s) := by
  unfold staleStep
  split
  · exact h
  · split
    · exact c.on_makeStale h
    · exact h

theorem RelaySteps.on_suspectStep {station} (h : P s) : P (suspectStep station s) := by
  unfold suspectStep
  split
  · exact h
  · split
    · exact foldl_keeps (fun _ _ ht => c.on_makeStale ht) _ (c.on_raise (c.on_adjustHealth h))
    · exact h

theorem RelaySteps.on_stationExpiry {station} (h : P s) : P (stationExpiry station s) := by
  unfold stationExpiry
  split
  · exact h
  · exact c.on_suspectStep (c.on_adjustHealth h)

theorem RelaySteps.on_expirySteps (h : P s) : P (expirySteps s) := by
  have h1 := foldl_keeps (fun _ k ht => c.on_staleStep (slot := k) ht) (List.range 96) (c.on_countMisses h)
  have h2 := foldl_keeps (fun _ k ht => c.on_stationExpiry (station := k + 1) ht) (List.range 62) h1
  unfold expirySteps
  exact foldl_keeps (fun _ i ht => c.on_event (fun _ hu => c.on_countWaitStep hu) ht) _
    (c.on_examineCommands (c.on_trackExpiry h2))

theorem RelaySteps.on_askSource {src} {acc : State × Asked} (h : P acc.1) : P (askSource src acc).1.1 := by
  unfold askSource
  split
  · exact h
  · cases src with
    | generator i => exact c.on_generatorValue h
    | gate => exact h
    | command i => exact h

theorem RelaySteps.on_askEntry {e} {acc : State × Asked} (h : P acc.1) : P (askEntry e acc).1.1 := by
  unfold askEntry
  split
  · exact c.on_askSource h
  · exact h

theorem RelaySteps.on_treatItem {i k e} {acc : State × Asked} (h : P acc.1) : P (treatItem i k e acc).1.1 := by
  unfold treatItem
  split
  · exact h
  · exact h
  · split
    · exact c.on_askEntry h
    · exact h
  · split
    · exact c.on_askEntry h
    · exact h

theorem RelaySteps.on_rewriteItem {r : Rewrite} {i} (h : P r.acc.1) : P (rewriteItem r i).acc.1 := by
  unfold rewriteItem
  split
  · exact h
  · next k _ =>
    dsimp only
    split
    · split
      · exact h
      · exact h
    · have hs : P (if k = .set then storeItem i .set r.acc.1 else r.acc.1) := by
        split
        · exact c.on_storeItem h
        · exact h
      split
      · exact c.on_treatItem hs
      · exact hs

theorem RelaySteps.on_rewrite {l : List Item} {r : Rewrite} (h : P r.acc.1) : P (l.foldl rewriteItem r).acc.1 := by
  induction l generalizing r with
  | nil => exact h
  | cons i l ih => exact ih (c.on_rewriteItem h)

theorem RelaySteps.on_setGroup {m sets e} {r : (State × Asked) × List Appended} (h : P r.1.1) :
    P (setGroup m sets r e).1.1 := by
  unfold setGroup
  dsimp only
  split <;> split
  all_goals first | exact h | exact c.on_askEntry h

theorem RelaySteps.on_setGroups {m sets} {l : List ChannelEntry} {r : (State × Asked) × List Appended} (h : P r.1.1) :
    P (l.foldl (setGroup m sets) r).1.1 := by
  induction l generalizing r with
  | nil => exact h
  | cons e l ih => exact ih (c.on_setGroup h)

theorem RelaySteps.on_placeAppended {n l} (h : P s) : P (placeAppended n l s).1 := by
  refine foldl_keeps (fun t a ht => ?_) _ ?_
  · split
    · exact c.on_markSent ht
    · exact ht
  · split
    · exact c.on_fr rfl h
    · exact h

theorem RelaySteps.on_appendOwn {acc : State × Asked} {sets n} (h : P acc.1) : P (appendOwn acc sets n).1 := by
  unfold appendOwn
  split
  · exact c.on_placeAppended (c.on_setGroups (c.on_setGroups h))
  · exact h

theorem RelaySteps.on_hearStation {station} (h : P s) : P (hearStation station s) := by
  unfold hearStation
  split
  · exact h
  · dsimp only
    split
    · exact c.on_raise (c.on_adjustHealth h)
    · exact c.on_adjustHealth h

theorem RelaySteps.on_readItemIn {b i} (h : P s) : P (readItemIn b s i) := by
  unfold readItemIn
  split
  · exact h
  · split
    · exact c.on_storeItem h
    · exact c.on_handAnswer h
    · exact c.on_handAnswer h
    · exact c.on_handAnswer h
    · exact h

theorem RelaySteps.on_relayReturn {b} (h : P s) : P (relayReturn b s) := by
  have hc : P (sendCell b s) := c.on_sendCell h
  unfold relayReturn goodReturnStep
  dsimp only
  split
  · split
    · split
      · exact foldl_keeps (fun _ _ ht => c.on_readItemIn ht) _ (c.on_hearStation hc)
      · exact c.on_adjustHealth hc
    · exact hc
  · split
    · split
      · exact c.on_adjustHealth hc
      · exact hc
    · exact hc

end

section
variable {P : State → Prop} (c : QueueSteps P) {s : State}
include c

theorem QueueSteps.on_ownReturn (h : P s) : P (ownReturn s) := by
  unfold ownReturn
  split
  · exact c.on_sendCell (c.on_mu h)
  · exact h

theorem QueueSteps.on_expiry (h : P s) : P (expiry s) := by
  have h1 : P (ownReturn (expirySteps s)) := c.on_ownReturn (c.on_expirySteps h)
  unfold expiry
  generalize ownReturn (expirySteps s) = t at h1 ⊢
  exact c.on_fr rfl h1

theorem QueueSteps.on_closeWindow (h : P s) : P (closeWindow s) := by
  unfold closeWindow
  split
  · exact c.on_expiry h
  · exact h

theorem QueueSteps.on_originate {n} (h : P s) : P (originate n s) := by
  have h1 : P (beginCycle ((closeWindow s).fr.cycle + 1) n (closeWindow s)) := c.on_beginCycle (c.on_closeWindow h)
  unfold originate
  exact c.on_sendField (c.on_appendOwn (acc := (_, [])) (c.on_fr rfl h1))

/-- R45 after the cell controller's return: a good frame taken in NORMAL. -/
theorem QueueSteps.on_goodOutboundStep {b f n} (h : P (restoreCell f.cycle s)) : P (goodOutboundStep b f n s).1 := by
  have h1 : P (restartTimer n (beginCycle f.cycle n (closeWindow (restoreCell f.cycle s)))) :=
    c.on_restartTimer (c.on_beginCycle (c.on_closeWindow h))
  unfold goodOutboundStep
  exact c.on_sendField (c.on_appendOwn (c.on_rewrite (r := { acc := (_, []), items := [], requests := [], sets := [] })
    h1))

end

/-! ### Table writes (R167) -/

/-- What a guarded write leaves, when it is taken and when it is refused. -/
theorem guardWrite_keeps {P : State → Prop} {r : Bool} {g : GroupClass} {l : Word} {s : State} {body : Outcome}
    (h : P s) (hb : P body.1) : P (guardWrite r g l s body).1 := by
  unfold guardWrite
  repeat' split
  all_goals first | exact h | exact hb

section
variable {P : State → Prop} (c : RelaySteps P) {s : State}
include c

theorem RelaySteps.on_setSection {i x} (h : P s) : P (s.setSection i x) := c.on_pt h
theorem RelaySteps.on_setLink {i x} (h : P s) : P (s.setLink i x) := c.on_pt h

theorem RelaySteps.on_storeSection {i x} (h : P s) : P (storeSection i x s) := by
  unfold storeSection
  split
  · exact c.on_adjustMap (c.on_setSection h)
  · dsimp only
    split
    · exact c.on_adjustMap (c.on_setSection h)
    · exact c.on_raise (c.on_adjustMap (c.on_setSection h))

theorem RelaySteps.on_writeSection {l i g ws} (h : P s) : P (writeSection l i g ws s).1 := by
  refine guardWrite_keeps h ?_
  dsimp only
  repeat' split
  all_goals first | exact h | exact c.on_storeSection h | exact c.on_setSection h

theorem RelaySteps.on_writeLink {l i g ws} (h : P s) : P (writeLink l i g ws s).1 := by
  refine guardWrite_keeps h ?_
  dsimp only
  repeat' split
  all_goals first | exact h | exact c.on_setLink h

theorem RelaySteps.on_writeRelay {l i g ws} (h : P s) : P (writeRelay l i g ws s).1 := by
  refine guardWrite_keeps h ?_
  repeat' split
  all_goals first | exact h | exact c.on_fr rfl h

theorem RelaySteps.on_writeChannelEntry {l i g ws} (h : P s) : P (writeChannelEntry l i g ws s).1 := by
  refine guardWrite_keeps h ?_
  dsimp only
  repeat' split
  all_goals first | exact h | exact c.on_fr rfl h

theorem RelaySteps.on_writeWatch {l i g ws} (h : P s) : P (writeWatch l i g ws s).1 := by
  refine guardWrite_keeps h ?_
  dsimp only
  repeat' split
  all_goals first | exact h | exact c.on_fr rfl h

theorem RelaySteps.on_writeThreshold {l i g ws} (h : P s) : P (writeThreshold l i g ws s).1 := by
  refine guardWrite_keeps h ?_
  repeat' split
  all_goals first | exact h | exact c.on_adjustHealth h

omit c in
/-- R61: the depth of a record written is 1 or 2. -/
theorem readCommandChannel_depth {ws : List Word} {cls k d a b}
    (h : readCommandChannel ws = some (cls, k, d, a, b)) : 1 ≤ d ∧ d ≤ 2 := by
  unfold readCommandChannel at h
  split at h
  · next dp _ _ =>
    simp only [Option.bind_eq_bind, Option.bind_eq_some_iff] at h
    obtain ⟨_, -, _, -, d', hd, _, -, _, -, h⟩ := h
    split at h
    · cases h
    · obtain rfl : d' = d := by simp_all
      unfold readNat at hd
      split at hd
      · next hin =>
        obtain rfl := Option.some.inj hd
        exact hin
      · cases hd
  · cases h

theorem RelaySteps.on_writeCommandChannel {l i g ws} (h : P s) : P (writeCommandChannel l i g ws s).1 := by
  refine guardWrite_keeps h ?_
  dsimp only
  split
  · exact h
  · next hr =>
    split
    · exact h
    · next hd =>
      split
      · exact h
      · obtain ⟨h1, h2⟩ := readCommandChannel_depth hr
        refine c.on_adjustChannel (fun x hx => hx.emptied h1 h2 fun h2 => ?_) h
        simp_all

theorem RelaySteps.on_setGrades {x : List Grade} (h : P s) : P (s.withOp { s.op with grades := x }) := c.on_op id h
theorem RelaySteps.on_setPatterns {x : List Pattern} (h : P s) : P (s.withOp { s.op with patterns := x }) :=
  c.on_op id h

theorem RelaySteps.on_storeGrade {i o n r} (h : P s) : P (storeGrade i o n r s).1 := by
  unfold storeGrade
  split
  · exact h
  · exact c.on_setGrades h

theorem RelaySteps.on_writeGradeHead {l i ws} (h : P s) : P (writeGradeHead l i ws s).1 := by
  unfold writeGradeHead
  repeat' split
  all_goals first | exact h | exact c.on_storeGrade h | exact c.on_setGrades h

theorem RelaySteps.on_writeGrade {l i g ws} (h : P s) : P (writeGrade l i g ws s).1 := by
  refine guardWrite_keeps h ?_
  dsimp only
  repeat' split
  all_goals first | exact h | exact c.on_writeGradeHead h | exact c.on_storeGrade h

theorem RelaySteps.on_storePattern {i o n r} (h : P s) : P (storePattern i o n r s).1 := by
  unfold storePattern
  split
  · exact h
  · exact c.on_setPatterns h

theorem RelaySteps.on_writePattern {l i g ws} (h : P s) : P (writePattern l i g ws s).1 := by
  refine guardWrite_keeps h ?_
  dsimp only
  repeat' split
  all_goals first | exact h | exact c.on_storePattern h | exact c.on_setPatterns h

theorem RelaySteps.on_writePlanner {l i g ws} (h : P s) : P (writePlanner l i g ws s).1 := by
  refine guardWrite_keeps h ?_
  repeat' split
  all_goals first | exact h | exact c.on_op id h

theorem RelaySteps.on_storeSpliceHead {i x} (h : P s) : P (storeSpliceHead i x s) := by
  unfold storeSpliceHead
  repeat' split
  all_goals exact c.on_sc h

theorem RelaySteps.on_writeSplice {l i g ws} (h : P s) : P (writeSplice l i g ws s).1 := by
  refine guardWrite_keeps h ?_
  dsimp only
  repeat' split
  all_goals first | exact h | exact c.on_storeSpliceHead h | exact c.on_sc h

theorem RelaySteps.on_storeStation {i u k n} (h : P s) : P (storeStation i u k n s) := by
  unfold storeStation
  dsimp only
  repeat' split
  all_goals first | exact c.on_sp h | exact c.on_endCover (c.on_sp h)

theorem RelaySteps.on_writeStation {l i g ws} (h : P s) : P (writeStation l i g ws s).1 := by
  refine guardWrite_keeps h ?_
  dsimp only
  repeat' split
  all_goals first | exact h | exact c.on_storeStation h | exact c.on_adjustStation h

theorem RelaySteps.on_writePair {l i g ws} (h : P s) : P (writePair l i g ws s).1 := by
  refine guardWrite_keeps h ?_
  repeat' split
  all_goals first | exact h | exact c.on_sp h

omit c in
/-- R128: min_piece is at least 2,000; the plan and the pieces stay. -/
theorem CutPlanner.sound.readCutSettings {p x : CutPlanner} {ws : List Word} (hr : readCutSettings p ws = some x)
    (h : p.sound) : x.sound := by
  unfold Machine.readCutSettings at hr
  split at hr
  · simp only [Option.bind_eq_bind, Option.bind_eq_some_iff] at hr
    obtain ⟨m, hm, _, -, _, -, _, -, _, -, _, -, hx⟩ := hr
    obtain rfl := Option.some.inj hx
    obtain ⟨h1, h2, h3, h4, -, h6⟩ := h
    refine ⟨h1, h2, h3, h4, ?_, h6⟩
    unfold readNat at hm
    split at hm
    · next hin =>
      obtain rfl := Option.some.inj hm
      exact hin.1
    · cases hm
  · cases hr

theorem RelaySteps.on_writeCutPlanner {l i g ws} (h : P s) : P (writeCutPlanner l i g ws s).1 := by
  refine guardWrite_keeps h ?_
  split
  · repeat' split
    all_goals first | exact h | exact c.on_cp id h
  · split
    · exact h
    · next hr =>
      split
      · exact h
      · exact c.on_replanAll (c.on_cp (fun hs => hs.readCutSettings hr) h)

theorem RelaySteps.on_writeStackGate {l i g ws} (h : P s) : P (writeStackGate l i g ws s).1 := by
  refine guardWrite_keeps h ?_
  repeat' split
  all_goals first | exact h | exact c.on_sg h

theorem RelaySteps.on_writeCurve {l i g ws} (h : P s) : P (writeCurve l i g ws s).1 := by
  refine guardWrite_keeps h ?_
  repeat' split
  all_goals first | exact h | exact c.on_ss h

theorem RelaySteps.on_writeGenerator {l i g ws} (h : P s) : P (writeGenerator l i g ws s).1 := by
  refine guardWrite_keeps h ?_
  dsimp only
  repeat' split
  all_goals first | exact h | exact c.on_ss h

omit c in
theorem writeReadOnly_keeps {r l} (h : P s) : P (writeReadOnly r l s).1 := guardWrite_keeps h h

theorem RelaySteps.on_writeTable {l t i g ws} (h : P s) : P (writeTable l t i g ws s).1 := by
  unfold writeTable
  split
  · exact c.on_writeSection h
  · exact c.on_writeLink h
  · exact c.on_writeRelay h
  · exact c.on_writeChannelEntry h
  · exact c.on_writeWatch h
  · exact c.on_writeThreshold h
  · exact c.on_writeCommandChannel h
  · exact c.on_writeGrade h
  · exact c.on_writePattern h
  · exact c.on_writePlanner h
  · exact c.on_writeSplice h
  · exact c.on_writeStation h
  · exact c.on_writePair h
  · exact c.on_writeCutPlanner h
  · exact writeReadOnly_keeps h
  · exact writeReadOnly_keeps h
  · exact c.on_writeStackGate h
  · exact c.on_writeCurve h
  · exact c.on_writeGenerator h
  · exact writeReadOnly_keeps h
  · exact writeReadOnly_keeps h
  · exact h

end
end Sys2Proof.Machine

/-! The requests and the modes keep what `RequestSteps` and `BodySteps` name. -/
namespace Sys2Proof.Machine

/-! ### The order queue's requests (R79, R89 to R93) -/

theorem State.orderAt_eq_none {s : State} {k : OrderKey} : s.orderAt k = none ↔ k ∉ s.op.queue.map (·.key) := by
  simp [State.orderAt]

/-- R79, R92: orders of new keys put into the queue, in any places. -/
theorem Planner.held.insertQueue {p : Planner} {l q : List Order} (hq : q.Perm (l ++ p.queue))
    (hlen : p.queue.length + l.length ≤ Config.queueCapacity) (hl : (l.map (·.key)).Nodup)
    (hnew : ∀ o ∈ l, o.key ∉ p.queue.map (·.key)) (h : p.held) : ({ p with queue := q } : Planner).held := by
  obtain ⟨-, h2, h3⟩ := h
  refine ⟨?_, ?_, h3⟩
  · have := hq.length_eq
    simp only [List.length_append] at this
    dsimp only
    omega
  · refine (hq.map _).nodup_iff.mpr ?_
    rw [List.map_append]
    refine List.nodup_append.mpr ⟨hl, h2, fun a ha b hb hab => ?_⟩
    obtain ⟨o, ho, rfl⟩ := List.mem_map.mp ha
    exact hnew o ho (hab ▸ hb)

theorem insertRush_perm (rush : Order) (rest : Option Order) (queue : List Order) :
    (insertRush rush rest queue).Perm ((rush :: rest.toList) ++ queue) := by
  unfold insertRush
  have := List.perm_append_comm_assoc (queue.takeWhile (·.start.isSome)) (rush :: rest.toList)
    (queue.dropWhile (·.start.isSome))
  rw [List.takeWhile_append_dropWhile] at this
  simpa using this

section
variable {P : State → Prop} (c : RelaySteps P) {s : State}
include c

theorem RelaySteps.on_orderAdd {ws} (h : P s) : P (orderAdd ws s).1 := by
  unfold orderAdd
  split
  · exact h
  · next o _ =>
    split
    · exact h
    · next hroom =>
      split
      · exact h
      · next hdup =>
        split
        · exact h
        · refine c.on_refreshNext (c.on_op (fun hs => ?_) h)
          refine hs.insertQueue (l := [newOrder o s]) List.perm_append_comm (by simp; omega) (by simp) ?_
          intro x hx
          obtain rfl := List.mem_singleton.mp hx
          exact State.orderAt_eq_none.mp (Option.not_isSome_iff_eq_none.mp hdup)

theorem RelaySteps.on_orderCancel {ws} (h : P s) : P (orderCancel ws s).1 := by
  have hc {k f} (hf : ∀ o : Order, (f o).key = o.key) : P (raiseCancelled k (quantityChanged k (s.adjustOrder k f))) :=
    c.on_raise (c.on_quantityChanged (c.on_adjustOrder (fun o _ => hf o) h))
  have hq {k n} : P (refreshFrom n (raiseCancelled k
      (s.withOp { s.op with queue := s.op.queue.filter (fun x => x.key != k) }))) :=
    c.on_refreshFrom (c.on_raise (c.on_op (fun hs => hs.filterQueue) h))
  unfold orderCancel
  split
  · exact h
  · split
    · exact h
    · split
      · exact h
      · split
        · exact hq
        · exact hq
        · exact hc fun _ => rfl
        · exact hc fun _ => rfl
        · exact h

/-- R92: a rush that passed its checks, with the remainder of a split. -/
theorem RelaySteps.on_takeRush {o} (hroom : s.op.queue.length + (if (splitDue s).isSome then 2 else 1) ≤
      Config.queueCapacity) (hdup : s.orderAt o.key = none)
    (hrest : ∀ r n, splitDue s = some (r, n) → s.orderAt ⟨r.key.number, r.key.part + 1⟩ = none ∧
      (⟨r.key.number, r.key.part + 1⟩ : OrderKey) ≠ o.key) (h : P s) : P (takeRush o s) := by
  have hnew : (newOrder o s).key ∉ s.op.queue.map (·.key) := State.orderAt_eq_none.mp hdup
  unfold takeRush
  split
  · next hs =>
    refine c.on_refreshNext (c.on_op (fun hh => ?_) h)
    rw [hs] at hroom
    refine hh.insertQueue (insertRush_perm ..) (by simpa using hroom) (by simp) ?_
    simpa using hnew
  · next r n hs =>
    obtain ⟨hfree, hne⟩ := hrest r n hs
    refine c.on_raise (c.on_quantityChanged (c.on_refreshNext
      (c.on_adjustOrder (fun _ _ => rfl) (c.on_op (fun hh => ?_) h))))
    rw [hs] at hroom
    refine hh.insertQueue (insertRush_perm ..) (by simpa using hroom) ?_ ?_
    · simpa [remainderOf, newOrder] using hne.symm
    · intro x hx
      rcases List.mem_cons.mp hx with rfl | hx
      · exact hnew
      · obtain rfl : x = remainderOf r n _ := by simpa using hx
        exact State.orderAt_eq_none.mp hfree

theorem RelaySteps.on_orderRush {ws} (h : P s) : P (orderRush ws s).1 := by
  unfold orderRush
  split
  · exact h
  · next o _ =>
    dsimp only
    generalize hneed : (if ((splitDue s).map
      (fun r => (⟨r.1.key.number, r.1.key.part + 1⟩ : OrderKey))).isSome = true then 2 else 1) = needed
    split
    · exact h
    · next hroom =>
      split
      · exact h
      · next hdup =>
        split
        · exact h
        · split
          · exact h
          · rw [Bool.or_eq_true, not_or] at hdup
            rw [Option.isSome_map] at hneed
            refine c.on_takeRush (by omega) (Option.not_isSome_iff_eq_none.mp hdup.1) (fun r n hs => ?_) h
            simpa [hs] using hdup.2

theorem RelaySteps.on_storeEdit {o e} (h : P s) : P (storeEdit o e s) := by
  have ha {x : Order} (hx : x.key = o.key) : P (s.adjustOrder o.key fun _ => x) := by
    refine c.on_op (fun hs => hs.mapQueue fun y _ => ?_) h
    split
    · next hk => exact hx.trans (beq_iff_eq.mp hk).symm
    · rfl
  unfold storeEdit
  dsimp only
  split
  · exact c.on_quantityChanged (ha rfl)
  · exact ha rfl

theorem RelaySteps.on_orderEdit {l ws} (h : P s) : P (orderEdit l ws s).1 := by
  unfold orderEdit applyEdit
  repeat' split
  all_goals first | exact h | exact c.on_storeEdit h

/-! ### The single requests (R18, R40, R105, R124) -/

theorem RelaySteps.on_anchorLink {ws} (h : P s) : P (anchorLink ws s).1 := by
  unfold anchorLink
  repeat' split
  all_goals first | exact h | exact c.on_setLink h

theorem RelaySteps.on_spliceNow {ws} (h : P s) : P (spliceNow ws s).1 := by
  unfold spliceNow
  repeat' split
  all_goals first | exact h | exact c.on_issueCheck (c.on_adjustWeb h)

theorem RelaySteps.on_zoneAdd {ws} (h : P s) : P (zoneAdd ws s).1 := by
  unfold zoneAdd
  repeat' split
  all_goals first | exact h | exact c.on_createMark h

theorem RelaySteps.on_stationClear {ws} (h : P s) : P (stationClear ws s).1 := by
  unfold stationClear
  dsimp only
  repeat' split
  all_goals first | exact h | exact c.on_clearStation h

/-! ### Requests that end as an event (log 9) -/

theorem RelaySteps.on_settledWhen {f : State → Bool} {body : State → Outcome} (hb : P (body s).1) :
    P (settledWhen f body s).1 := c.on_settle hb

theorem RelaySteps.on_settled {f : Bool} {body : State → Outcome} (hb : P (body s).1) :
    P (settled f body s).1 := c.on_settledWhen hb

theorem RelaySteps.on_editRequest {l ws} (h : P s) : P (editRequest l ws s).1 :=
  c.on_settledWhen (c.on_orderEdit h)

theorem RelaySteps.on_cancelRequest {ws} (h : P s) : P (cancelRequest ws s).1 := by
  unfold cancelRequest
  exact c.on_settledWhen (c.on_orderCancel h)

theorem RelaySteps.on_rushRequest {ws} (h : P s) : P (rushRequest ws s).1 := c.on_settled (c.on_orderRush h)

theorem RelaySteps.on_spliceNowRequest {ws} (h : P s) : P (spliceNowRequest ws s).1 :=
  c.on_settled (c.on_spliceNow h)

theorem RelaySteps.on_zoneRequest {ws} (h : P s) : P (zoneRequest ws s).1 := c.on_settled (c.on_zoneAdd h)

theorem RelaySteps.on_clearStationRequest {ws} (h : P s) : P (clearStationRequest ws s).1 :=
  c.on_settled (c.on_stationClear h)

theorem RelaySteps.on_sectionRequest {l i g ws} (h : P s) : P (sectionRequest l i g ws s).1 :=
  c.on_settled (c.on_writeSection h)

theorem RelaySteps.on_cutPlannerRequest {l i g ws} (h : P s) : P (cutPlannerRequest l i g ws s).1 :=
  c.on_settled (c.on_writeCutPlanner h)

theorem RelaySteps.on_tableRequest {l ws} (h : P s) : P (tableRequest l ws s).1 := by
  unfold tableRequest
  split
  · split
    · exact c.on_sectionRequest h
    · exact c.on_cutPlannerRequest h
    · exact c.on_writeTable h
  · exact h

end

theorem orderRead_state (ws : List Word) (s : State) : (orderRead ws s).1 = s := by
  unfold orderRead
  dsimp only
  split <;> rfl

/-! ### Modes, resets and status (R168 to R171) -/

theorem Planner.held.resetTracking {p : Planner} (h : p.held) : p.resetTracking.held :=
  h.mapQueue fun _ _ => rfl

theorem CutPlanner.sound.resetTracking {p : CutPlanner} (h : p.sound) : p.resetTracking.sound :=
  ⟨Nat.zero_le _, List.Pairwise.nil, by simp [CutPlanner.resetTracking], by simp [CutPlanner.resetTracking],
    h.2.2.2.2.1, by simp [CutPlanner.resetTracking]⟩

section
variable {P : State → Prop} (c : RequestSteps P) {s : State}
include c

/-- R170: RESET_TRACKING keeps the channels, the plan and the queue sound. -/
theorem RequestSteps.on_resetAll (h : P s) : P (resetAll s) := by
  have hccu (hs : s.ccu.sound) : (⟨s.ccu.records.map Channel.resetTracking, none⟩ : Channels).sound := by
    intro x hx
    obtain ⟨y, hy, rfl⟩ := List.mem_map.mp hx
    exact (hs y hy).resetTracking
  unfold resetAll
  exact c.on_ss (c.on_sg (c.on_cp (fun hs => hs.resetTracking) (c.on_sp (c.on_sc (c.on_op
    (fun hs => hs.resetTracking) (c.on_ccu hccu (c.on_wm (c.on_pt h))))))))

theorem RequestSteps.on_clearAll (h : P s) : P (clearAll s).1 := c.on_flags rfl rfl rfl (c.on_fr rfl (c.on_fr rfl h))

theorem RequestSteps.on_resetTracking (h : P s) : P (resetTracking s).1 := by
  unfold resetTracking
  split
  · exact h
  · exact c.on_resetAll h

end

section
variable {P : State → Prop} (c : BodySteps P) {s : State}
include c

theorem BodySteps.on_raiseMode {m} (h : P s) : P (raiseMode m s) := c.on_raise (c.on_mode rfl rfl h)

theorem BodySteps.on_enterRun (h : P s) : P (enterRun s) := by
  have h1 : P (restartTimer (raiseMode .run s).fr.clock (raiseMode .run s)) := c.on_restartTimer (c.on_raiseMode h)
  unfold enterRun
  exact c.on_setpointEnterRun (c.on_knifeEnterRun (c.on_slitterEnterRun (c.on_spliceEnterRun (c.on_closeOrders
    (c.on_sweepOrders (c.on_refreshNext (c.on_stackEnterRun (c.on_retireMarks (c.on_channelsEnterRun h1)))))))))

theorem BodySteps.on_modeSetup (h : P s) : P (modeSetup s).1 := by
  unfold modeSetup
  split
  · exact h
  · split
    · exact h
    · exact c.on_raiseMode h

theorem BodySteps.on_modeRun (h : P s) : P (modeRun s).1 := by
  unfold modeRun
  split
  · exact h
  · split
    · exact h
    · dsimp only
      exact c.on_enterRun h

theorem BodySteps.on_modeRequest {ws} (h : P s) : P (modeRequest ws s).1 := by
  unfold modeRequest
  split
  · split
    · exact c.on_modeSetup h
    · exact c.on_modeRun h
    · exact h
  · exact h

theorem BodySteps.on_modeChange {ws} (h : P s) : P (modeChange ws s).1 := c.on_settled (c.on_modeRequest h)

/-! ### Requests (R164, R165) -/

/-- What the action of any request keeps. -/
theorem BodySteps.on_perform {k l ws} (h : P s) : P (perform k l ws s).1 := by
  unfold perform
  cases k with
  | tableWrite => exact c.on_tableRequest h
  | tableRead => exact (readRequest_state ws s).symm ▸ h
  | orderAdd => exact c.on_orderAdd h
  | orderEdit => exact c.on_editRequest h
  | orderCancel => exact c.on_cancelRequest h
  | orderRush => exact c.on_rushRequest h
  | orderRead => exact (orderRead_state ws s).symm ▸ h
  | historyRead => exact h
  | anchorLink => exact c.on_anchorLink h
  | spliceNow => exact c.on_spliceNowRequest h
  | zoneAdd => exact c.on_zoneRequest h
  | stationClear => exact c.on_clearStationRequest h
  | mode => exact c.on_modeChange h
  | resetTracking => exact c.on_settled (c.on_resetTracking h)
  | clear => exact c.on_clearAll h
  | statusRead => exact h

end
end Sys2Proof.Machine

/-! Every step keeps the bounds of the queues, the command channels, the cut plan and the order queue. -/
namespace Sys2Proof.Machine

/-! ### A step keeps an invariant -/

/-- A property that every command keeps: any change of FR and of the commands that wait, and a reset, keep it too. -/
structure Invariant (P : State → Prop) : Prop extends QueueSteps P where
  on_relay : ∀ {s x}, P s → P (s.withFr x)
  on_pending : ∀ {s x}, P s → P (s.withPending x)
  on_reset : ∀ {pins l}, P (State.afterReset pins l)

section
variable {P : State → Prop} {s : State}

theorem QueueSteps.on_answer (c : QueueSteps P) {tag r} (hr : P r.1) (h : P s) : P (answer tag r s) := by
  unfold answer
  split
  · exact c.on_mu hr
  · exact c.on_mu h

theorem QueueSteps.on_takeRequest (c : QueueSteps P) {k tag l ws body} (hb : P (body s).1) (h : P s) :
    P (takeRequest k tag l ws body s) := by
  refine c.on_answer ?_ h
  split
  · exact h
  · exact hb

theorem QueueSteps.on_request (c : QueueSteps P) {k tag l ws body} (hb : P (body s).1) (h : P s) :
    P (request k tag l ws body s) := by
  unfold request
  split
  · exact c.on_takeRequest hb h
  · exact h

theorem QueueSteps.on_takeItem (c : QueueSteps P) {i} (h : P s) : P (takeItem i s) := by
  unfold takeItem
  split
  · exact c.on_answer h h
  · exact c.on_takeRequest (c.on_perform h) h

theorem QueueSteps.on_takeItems (c : QueueSteps P) {l} (h : P s) : P (takeItems l s) :=
  foldl_keeps (fun _ _ ht => c.on_answer ht ht) _ (foldl_keeps (fun _ _ ht => c.on_takeItem ht) _ h)

theorem Invariant.on_restoreCell (c : Invariant P) {n} (h : P s) : P (restoreCell n s) := by
  unfold restoreCell
  split
  · exact c.on_raise (c.on_relay h)
  · exact h

theorem Invariant.on_relayOutbound (c : Invariant P) {b n} (h : P s) : P (relayOutbound b n s).1 := by
  unfold relayOutbound
  dsimp only
  split
  · exact c.on_goodOutboundStep (c.on_restoreCell (c.on_setClock h))
  · exact c.on_sendField (c.on_relay (c.on_setClock h))

theorem Invariant.on_loseCell (c : Invariant P) {n} (h : P s) : P (loseCell n s) :=
  c.on_originate (c.on_raise (c.on_relay h))

/-- The commands that are no request: the reset, the frames and the timers. -/
def isTimed : Instr → Bool
  | .powerOnReset .. | .outboundFrame .. | .returnFrame .. | .returnWindowExpiry .. | .slotStale ..
  | .stationSuspect .. | .cmdTimeout .. | .cmdOverdue .. | .spliceCountTaken .. | .cellLost ..
  | .originateFrame .. => true
  | _ => false

/-- The action of a request: whatever the requests other than MODE keep, it keeps. -/
def KeepsRequests (body : State → Outcome) (s : State) : Prop :=
  ∀ P : State → Prop, RequestSteps P → P s → P (body s).1

/-- The same with MODE. -/
def KeepsBodies (body : State → Outcome) (s : State) : Prop := ∀ P : State → Prop, BodySteps P → P s → P (body s).1

/-- A table write as a command is a request. -/
theorem writeRequest_request {n : Word} {tag : Half} {l : Word} {ws : List Word}
    {write : Word → Word → Word → List Word → State → Outcome} {s : State}
    (hw : ∀ i g fs (P : State → Prop), RequestSteps P → P s → P (write l i g fs s).1) :
    ∃ k tag' l' ws' body, writeRequest n tag l ws write s = request k tag' l' ws' body s ∧ KeepsRequests body s := by
  refine ⟨_, _, _, _, _, rfl, fun P c h => ?_⟩
  split
  · exact hw _ _ _ P c h
  · exact h

/-- Every command that is not timed and no MODE is a request. -/
theorem exec_request {i : Instr} (hi : isTimed i = false) (hm : setsMode i = false) (s : State) :
    ∃ k tag l ws body, exec i s = .next (request k tag l ws body s) ∧ KeepsRequests body s := by
  have hw {n : Word} {tag : Half} {l : Word} {ws : List Word}
      {write : Word → Word → Word → List Word → State → Outcome}
      (hw : ∀ i g fs (P : State → Prop), RequestSteps P → P s → P (write l i g fs s).1) :
      ∃ k tag' l' ws' body, (Host.Outcome.next (writeRequest n tag l ws write s) : Result) =
        .next (request k tag' l' ws' body s) ∧ KeepsRequests body s := by
    obtain ⟨k, tag', l', ws', body, he, hb⟩ := writeRequest_request hw
    exact ⟨k, tag', l', ws', body, congrArg _ he, hb⟩
  cases i <;> first | (cases hi; done) | (cases hm; done) | skip
  case sectionWrite => exact hw fun _ _ _ P c h => c.on_sectionRequest h
  case linkWrite => exact hw fun _ _ _ P c h => c.on_writeLink h
  case relayRecordWrite => exact hw fun _ _ _ P c h => c.on_writeRelay h
  case channelTableWrite => exact hw fun _ _ _ P c h => c.on_writeChannelEntry h
  case watchTableWrite => exact hw fun _ _ _ P c h => c.on_writeWatch h
  case stationThresholdWrite => exact hw fun _ _ _ P c h => c.on_writeThreshold h
  case commandChannelWrite => exact hw fun _ _ _ P c h => c.on_writeCommandChannel h
  case gradeWrite => exact hw fun _ _ _ P c h => c.on_writeGrade h
  case patternWrite => exact hw fun _ _ _ P c h => c.on_writePattern h
  case plannerRecordWrite => exact hw fun _ _ _ P c h => c.on_writePlanner h
  case spliceRecordWrite => exact hw fun _ _ _ P c h => c.on_writeSplice h
  case slitterStationWrite => exact hw fun _ _ _ P c h => c.on_writeStation h
  case pairRecordWrite => exact hw fun _ _ _ P c h => c.on_writePair h
  case cutPlannerRecordWrite => exact hw fun _ _ _ P c h => c.on_cutPlannerRequest h
  case sgRecordWrite => exact hw fun _ _ _ P c h => c.on_writeStackGate h
  case curveWrite => exact hw fun _ _ _ P c h => c.on_writeCurve h
  case generatorWrite => exact hw fun _ _ _ P c h => c.on_writeGenerator h
  case tableWrite => exact ⟨_, _, _, _, _, rfl, fun P c h => c.on_tableRequest h⟩
  case tableRead => exact ⟨_, _, _, _, _, rfl, fun P c h => (readRequest_state _ s).symm ▸ h⟩
  case orderAdd => exact ⟨_, _, _, _, _, rfl, fun P c h => c.on_orderAdd h⟩
  case orderEdit => exact ⟨_, _, _, _, _, rfl, fun P c h => c.on_editRequest h⟩
  case orderCancel => exact ⟨_, _, _, _, _, rfl, fun P c h => c.on_cancelRequest h⟩
  case orderRush => exact ⟨_, _, _, _, _, rfl, fun P c h => c.on_rushRequest h⟩
  case orderRead => exact ⟨_, _, _, _, _, rfl, fun P c h => (orderRead_state _ s).symm ▸ h⟩
  case historyRead => exact ⟨_, _, _, _, _, rfl, fun P c h => h⟩
  case anchorLink => exact ⟨_, _, _, _, _, rfl, fun P c h => c.on_anchorLink h⟩
  case spliceNow => exact ⟨_, _, _, _, _, rfl, fun P c h => c.on_spliceNowRequest h⟩
  case zoneAdd => exact ⟨_, _, _, _, _, rfl, fun P c h => c.on_zoneRequest h⟩
  case stationClear => exact ⟨_, _, _, _, _, rfl, fun P c h => c.on_clearStationRequest h⟩
  case resetTracking => exact ⟨_, _, _, _, _, rfl, fun P c h => c.on_settled (c.on_resetTracking h)⟩
  case clear => exact ⟨_, _, _, _, _, rfl, fun P c h => c.on_clearAll h⟩
  case statusRead => exact ⟨_, _, _, _, _, rfl, fun P c h => h⟩

/-- Every command that is not timed is a request. -/
theorem exec_body {i : Instr} (hi : isTimed i = false) (s : State) :
    ∃ k tag l ws body, exec i s = .next (request k tag l ws body s) ∧ KeepsBodies body s := by
  cases hm : setsMode i with
  | false =>
    obtain ⟨k, tag, l, ws, body, he, hb⟩ := exec_request hi hm s
    exact ⟨k, tag, l, ws, body, he, fun P c h => hb P c.toRequestSteps h⟩
  | true =>
    cases i <;> first | (cases hi; done) | (cases hm; done) | skip
    case modeSetup => exact ⟨_, _, _, _, _, rfl, fun P c h => c.on_modeChange h⟩
    case modeRun => exact ⟨_, _, _, _, _, rfl, fun P c h => c.on_modeChange h⟩

/-- A request keeps what its action and a change of the two queues keep. -/
theorem QueueSteps.on_execRequest (c : QueueSteps P) {i : Instr} {t : State} (hi : isTimed i = false) (h : P s)
    (ht : exec i s = .next t) : P t := by
  obtain ⟨k, tag, l, ws, body, he, hb⟩ := exec_body hi s
  obtain rfl : request k tag l ws body s = t := by simpa [he] using ht
  exact c.on_request (hb P c.toBodySteps h) h

/-- Every timed command keeps an invariant. -/
theorem Invariant.on_timed (c : Invariant P) {i : Instr} {t : State} (hi : isTimed i = true) (h : P s)
    (ht : exec i s = .next t) : P t := by
  have hclock {n : Word} : P (setClock n s) := c.on_setClock h
  cases i <;> first | (cases hi; done) | (unfold exec at ht; injection ht with ht; subst ht)
  case powerOnReset => exact c.on_reset
  case outboundFrame => exact c.on_takeItems (c.on_relayOutbound h)
  case returnFrame => exact c.on_relayReturn h
  case returnWindowExpiry =>
    split
    · exact c.on_expiry hclock
    · exact hclock
  case slotStale => exact c.on_staleStep h
  case stationSuspect =>
    split
    · exact c.on_suspectStep h
    · exact h
  case cmdTimeout => exact c.on_timeoutStep h
  case cmdOverdue => exact c.on_overdueStep h
  case spliceCountTaken => exact c.on_event (fun _ hu => c.on_takeFromCount hu) h
  case cellLost =>
    split
    · exact c.on_loseCell hclock
    · exact hclock
  case originateFrame =>
    split
    · exact c.on_originate hclock
    · exact hclock

/-- Every command keeps an invariant. -/
theorem Invariant.on_exec (c : Invariant P) {i : Instr} {t : State} (h : P s) (ht : exec i s = .next t) : P t := by
  cases hi : isTimed i with
  | false => exact c.on_execRequest hi h ht
  | true => exact c.on_timed hi h ht

/-- Every step keeps an invariant. -/
theorem Invariant.on_step (c : Invariant P) {t : State} (h : P s) (ht : step s = .next t) : P t := by
  unfold step at ht
  split at ht
  · cases ht
    exact h
  · exact c.on_exec (c.on_pending h) ht

end

/-! ### The invariants -/

/-- R61 to R63, R66: the command channel records. -/
theorem invariant_channels : Invariant (fun s => s.ccu.sound) where
  on_raise h := by rw [raise_ccu]; exact h
  on_wm h := h
  on_sc h := h
  on_sp h := h
  on_sg h := h
  on_ss h := h
  on_ccu hx h := hx h
  on_cp _ h := h
  on_commits _ h := h
  on_op _ h := h
  on_pt h := h
  on_fr _ h := h
  on_flags _ _ _ h := h
  on_mode _ _ h := h
  on_mu h := h
  on_relay h := h
  on_pending h := h
  on_reset {pins l} x hx := by
    obtain rfl := List.eq_of_mem_replicate (show x ∈ List.replicate 24 Channel.initial from hx)
    simp [Channel.sound, Channel.initial]

/-- R129, R137, R138, R140: the cut plan and the piece list. -/
theorem invariant_cuts : Invariant (fun s => s.cp.sound) where
  on_raise h := by rw [raise_cp]; exact h
  on_wm h := h
  on_sc h := h
  on_sp h := h
  on_sg h := h
  on_ss h := h
  on_ccu _ h := h
  on_cp hx h := hx h
  on_commits _ h := h
  on_op _ h := h
  on_pt h := h
  on_fr _ h := h
  on_flags _ _ _ h := h
  on_mode _ _ h := h
  on_mu h := h
  on_relay h := h
  on_pending h := h
  on_reset := by simp [CutPlanner.sound, State.afterReset, CutPlanner.initial]

/-- R78, R79, R94: the order queue and the completion records. -/
theorem invariant_orders : Invariant (fun s => s.op.held) where
  on_raise h := by rw [raise_op]; exact h
  on_wm h := h
  on_sc h := h
  on_sp h := h
  on_sg h := h
  on_ss h := h
  on_ccu _ h := h
  on_cp _ h := h
  on_commits hx h := hx.held h
  on_op hx h := hx h
  on_pt h := h
  on_fr _ h := h
  on_flags _ _ _ h := h
  on_mode _ _ h := h
  on_mu h := h
  on_relay h := h
  on_pending h := h
  on_reset := by simp [Planner.held, State.afterReset, Planner.initial]

/-! ### The timers -/

/-- The timed commands but the reset and the outbound frame: they take no request. -/
def isTimer : Instr → Bool
  | .powerOnReset .. | .outboundFrame .. => false
  | i => isTimed i

/-- A timer's command and a return frame keep the tables, the waiting commands, the queues' bounds and the mode. -/
theorem timer_steady {i : Instr} {s t : State} (hi : isTimer i = true) (ht : exec i s = .next t) :
    Steady s t ∧ t.mu.mode = s.mu.mode := by
  have of_kept {u : State} (hu : u.kept = s.kept) : Steady s u ∧ u.mu.mode = s.mu.mode :=
    ⟨Steady.of_kept hu, mode_of_kept hu⟩
  have clock (n : Word) : Steady s (setClock n s) ∧ (setClock n s).mu.mode = s.mu.mode := of_kept (kept_setClock n s)
  cases i <;> first | (cases hi; done) | (unfold exec at ht; injection ht with ht; subst ht)
  case returnFrame => exact of_kept (kept_relayReturn ..)
  case returnWindowExpiry n =>
    split
    · exact ⟨(clock n).1.trans (steady_expiry _), (expiry_mode _).trans (clock n).2⟩
    · exact clock n
  case slotStale => exact of_kept (kept_staleStep ..)
  case stationSuspect =>
    split
    · exact of_kept (kept_suspectStep ..)
    · exact of_kept rfl
  case cmdTimeout => exact of_kept (kept_timeoutStep ..)
  case cmdOverdue => exact of_kept (kept_overdueStep ..)
  case spliceCountTaken w => exact of_kept (kept_event _ s (kept_takeFromCount w s))
  case cellLost n =>
    split
    · exact ⟨(clock n).1.trans (steady_loseCell ..), (loseCell_mode ..).trans (clock n).2⟩
    · exact clock n
  case originateFrame n =>
    split
    · exact ⟨(clock n).1.trans (steady_originate ..), (originate_mode ..).trans (clock n).2⟩
    · exact clock n

/-! ### The event and the reply queue (R165, R173) -/

/-- Between the reply of one request and the next the replies stay, and the events within their bound. -/
def State.repliesAre (r : List Reply) (s : State) : Prop :=
  s.mu.replies = r ∧ s.mu.events.length ≤ Config.eventCapacity

theorem raise_events_le (k : EventKind) (a b d : Word) (s : State) (h : s.mu.events.length ≤ Config.eventCapacity) :
    (raise k a b d s).mu.events.length ≤ Config.eventCapacity := by
  unfold raise
  split
  · next hlt => simpa using hlt
  · exact h

theorem bodySteps_replies (r : List Reply) : BodySteps (State.repliesAre r) where
  on_raise h := ⟨(raise_mu_replies ..).trans h.1, raise_events_le _ _ _ _ _ h.2⟩
  on_wm h := h
  on_sc h := h
  on_sp h := h
  on_sg h := h
  on_ss h := h
  on_ccu _ h := h
  on_cp _ h := h
  on_commits _ h := h
  on_op _ h := h
  on_pt h := h
  on_fr _ h := h
  on_flags he hr _ h := ⟨hr.trans h.1, he ▸ h.2⟩
  on_mode he hr h := ⟨hr.trans h.1, he ▸ h.2⟩

/-- R165: an action that keeps the replies is answered within the bounds. -/
theorem answer_held {tag : Half} {r : Outcome} {s : State} (hr : r.1.repliesAre s.mu.replies) (h : s.queuesHeld) :
    (answer tag r s).queuesHeld :=
  answer_queues tag r s hr.1 (fun _ => ⟨hr.2, hr.1 ▸ h.2⟩) h

theorem takeRequest_held {k : RequestKind} {tag : Half} {l : Word} {ws : List Word} {body : State → Outcome}
    {s : State} (hb : s.repliesAre s.mu.replies → (body s).1.repliesAre s.mu.replies) (h : s.queuesHeld) :
    (takeRequest k tag l ws body s).queuesHeld := by
  refine answer_held ?_ h
  split
  · exact ⟨rfl, h.1⟩
  · exact hb ⟨rfl, h.1⟩

theorem request_held {k : RequestKind} {tag : Half} {l : Word} {ws : List Word} {body : State → Outcome} {s : State}
    (hb : s.repliesAre s.mu.replies → (body s).1.repliesAre s.mu.replies) (h : s.queuesHeld) :
    (request k tag l ws body s).queuesHeld := by
  unfold request
  split
  · exact takeRequest_held hb h
  · exact h

theorem takeItems_held (l : List Item) {s : State} (h : s.queuesHeld) : (takeItems l s).queuesHeld := by
  refine foldl_keeps (P := State.queuesHeld) (fun t i ht => answer_held ⟨rfl, ht.1⟩ ht) _
    (foldl_keeps (P := State.queuesHeld) (fun t i ht => ?_) _ h)
  unfold takeItem
  split
  · exact answer_held ⟨rfl, ht.1⟩ ht
  · exact takeRequest_held (fun hs => (bodySteps_replies _).on_perform hs) ht

theorem timed_held {i : Instr} {s t : State} (hi : isTimed i = true) (h : s.queuesHeld) (ht : exec i s = .next t) :
    t.queuesHeld := by
  cases hj : isTimer i with
  | true => exact (timer_steady hj ht).1.queues h
  | false =>
    cases i <;> first | (cases hi; done) | (cases hj; done) | (unfold exec at ht; injection ht with ht; subst ht)
    · exact ⟨Nat.zero_le _, Nat.zero_le _⟩
    · exact takeItems_held _ ((steady_relayOutbound ..).queues h)

/-- R165, R173: every command keeps the two queues within their bounds. -/
theorem exec_held {i : Instr} {s t : State} (h : s.queuesHeld) (ht : exec i s = .next t) : t.queuesHeld := by
  cases hi : isTimed i with
  | false =>
    obtain ⟨k, tag, l, ws, body, he, hb⟩ := exec_body hi s
    obtain rfl : request k tag l ws body s = t := by simpa [he] using ht
    exact request_held (hb _ (bodySteps_replies _)) h
  | true => exact timed_held hi h ht

theorem step_held {s t : State} (h : s.queuesHeld) (ht : step s = .next t) : t.queuesHeld := by
  unfold step at ht
  split at ht
  · cases ht
    exact h
  · next c rest _ => exact exec_held (s := s.withPending rest) h ht

/-- Settles O54: the queues by the requests' replies, the orders as an invariant of every command. -/
theorem queuesHeldKept : Obligations.QueuesHeldKept := fun _ _ ht =>
  ⟨fun h => step_held h ht, fun h => invariant_orders.on_step h ht⟩

/-- Settles O56: the records are an invariant of every command. -/
theorem channelsSoundKept : Obligations.ChannelsSoundKept := fun s t h ht =>
  (State.channelsSound_iff t).mpr (invariant_channels.on_step ((State.channelsSound_iff s).mp h) ht)

/-- Settles O57: the plan and the piece list are an invariant of every command. -/
theorem cutsSoundKept : Obligations.CutsSoundKept := fun _ _ h ht => invariant_cuts.on_step h ht

end Sys2Proof.Machine

/-! What changes the mode and FR's state (R57, R59, R168, R169, R172). -/
namespace Sys2Proof.Machine

theorem requestSteps_mode (m : Mode) : RequestSteps (fun s => s.mu.mode = m) where
  on_raise h := (raise_mu_mode ..).trans h
  on_wm h := h
  on_sc h := h
  on_sp h := h
  on_sg h := h
  on_ss h := h
  on_ccu _ h := h
  on_cp _ h := h
  on_commits _ h := h
  on_op _ h := h
  on_pt h := h
  on_fr _ h := h
  on_flags _ _ hm h := hm.trans h

theorem queueSteps_standing (p : FrState × BitVec 6 → Prop) : QueueSteps (fun s => p s.fr.standing) where
  on_raise h := by rw [raise_fr]; exact h
  on_wm h := h
  on_sc h := h
  on_sp h := h
  on_sg h := h
  on_ss h := h
  on_ccu _ h := h
  on_cp _ h := h
  on_commits _ h := h
  on_op _ h := h
  on_pt h := h
  on_fr hx h := hx.symm ▸ h
  on_flags _ _ _ h := h
  on_mode _ _ h := h
  on_mu h := h

theorem queueSteps_state (x : FrState) : QueueSteps (fun s => s.fr.state = x) := queueSteps_standing (fun y => y.1 = x)

/-! ### The mode -/

theorem request_mode {k : RequestKind} {tag : Half} {l : Word} {ws : List Word} {body : State → Outcome} {s : State}
    (hb : (body s).1.mu.mode = s.mu.mode) : (request k tag l ws body s).mu.mode = s.mu.mode := by
  rcases request_cases k tag l ws body s with h | h | ⟨_, _, h⟩ | ⟨_, h⟩ <;> rw [h]
  · rfl
  · rfl
  · exact hb

/-- R168, R169, R172: only a reset, MODE, and a frame, which may hold MODE, change the mode. -/
theorem exec_mode {i : Instr} {s t : State} (hi : setsMode i = false) (ht : exec i s = .next t) :
    t.mu.mode = s.mu.mode := by
  cases hj : isTimed i with
  | false =>
    obtain ⟨k, tag, l, ws, body, he, hb⟩ := exec_request hj hi s
    obtain rfl : request k tag l ws body s = t := by simpa [he] using ht
    exact request_mode (hb _ (requestSteps_mode _) rfl)
  | true =>
    refine (timer_steady ?_ ht).2
    cases i <;> first | rfl | (cases hi; done) | cases hj

/-! ### LOST_CELL -/

/-- R43, R59: no request reaches the part in LOST_CELL. -/
theorem request_lostCell {k : RequestKind} {tag : Half} {l : Word} {ws : List Word} {body : State → Outcome} {s : State}
    (h : s.fr.state = .lostCell) : request k tag l ws body s = s := by
  simp [request, State.reachable, h]

/-- R59: a good frame ends LOST_CELL. -/
theorem restoreCell_state (n : Half) (s : State) : (restoreCell n s).fr.state = .normal := by
  unfold restoreCell
  split
  · simp [raiseNoPosition]
  · next h => exact h

/-- R46, R59: after an outbound frame LOST_CELL holds only when it did before, and then the mode is as it was. -/
theorem outbound_lostCell {b : List Byte} {n : Word} {s : State}
    (h : (takeItems (relayOutbound b n s).2 (relayOutbound b n s).1).fr.state = .lostCell) :
    s.fr.state = .lostCell ∧ (takeItems (relayOutbound b n s).2 (relayOutbound b n s).1).mu.mode = s.mu.mode := by
  cases hg : goodOutbound b with
  | some f =>
    have hn : (relayOutbound b n s).1.fr.state = .normal := by
      simp only [relayOutbound, hg]
      exact (queueSteps_state _).on_goodOutboundStep (restoreCell_state _ _)
    rw [(queueSteps_state .normal).on_takeItems hn] at h
    cases h
  | none =>
    have hnone : (relayOutbound b n s).2 = [] := by simp [relayOutbound, hg]
    rw [hnone] at h ⊢
    refine ⟨?_, relayOutbound_mode b n s⟩
    simpa [takeItems, relayOutbound, hg, sendField, setClock] using h

/-- R57, R59: LOST_CELL is entered in RUN only, and only its own commands act in it. -/
theorem exec_lostCell {i : Instr} {s t : State} (h : s.fr.state = .lostCell → s.mu.mode = .run)
    (ht : exec i s = .next t) (hl : t.fr.state = .lostCell) : t.mu.mode = .run := by
  cases hj : isTimed i with
  | false =>
    have hs : s.fr.state = .lostCell := ((queueSteps_state _).on_execRequest hj rfl ht).symm.trans hl
    obtain ⟨k, tag, l, ws, body, he, -⟩ := exec_body hj s
    obtain rfl : request k tag l ws body s = t := by simpa [he] using ht
    rw [request_lostCell hs]
    exact h hs
  | true =>
    have hc {n : Word} : (setClock n s).fr.state = s.fr.state := rfl
    have stays (hm : isTimer i = true) (hs : t.fr.state = s.fr.state) : t.mu.mode = .run :=
      (timer_steady hm ht).2.trans (h (hs.symm.trans hl))
    have q := queueSteps_state s.fr.state
    have ht' := ht
    cases i <;> first | (cases hj; done) | (unfold exec at ht; injection ht with ht)
    case powerOnReset => cases ht.symm ▸ hl
    case outboundFrame =>
      subst ht
      obtain ⟨hs, hm⟩ := outbound_lostCell hl
      exact hm.trans (h hs)
    case returnFrame => exact stays rfl (ht ▸ q.on_relayReturn rfl)
    case returnWindowExpiry =>
      refine stays rfl (ht ▸ ?_)
      split
      · exact q.on_expiry hc
      · exact hc
    case slotStale => exact stays rfl (ht ▸ q.on_staleStep rfl)
    case stationSuspect =>
      refine stays rfl (ht ▸ ?_)
      split
      · exact q.on_suspectStep rfl
      · rfl
    case cmdTimeout => exact stays rfl (ht ▸ q.on_timeoutStep rfl)
    case cmdOverdue => exact stays rfl (ht ▸ q.on_overdueStep rfl)
    case spliceCountTaken => exact stays rfl (ht ▸ q.on_event (fun _ hu => q.on_takeFromCount hu) rfl)
    case cellLost =>
      split at ht
      · next n hd =>
        have hr : (setClock n s).running = true := by simp_all [cellLossDue]
        exact (timer_steady rfl ht').2.trans (of_decide_eq_true hr)
      · exact stays rfl (ht ▸ rfl)
    case originateFrame =>
      refine stays rfl (ht ▸ ?_)
      split
      · exact q.on_originate hc
      · exact hc

/-- Settles O60: requests and timers keep the mode; LOST_CELL takes no request and is entered in RUN. -/
theorem modeChangesOnlyByMode : Obligations.ModeChangesOnlyByMode := fun _ _ _ ht =>
  ⟨fun hi => exec_mode hi ht, fun h hl => exec_lostCell h ht hl⟩

end Sys2Proof.Machine

/-! What changes the written tables (R47, R167). -/
namespace Sys2Proof.Machine

/-! ### Commands without a table write -/

theorem request_tables {k : RequestKind} {tag : Half} {l : Word} {ws : List Word} {body : State → Outcome} {s : State}
    (hb : (body s).1.tables = s.tables) : (request k tag l ws body s).tables = s.tables := by
  rcases request_cases k tag l ws body s with h | h | ⟨_, _, h⟩ | ⟨_, h⟩ <;> rw [h]
  · rfl
  · rfl
  · exact hb

theorem tables_of_kept {s t : State} (h : t.kept = s.kept) : t.tables = s.tables := congrArg Kept.tables h

theorem raise_tables (k : EventKind) (a b c : Word) (s : State) : (raise k a b c s).tables = s.tables := by
  unfold raise
  split <;> rfl

/-- R169: entering RUN writes no table. -/
theorem enterRun_tables (s : State) : (enterRun s).tables = s.tables := by
  refine (tables_of_kept (s := raiseMode .run s) ?_).trans (raise_tables ..)
  unfold enterRun
  dsimp only
  simp

theorem modeSetup_tables (s : State) : (modeSetup s).1.tables = s.tables := by
  unfold modeSetup
  split
  · rfl
  · split
    · rfl
    · exact raise_tables ..

theorem modeRun_tables (s : State) : (modeRun s).1.tables = s.tables := by
  unfold modeRun
  split
  · rfl
  · split
    · rfl
    · dsimp only
      exact enterRun_tables s

theorem modeRequest_tables (ws : List Word) (s : State) : (modeRequest ws s).1.tables = s.tables := by
  unfold modeRequest
  split
  · split
    · exact modeSetup_tables s
    · exact modeRun_tables s
    · rfl
  · rfl

/-- R28, R81, R83: ending a request as an event writes no table. -/
theorem settledWhen_tables {f : State → Bool} {body : State → Outcome} {s : State}
    (hb : (body s).1.tables = s.tables) : (settledWhen f body s).1.tables = s.tables :=
  (tables_of_kept (kept_settle ..)).trans hb

theorem resetTracking_tables (s : State) : (resetTracking s).1.tables = s.tables := by
  unfold resetTracking
  split
  · rfl
  · exact resetAll_tables s

theorem clearAll_tables (s : State) : (clearAll s).1.tables = s.tables := by
  simp only [clearAll, clearFlags, clearCounts, State.tables, FieldRelay.setup]
  simp [Function.comp_def]

/-- R47, R167: the commands that hold no table write change no table. -/
theorem exec_tables {i : Instr} {s t : State} (hi : storesTables i = false) (ht : exec i s = .next t) :
    t.tables = s.tables := by
  cases hj : isTimer i with
  | true => exact (timer_steady hj ht).1.tables
  | false =>
    have of_kept {u : State} (hu : u.kept = s.kept) : u.tables = s.tables := tables_of_kept hu
    cases i <;> first | (cases hi; done) | (cases hj; done) | (unfold exec at ht; injection ht with ht; subst ht)
    case tableRead => exact request_tables (by rw [readRequest_state])
    case orderAdd => exact request_tables (of_kept (by simp))
    case orderEdit => exact request_tables (of_kept (kept_editRequest ..))
    case orderCancel => exact request_tables (of_kept (kept_cancelRequest ..))
    case orderRush => exact request_tables (of_kept (kept_rushRequest ..))
    case orderRead => exact request_tables (of_kept (by simp))
    case historyRead => exact request_tables rfl
    case anchorLink => exact request_tables (of_kept (by simp))
    case spliceNow => exact request_tables (of_kept (kept_spliceNowRequest ..))
    case zoneAdd => exact request_tables (of_kept (kept_zoneRequest ..))
    case stationClear => exact request_tables (of_kept (kept_clearStationRequest ..))
    case modeSetup => exact request_tables (settledWhen_tables (modeRequest_tables ..))
    case modeRun => exact request_tables (settledWhen_tables (modeRequest_tables ..))
    case resetTracking => exact request_tables (settledWhen_tables (resetTracking_tables s))
    case clear => exact request_tables (clearAll_tables s)
    case statusRead => exact request_tables rfl

/-! ### The class S fields in RUN (R167) -/

/-- The class S fields of the tables. -/
def State.classS (s : State) : ClassS := s.tables.classS

/-- R167: in RUN a write of a class S field group is refused. -/
theorem guardWrite_setup {r : Bool} {l : Word} {s : State} {body : Outcome} (h : s.running = true) :
    (guardWrite r .setup l s body).1 = s := by
  unfold guardWrite
  repeat' split
  all_goals simp_all [refuse]

theorem lookup_eq_some {α : Type} {l : List (Option α)} {i : Nat} {a : α} :
    lookup l i = some a ↔ l[i]? = some (some a) := Option.join_eq_some_iff

/-- A record replaced by one that agrees with it in some fields leaves those fields of the table as they are. -/
theorem map_set_of_lookup {α β : Type} {l : List (Option α)} {i : Nat} {a b : α} {g : α → β} (h : lookup l i = some a)
    (hg : g b = g a) : (l.set i (some b)).map (Option.map g) = l.map (Option.map g) :=
  map_set_getElem l i _ _ _ (lookup_eq_some.mp h) (congrArg some hg)

/-- Other webs with the same heads. -/
theorem withSc_classS {s : State} {x : List (Option Web)}
    (h : x.map (Option.map (·.cfg.head)) = s.sc.map (Option.map (·.cfg.head))) : (s.withSc x).classS = s.classS := by
  simpa [State.classS, State.tables, Tables.classS, Function.comp_def] using h

/-- Other stations with the same channels and slots. -/
theorem withSp_classS {s : State} {x : SlitterPair}
    (h : x.stations.map (Option.map (fun y => (y.cfg.channel, y.cfg.slot))) =
      s.sp.stations.map (Option.map (fun y => (y.cfg.channel, y.cfg.slot)))) : (s.withSp x).classS = s.classS := by
  simpa [State.classS, State.tables, Tables.classS, SlitterPair.setup, Function.comp_def] using h

/-- Other generators with the same points and temperature slots. -/
theorem withSs_classS {s : State} {x : Setpoints}
    (h : x.generators.map (Option.map (fun g => (g.cfg.sec, g.cfg.point, g.cfg.tempSlot))) =
      s.ss.generators.map (Option.map (fun g => (g.cfg.sec, g.cfg.point, g.cfg.tempSlot)))) :
    (s.withSs x).classS = s.classS := by
  simpa [State.classS, State.tables, Tables.classS, Setpoints.setup, Function.comp_def] using h

/-- Group 1 of a splice record holds no field of its group 0. -/
theorem readSpliceSettings_head {c d : WebCfg} {fields : List Word} (h : readSpliceSettings c fields = some d) :
    d.head = c.head := by
  unfold readSpliceSettings at h
  split at h
  · simp only [bind, Option.bind_eq_some_iff, pure, Option.some.injEq] at h
    obtain ⟨_, _, _, _, _, _, _, _, _, _, _, _, _, _, _, _, _, _, _, _, _, _, rfl⟩ := h
    rfl
  · cases h

/-- Group 1 of a generator record holds no field of its group 0. -/
theorem readGeneratorSettings_head {c d : GenCfg} {fields : List Word} (h : readGeneratorSettings c fields = some d) :
    (d.sec, d.point, d.tempSlot) = (c.sec, c.point, c.tempSlot) := by
  unfold readGeneratorSettings at h
  split at h
  · simp only [bind, Option.bind_eq_some_iff, pure] at h
    obtain ⟨_, _, _, _, _, _, _, _, _, _, _, _, _, _, _, _, _, _, _, _, h⟩ := h
    split at h
    · cases h
    · cases h
      rfl
  · cases h

theorem readCutSettings_head {p q : CutPlanner} {fields : List Word} (h : readCutSettings p fields = some q) :
    (q.knife, q.role) = (p.knife, p.role) := by
  unfold readCutSettings at h
  split at h
  · simp only [bind, Option.bind_eq_some_iff, pure, Option.some.injEq] at h
    obtain ⟨_, _, _, _, _, _, _, _, _, _, _, _, rfl⟩ := h
    rfl
  · cases h

section
variable {l i g : Word} {fields : List Word} {s : State}

theorem guardWrite_classS {r : Bool} {c : GroupClass} {body : Outcome} (h : s.running = true)
    (hb : c ≠ .setup → body.1.classS = s.classS) : (guardWrite r c l s body).1.classS = s.classS := by
  by_cases hc : c = .setup
  · rw [hc, guardWrite_setup h]
  · exact guardWrite_keeps (P := fun t => t.classS = s.classS) rfl (hb hc)

theorem writeGrade_classS : (writeGrade l i g fields s).1.classS = s.classS := by
  refine guardWrite_keeps (P := fun t => t.classS = s.classS) rfl ?_
  unfold writeGradeHead storeGrade
  dsimp only
  repeat' split
  all_goals rfl

theorem writePattern_classS : (writePattern l i g fields s).1.classS = s.classS := by
  refine guardWrite_keeps (P := fun t => t.classS = s.classS) rfl ?_
  unfold storePattern
  dsimp only
  repeat' split
  all_goals rfl

theorem writePlanner_classS : (writePlanner l i g fields s).1.classS = s.classS := by
  refine guardWrite_keeps (P := fun t => t.classS = s.classS) rfl ?_
  repeat' split
  all_goals rfl

theorem writePair_classS : (writePair l i g fields s).1.classS = s.classS := by
  refine guardWrite_keeps (P := fun t => t.classS = s.classS) rfl ?_
  repeat' split
  all_goals rfl

theorem writeCurve_classS : (writeCurve l i g fields s).1.classS = s.classS := by
  refine guardWrite_keeps (P := fun t => t.classS = s.classS) rfl ?_
  repeat' split
  all_goals rfl

theorem writeSplice_classS (h : s.running = true) : (writeSplice l i g fields s).1.classS = s.classS := by
  refine guardWrite_classS h fun hg => ?_
  dsimp only
  split
  · simp_all
  · repeat' split
    all_goals first | rfl | skip
    next w hw _ cfg hc => exact withSc_classS (map_set_of_lookup hw (readSpliceSettings_head hc))

theorem writeStation_classS (h : s.running = true) : (writeStation l i g fields s).1.classS = s.classS := by
  refine guardWrite_classS h fun hg => ?_
  dsimp only
  split
  · simp_all
  · repeat' split
    all_goals first | rfl | skip
    exact withSp_classS (map_adjust _ _ _ _ fun _ => rfl)

theorem writeGenerator_classS (h : s.running = true) : (writeGenerator l i g fields s).1.classS = s.classS := by
  refine guardWrite_classS h fun hg => ?_
  dsimp only
  split
  · simp_all
  · repeat' split
    all_goals first | rfl | skip
    next gen hgen _ cfg hc _ => exact withSs_classS (map_set_of_lookup hgen (readGeneratorSettings_head hc))

theorem writeStackGate_classS (h : s.running = true) : (writeStackGate l i g fields s).1.classS = s.classS := by
  refine guardWrite_classS h fun hg => ?_
  dsimp only
  split
  · split
    · simp_all
    · split <;> rfl
  · rfl

theorem classS_of_kept {t u : State} (h : t.kept = u.kept) : t.classS = u.classS :=
  congrArg Tables.classS (tables_of_kept h)

theorem writeCutPlanner_classS (h : s.running = true) : (writeCutPlanner l i g fields s).1.classS = s.classS := by
  refine guardWrite_classS h fun hg => ?_
  dsimp only
  split
  · simp_all
  · split
    · rfl
    · next p hp =>
      split
      · rfl
      · refine (classS_of_kept (kept_replanAll _)).trans ?_
        have := readCutSettings_head hp
        simp_all [State.classS, State.tables, Tables.classS, CutPlanner.setup]

theorem settledWhen_classS {f : State → Bool} {body : State → Outcome} (hb : (body s).1.classS = s.classS) :
    (settledWhen f body s).1.classS = s.classS := (classS_of_kept (kept_settle ..)).trans hb

theorem writeReadOnly_classS {r : Bool} : (writeReadOnly r l s).1.classS = s.classS :=
  guardWrite_keeps (P := fun t => t.classS = s.classS) rfl rfl

theorem sectionRequest_classS (h : s.running = true) : (sectionRequest l i g fields s).1.classS = s.classS :=
  settledWhen_classS (congrArg State.classS (guardWrite_setup h))

theorem cutPlannerRequest_classS (h : s.running = true) : (cutPlannerRequest l i g fields s).1.classS = s.classS :=
  settledWhen_classS (writeCutPlanner_classS h)

/-- R167: in RUN a write of any table keeps the class S fields. -/
theorem writeTable_classS {n : Word} (h : s.running = true) : (writeTable l n i g fields s).1.classS = s.classS := by
  unfold writeTable
  split
  case h_1 => exact congrArg State.classS (guardWrite_setup h)
  case h_2 => exact congrArg State.classS (guardWrite_setup h)
  case h_3 => exact congrArg State.classS (guardWrite_setup h)
  case h_4 => exact congrArg State.classS (guardWrite_setup h)
  case h_5 => exact congrArg State.classS (guardWrite_setup h)
  case h_6 => exact congrArg State.classS (guardWrite_setup h)
  case h_7 => exact congrArg State.classS (guardWrite_setup h)
  case h_8 => exact writeGrade_classS
  case h_9 => exact writePattern_classS
  case h_10 => exact writePlanner_classS
  case h_11 => exact writeSplice_classS h
  case h_12 => exact writeStation_classS h
  case h_13 => exact writePair_classS
  case h_14 => exact writeCutPlanner_classS h
  case h_17 => exact writeStackGate_classS h
  case h_18 => exact writeCurve_classS
  case h_19 => exact writeGenerator_classS h
  case h_15 | h_16 | h_20 | h_21 => exact writeReadOnly_classS
  case h_22 => rfl

theorem tableRequest_classS {ws : List Word} (h : s.running = true) : (tableRequest l ws s).1.classS = s.classS := by
  unfold tableRequest
  split
  · split
    · exact sectionRequest_classS h
    · exact cutPlannerRequest_classS h
    · exact writeTable_classS h
  · rfl

end

theorem request_classS {k : RequestKind} {tag : Half} {l : Word} {ws : List Word} {body : State → Outcome} {s : State}
    (hb : (body s).1.classS = s.classS) : (request k tag l ws body s).classS = s.classS := by
  rcases request_cases k tag l ws body s with h | h | ⟨_, _, h⟩ | ⟨_, h⟩ <;> rw [h]
  · rfl
  · rfl
  · exact hb

theorem writeRequest_classS {n : Word} {tag : Half} {l : Word} {ws : List Word} {s : State}
    {write : Word → Word → Word → List Word → State → Outcome}
    (hw : ∀ i g fields, (write l i g fields s).1.classS = s.classS) : (writeRequest n tag l ws write s).classS = s.classS := by
  refine request_classS ?_
  split
  · exact hw _ _ _
  · rfl

/-- R167: in RUN no command but a reset and a frame, which may hold a MODE request, changes a class S field. -/
theorem exec_classS {i : Instr} {s t : State} (h : s.mu.mode = .run) (hp : ∀ pins, i ≠ .powerOnReset pins)
    (hf : ∀ bytes now, i ≠ .outboundFrame bytes now) (ht : exec i s = .next t) : t.classS = s.classS := by
  have hr : s.running = true := decide_eq_true h
  cases hi : storesTables i with
  | false => exact congrArg Tables.classS (exec_tables hi ht)
  | true =>
    cases i <;> first | (cases hi; done) | (unfold exec at ht; injection ht with ht; subst ht)
    case powerOnReset => exact absurd rfl (hp _)
    case outboundFrame => exact absurd rfl (hf _ _)
    case sectionWrite => exact writeRequest_classS fun _ _ _ => sectionRequest_classS hr
    case linkWrite => exact writeRequest_classS fun _ _ _ => congrArg State.classS (guardWrite_setup hr)
    case relayRecordWrite => exact writeRequest_classS fun _ _ _ => congrArg State.classS (guardWrite_setup hr)
    case channelTableWrite => exact writeRequest_classS fun _ _ _ => congrArg State.classS (guardWrite_setup hr)
    case watchTableWrite => exact writeRequest_classS fun _ _ _ => congrArg State.classS (guardWrite_setup hr)
    case stationThresholdWrite => exact writeRequest_classS fun _ _ _ => congrArg State.classS (guardWrite_setup hr)
    case commandChannelWrite => exact writeRequest_classS fun _ _ _ => congrArg State.classS (guardWrite_setup hr)
    case gradeWrite => exact writeRequest_classS fun _ _ _ => writeGrade_classS
    case patternWrite => exact writeRequest_classS fun _ _ _ => writePattern_classS
    case plannerRecordWrite => exact writeRequest_classS fun _ _ _ => writePlanner_classS
    case spliceRecordWrite => exact writeRequest_classS fun _ _ _ => writeSplice_classS hr
    case slitterStationWrite => exact writeRequest_classS fun _ _ _ => writeStation_classS hr
    case pairRecordWrite => exact writeRequest_classS fun _ _ _ => writePair_classS
    case cutPlannerRecordWrite => exact writeRequest_classS fun _ _ _ => cutPlannerRequest_classS hr
    case sgRecordWrite => exact writeRequest_classS fun _ _ _ => writeStackGate_classS hr
    case curveWrite => exact writeRequest_classS fun _ _ _ => writeCurve_classS
    case generatorWrite => exact writeRequest_classS fun _ _ _ => writeGenerator_classS hr
    case tableWrite => exact request_classS (tableRequest_classS hr)

/-- Settles O59: without a table write nothing stores a table, and in RUN the class S groups are refused. -/
theorem tablesChangeOnlyByWrites : Obligations.TablesChangeOnlyByWrites := fun _ _ _ ht =>
  ⟨fun h hp hf => exec_classS h hp hf ht, fun hi => exec_tables hi ht⟩

end Sys2Proof.Machine

/-! The step, what every command leaves alone, and the state after a reset (R172). -/
namespace Sys2Proof.Machine

/-! ### The step -/

/-- Settles O1, by the two cases of the queue. -/
theorem stepTakesTheFront : Obligations.StepTakesTheFront :=
  ⟨fun c rest s h => step_cons s c rest h, fun s h => by simp [step, h]⟩

theorem queueSteps_pending (l : List Instr) : QueueSteps (fun s => s.pending = l) where
  on_raise h := (raise_pending ..).trans h
  on_wm h := h
  on_sc h := h
  on_sp h := h
  on_sg h := h
  on_ss h := h
  on_ccu _ h := h
  on_cp _ h := h
  on_commits _ h := h
  on_op _ h := h
  on_pt h := h
  on_fr _ h := h
  on_flags _ _ _ h := h
  on_mode _ _ h := h
  on_mu h := h

/-- Every command has a next state. -/
theorem exec_next (i : Instr) (s : State) : ∃ t, exec i s = .next t := by
  cases hi : isTimed i with
  | false =>
    obtain ⟨k, tag, l, ws, body, he, -⟩ := exec_body hi s
    exact ⟨_, he⟩
  | true => cases i <;> first | (cases hi; done) | exact ⟨_, rfl⟩

/-- No command changes the queue of the commands that wait. -/
theorem exec_pending {i : Instr} {s t : State} (ht : exec i s = .next t) : t.pending = s.pending := by
  cases hi : isTimed i with
  | false => exact (queueSteps_pending _).on_execRequest hi rfl ht
  | true =>
    cases hj : isTimer i with
    | true => exact (timer_steady hj ht).1.pending
    | false =>
      cases i <;> first | (cases hi; done) | (cases hj; done) | (unfold exec at ht; injection ht with ht; subst ht)
      case powerOnReset => rfl
      case outboundFrame => exact (queueSteps_pending _).on_takeItems (steady_relayOutbound ..).pending

/-- Settles O2: every command has a next state, and requests, frames and timers keep the queue. -/
theorem everyCommandCompletes : Obligations.EveryCommandCompletes := fun c s =>
  let ⟨t, ht⟩ := exec_next c s
  ⟨t, ht, exec_pending ht⟩

/-! ### The state after a reset (R172) -/

@[simp] theorem lookup_replicate_none {α : Type} (n i : Nat) : lookup (List.replicate n (none : Option α)) i = none := by
  unfold lookup
  rw [List.getElem?_replicate]
  split <;> rfl

/-- R42: after a reset no section has a mark. -/
theorem afterReset_marks (pins : BitVec 6) (l : List Instr) (i : Nat) : ((State.afterReset pins l).mapAt i).marks = [] := by
  simp only [State.mapAt, State.afterReset, WebMap.initial, List.getElem?_replicate]
  split <;> rfl

theorem afterReset_allMarks (pins : BitVec 6) (l : List Instr) : (State.afterReset pins l).allMarks = [] := by
  simp [State.allMarks, State.afterReset, WebMap.initial, SectionMap.initial]

theorem afterReset_mapsSound (pins : BitVec 6) (l : List Instr) : (State.afterReset pins l).mapsSound := by
  refine ⟨⟨fun i m hm => ?_, ?_⟩, ⟨?_, ?_⟩, rfl⟩
  · rw [afterReset_marks] at hm
    cases hm
  · rw [afterReset_allMarks]
    exact List.nodup_nil
  · simp [State.boundaryCount, afterReset_allMarks]
  · simp [State.boundaryCount, State.markCount, afterReset_allMarks, Config.boundaryLimit, Config.markSlots]

theorem afterReset_channel {pins : BitVec 6} {l : List Instr} {i : Nat} {c : Channel}
    (h : (State.afterReset pins l).channelAt i = some c) : c = Channel.initial :=
  List.eq_of_mem_replicate (List.mem_of_getElem? h)

/-- R172: the bounds after a reset. -/
theorem afterReset_bounds (pins : BitVec 6) (l : List Instr) :
    (State.afterReset pins l).queuesHeld ∧ (State.afterReset pins l).mapsSound ∧ (State.afterReset pins l).channelsSound ∧
      (State.afterReset pins l).cutsSound ∧ (State.afterReset pins l).ordersHeld :=
  ⟨⟨Nat.zero_le _, Nat.zero_le _⟩, afterReset_mapsSound pins l,
    (State.channelsSound_iff _).mpr invariant_channels.on_reset, invariant_cuts.on_reset, invariant_orders.on_reset⟩

/-- Settles O58: the invariants of the steps hold after a reset. -/
theorem boundsHeldAtReset : Obligations.BoundsHeldAtReset := by
  obtain ⟨hq, hm, hc, hp, ho⟩ := afterReset_bounds 0 []
  exact ⟨hq, hm, hc, hp, ho, afterReset_bounds⟩

/-- R55, R60: the health record of a station after a reset. -/
theorem afterReset_health (pins : BitVec 6) (l : List Instr) {k : Nat} (h1 : 1 ≤ k) (h2 : k ≤ 62) :
    (State.afterReset pins l).healthAt k = some Health.initial :=
  List.getElem?_replicate_of_lt (by omega)

/-- Settles O3, block by block. -/
theorem powerOnReset : Obligations.PowerOnReset := by
  intro pins s
  refine ⟨_, rfl, rfl, rfl, rfl, rfl, rfl, rfl, rfl, ?_, ?_, rfl, ?_, rfl, rfl, rfl, rfl, rfl, rfl, rfl, rfl, rfl, rfl,
    rfl, rfl, rfl, rfl, ?_, rfl⟩
  · exact fun k h1 h2 => ⟨_, afterReset_health pins _ h1 h2, rfl, rfl, rfl, rfl, rfl⟩
  · intro i
    refine ⟨?_, ?_, ?_, ?_, ?_, ?_, ?_, rfl, rfl, afterReset_marks ..⟩
    · exact lookup_replicate_none 12 i
    · exact lookup_replicate_none 11 i
    · exact lookup_replicate_none 128 i
    · exact lookup_replicate_none 96 i
    · exact lookup_replicate_none 6 i
    · exact lookup_replicate_none 2 i
    · exact lookup_replicate_none 24 i
  · intro i c hc
    obtain rfl := afterReset_channel hc
    exact ⟨rfl, rfl, rfl, rfl, rfl, rfl, rfl⟩
  · exact fun c hc => List.eq_of_mem_replicate hc

end Sys2Proof.Machine

/-! A state whose map has no section lists, in which an event commits more often than `settleLoop` allows (O55). -/
namespace Sys2Proof.Machine

/-- An order without cuts: its end is due as soon as it is open (R81, R90). -/
def cutlessOrder (n : Nat) : Order :=
  { key := ⟨natWord n, 0⟩, grade := 0, pattern := 0, length := 5000, sheets := 0, cuts := 0, stackCount := 10, lane := 1
    overrun := 0, state := .queued, start := none, fin := none, good := 0, scrap := 0, dropped := 0, split := false
    cancelled := false, breakdown := ⟨0, 0, 0, 0, 0, 0, 0, 0, 0, 0⟩ }

/-- A loaded BOARD section with a KNIFE point. -/
def listlessBoard : Section :=
  { cfg := { kind := .board, primarySlot := 0, backupSlot := none, reckon := false, refSlot := none, margin := 1000
             exitDist := 200000, down := none, points := [⟨.knife, 1000⟩] }
    trk := TrackState.initial }

/-- In RUN with a BOARD section, 17 orders without cuts, and a ZONE_ADD in BOARD waiting. The map holds no list for any
section, so that a boundary is never counted and R22's limit never stops a commit. -/
def listlessState : State :=
  let s := State.afterReset 10 [.zoneAdd 1 1 [0, 0, 0, 10, 10]]
  let s := (s.withMu { s.mu with mode := .run }).setSection 0 (some listlessBoard)
  let s := s.withOp { s.op with
    grades := [{ released := true, width := 25000, papers := [], gens := [] }]
    patterns := [{ released := true, width := 24000, outs := 2, slits := [12000], scores := [] }]
    queue := (List.range 17).map cutlessOrder, runningGrade := some 0, runningPattern := some 0 }
  s.withWm { s.wm with maps := [] }

theorem listlessState_mapsSound : listlessState.mapsSound :=
  ⟨⟨fun i m (hm : m ∈ []) => absurd hm (List.not_mem_nil), List.nodup_nil⟩, ⟨Nat.zero_le _, by decide⟩, rfl⟩

/-- What ZONE_ADD leaves of `listlessState`. -/
def listlessAfter : State :=
  request .zoneAdd 1 1 [0, 0, 0, 10, 10] (zoneRequest [0, 0, 0, 10, 10]) (listlessState.withPending [])

/-- Each of the 17 orders is committed and the last one ended: 18 commits, the last of which notes a change of the BOARD
list that no turn of the loop is left to announce. -/
theorem listlessAfter_unannounced : listlessAfter.wm.boardChange.isSome = true := by decide +kernel

/-- Refutes O55: `State.mapsSound` asks for no section list, so it holds of `listlessState`, where the 18 turns of
`settleLoop` run out in one event. -/
theorem not_mapsSoundKept : ¬ Obligations.MapsSoundKept := by
  intro h
  obtain ⟨-, -, hnone⟩ := h listlessState listlessAfter listlessState_mapsSound rfl
  exact absurd listlessAfter_unannounced (by simp [hnone])

end Sys2Proof.Machine

/-! How a request is answered: what is refused, what is stored, and how an event that changed nothing of B_proj's
causes ends (R81, R83, R164, R165, R167). -/
namespace Sys2Proof.Machine

/-! ### Words -/

theorem wordOf_eq {n : Int} (h1 : -2147483648 ≤ n) (h2 : n < 4294967296) : wordOf n = BitVec.ofInt 32 n :=
  if_pos ⟨h1, h2⟩

theorem natWord_eq {n : Nat} (h : n < 4294967296) : natWord n = BitVec.ofNat 32 n := by
  rw [natWord, wordOf_eq (by omega) (by omega), BitVec.ofInt_natCast]

theorem readNat_of {lo hi : Nat} {w : Word} (h1 : lo ≤ w.toNat) (h2 : w.toNat ≤ hi) : readNat lo hi w = some w.toNat :=
  if_pos ⟨h1, h2⟩

theorem readYesNo_of {w : Word} (h : w.toNat ≤ 1) : readYesNo w = some (decide (w = 0)) := by
  have hw : w = 0 ∨ w = 1 := by bv_omega
  rcases hw with rfl | rfl <;> rfl

/-- The RUN flag is the mode. -/
theorem State.running_iff {s : State} : s.running = true ↔ s.mu.mode = .run := beq_iff_eq

theorem State.running_eq_false {s : State} : s.running = false ↔ s.mu.mode = .setup := by
  unfold State.running
  cases s.mu.mode <;> decide

/-! ### A request that is answered -/

/-- R164, R165: the reply of a request whose action answers with one part. -/
theorem request_replied {k : RequestKind} {tag : Half} {l : Word} {ws : List Word} {body : State → Outcome} {s t : State}
    {code sub : Nat} {words : List Word} (h : s.answers) (hf : requestFault k l ws = none)
    (hb : body s = (t, ⟨code, sub, words⟩)) (hw : words.length ≤ 24 := by simp)
    (hc : code + 256 * sub < 65536 := by decide) :
    request k tag l ws body s = t.replied tag code sub words := by
  have hp : partCount words.length = 1 := by
    unfold partCount ceilDiv
    omega
  rw [request_answered _ _ _ _ _ _ h hf (by rw [hb]; exact hp), hb]
  exact queueReply_one tag _ t hp hc hw

/-- R164: any level up to ENGINEER may write tables; R167's own checks are the table's. -/
theorem requestFault_tableWrite {l n i g : Word} {fields : List Word} (hl : l.toNat ≤ 2) :
    requestFault .tableWrite l (n :: i :: g :: fields) = none := by
  simp [requestFault, RequestKind.leastLevel, RequestKind.countFits, Nat.not_lt.mpr hl]

/-- R167: the reply of a table write. -/
theorem writeRequest_replied {n : Word} {tag : Half} {l i g : Word} {fields : List Word}
    {write : Word → Word → Word → List Word → State → Outcome} {s t : State} {code sub : Nat} {words : List Word}
    (h : s.answers) (hl : l.toNat ≤ 2) (hb : write l i g fields s = (t, ⟨code, sub, words⟩))
    (hw : words.length ≤ 24 := by simp) (hc : code + 256 * sub < 65536 := by decide) :
    writeRequest n tag l (i :: g :: fields) write s = t.replied tag code sub words :=
  request_replied h (requestFault_tableWrite hl) hb hw hc

/-! ### The shared checks of a table write (R167) -/

theorem guardWrite_passed {r : Bool} {c : GroupClass} {l : Word} {s : State} {body : Outcome} (hr : r = true)
    (ha : writeAccess c l = true) (hs : c = .setup → s.running = false) : guardWrite r c l s body = body := by
  subst hr
  unfold guardWrite
  rw [ha, if_neg (by simp), if_neg (by simp), if_neg (fun h => by simp [hs h.1] at h)]

/-- R167 step 4: class S in RUN. -/
theorem guardWrite_notInSetup {r : Bool} {l : Word} {s : State} {body : Outcome} (hr : r = true)
    (ha : writeAccess .setup l = true) (hs : s.running = true) : guardWrite r .setup l s body = refuse notInSetupCode s := by
  subst hr
  simp [guardWrite, ha, hs]

/-- R167 step 3: class R. -/
theorem writeReadOnly_refused {r : Bool} {l : Word} {s : State} (hr : r = true) :
    writeReadOnly r l s = refuse accessCode s := by
  subst hr
  rfl

/-! ### The end of an event (R28, R81, R83) -/

/-- A request that changed nothing and asks for no recomputation ends as it is. -/
theorem settledWhen_unchanged {f : State → Bool} {body : State → Outcome} {s : State} {a : Answer} (hb : body s = (s, a))
    (hf : (f s && a.passed) = false) (hc : s.wm.boardChange = none) : settledWhen f body s = (s, a) := by
  unfold settledWhen
  simp only [hb, hf, bne_self_eq_false, settle_idle _ s hc rfl]

/-- In SETUP a request that noted no change may have B_proj recomputed, no more. -/
theorem settledWhen_setup {f : State → Bool} {body : State → Outcome} {s t : State} {a : Answer} (hb : body s = (t, a))
    (hc : t.wm.boardChange = none) (hr : t.running = false) :
    ∃ b, settledWhen f body s = (t.withProjection b, a) := by
  unfold settledWhen
  simp only [hb, settle_setup _ _ _ t hc hr]
  split
  · exact ⟨projection t, rfl⟩
  · exact ⟨t.op.bproj, rfl⟩

/-! ### TABLE_WRITE by table id -/

/-- R167: TABLE_WRITE is the row of the table its first word names. -/
theorem tableWrite_eq {n : Word} {tag : Half} {l : Word} {ws : List Word}
    {write : Word → Word → Word → List Word → State → Outcome}
    (h : ∀ i g fields s, tableRequest l (n :: i :: g :: fields) s = write l i g fields s) (s : State) :
    exec (.tableWrite tag l (n :: ws)) s = .next (writeRequest n tag l ws write s) := by
  refine congrArg Host.Outcome.next (congrArg (fun body => request .tableWrite tag l (n :: ws) body s) (funext fun t => ?_))
  match ws with
  | i :: g :: fields => exact h i g fields t
  | [] => rfl
  | [_] => rfl

/-- R167: the tables of class R. -/
theorem tableWrite_readOnly {tag : Half} {l n i g : Word} {fields : List Word} {s : State} {r : Bool} (h : s.answers)
    (hl : l.toNat ≤ 2) (hr : r = true) (hw : tableRequest l (n :: i :: g :: fields) s = writeReadOnly r l s) :
    exec (.tableWrite tag l (n :: i :: g :: fields)) s = .next (s.replied tag 5 0 []) :=
  congrArg _ (request_replied h (requestFault_tableWrite hl) (hw.trans (writeReadOnly_refused hr)))

theorem tableRequest_unknown {l n i g : Word} {fields : List Word} {s : State} (hn : n.toNat = 0 ∨ 21 < n.toNat) :
    tableRequest l (n :: i :: g :: fields) s = refuse unknownCode s := by
  unfold tableRequest writeTable
  dsimp only
  repeat' split
  all_goals first | omega | rfl

/-- Settles O29, table by table. -/
theorem tableWriteIsTheRow : Obligations.TableWriteIsTheRow := by
  intro tag l w s
  have row {n : Word} {write : Word → Word → Word → List Word → State → Outcome}
      (h : ∀ i g fields s, tableRequest l (n :: i :: g :: fields) s = write l i g fields s) :=
    tableWrite_eq (tag := tag) (ws := w) h s
  refine ⟨row fun _ _ _ _ => rfl, row fun _ _ _ _ => rfl, row fun _ _ _ _ => rfl, row fun _ _ _ _ => rfl,
    row fun _ _ _ _ => rfl, row fun _ _ _ _ => rfl, row fun _ _ _ _ => rfl, row fun _ _ _ _ => rfl,
    row fun _ _ _ _ => rfl, row fun _ _ _ _ => rfl, row fun _ _ _ _ => rfl, row fun _ _ _ _ => rfl,
    row fun _ _ _ _ => rfl, row fun _ _ _ _ => rfl, row fun _ _ _ _ => rfl, row fun _ _ _ _ => rfl,
    row fun _ _ _ _ => rfl, fun h hl => ⟨?_, ?_, ?_, ?_, ?_⟩⟩
  · exact fun _ => tableWrite_readOnly h hl rfl rfl
  · exact fun _ _ => tableWrite_readOnly h hl rfl rfl
  · exact fun _ _ hi => tableWrite_readOnly h hl (decide_eq_true ⟨hi, rfl⟩) rfl
  · exact fun _ _ _ hi => tableWrite_readOnly h hl (decide_eq_true hi) rfl
  · exact fun _ _ _ _ hn =>
      congrArg _ (request_replied h (requestFault_tableWrite hl) (tableRequest_unknown hn))

/-! ### Class S in RUN -/

/-- R167: the answer to a class S group's write in RUN. -/
theorem writeRequest_notInSetup {n : Word} {tag : Half} {i g : Word} {fields : List Word}
    {write : Word → Word → Word → List Word → State → Outcome} {s : State} {r : Bool} {body : Outcome} (h : s.answers)
    (hm : s.mu.mode = .run) (hr : r = true) (hw : write 2 i g fields s = guardWrite r .setup 2 s body) :
    writeRequest n tag 2 (i :: g :: fields) write s = s.replied tag 6 0 [] :=
  writeRequest_replied h (by decide) (hw.trans (guardWrite_notInSetup hr rfl (State.running_iff.mpr hm)))

/-- Settles O30: the shared check of R167 comes before each table's own checks. -/
theorem classSRefusedInRun : Obligations.ClassSRefusedInRun := by
  intro tag i fields s h hm
  have hrun : s.running = true := State.running_iff.mpr hm
  have settles {write : State → Outcome} {r : Bool} {body : Outcome} (hr : r = true) (hc : s.wm.boardChange = none)
      (hw : write s = guardWrite r .setup 2 s body) : settled false write s = refuse notInSetupCode s :=
    settledWhen_unchanged (hw.trans (guardWrite_notInSetup hr rfl hrun)) rfl hc
  refine ⟨?_, ?_, ?_, ?_, ?_, ?_, ?_, ?_, ?_⟩
  · exact fun hi hc => congrArg _ (writeRequest_replied h (by decide) (settles (decide_eq_true ⟨hi, rfl⟩) hc rfl))
  · exact fun hi => congrArg _ (writeRequest_notInSetup h hm (decide_eq_true ⟨hi, rfl⟩) rfl)
  · rintro rfl
    refine ⟨congrArg _ (writeRequest_notInSetup h hm rfl rfl), congrArg _ (writeRequest_notInSetup h hm rfl rfl),
      fun hc => congrArg _ (writeRequest_replied h (by decide) ?_)⟩
    simp only [cutPlannerRequest, hrun]
    exact settles rfl hc rfl
  · exact fun hi => congrArg _ (writeRequest_notInSetup h hm (decide_eq_true ⟨hi, rfl⟩) rfl)
  · exact fun hi => congrArg _ (writeRequest_notInSetup h hm (decide_eq_true ⟨hi, rfl⟩) rfl)
  · exact fun hi hj => congrArg _ (writeRequest_notInSetup h hm (decide_eq_true ⟨hi, hj, rfl⟩) rfl)
  · exact fun hi => ⟨congrArg _ (writeRequest_notInSetup h hm (decide_eq_true ⟨hi, rfl⟩) rfl),
      congrArg _ (writeRequest_notInSetup h hm (decide_eq_true ⟨hi, by decide⟩) rfl)⟩
  · exact fun hi => congrArg _ (writeRequest_notInSetup h hm (decide_eq_true ⟨hi, by decide⟩) rfl)
  · exact fun hi => congrArg _ (writeRequest_notInSetup h hm (decide_eq_true ⟨hi, by decide⟩) rfl)

end Sys2Proof.Machine

/-! What the table writes store (R167). -/
namespace Sys2Proof.Machine

theorem State.answersInSetup.running {s : State} (h : s.answersInSetup) : s.running = false :=
  State.running_eq_false.mpr h.2

/-- A write of a class S group in SETUP is left to the table's own checks. -/
theorem guardWrite_inSetup {r : Bool} {c : GroupClass} {s : State} {body : Outcome} (h : s.answersInSetup) (hr : r = true)
    (ha : writeAccess c 2 = true) : guardWrite r c 2 s body = body :=
  guardWrite_passed hr ha fun _ => h.running

/-- A write of a group that has no class S field is left to the table's own checks in both modes. -/
theorem guardWrite_anyMode {r : Bool} {c : GroupClass} {l : Word} {s : State} {body : Outcome} (hr : r = true)
    (ha : writeAccess c l = true) (hc : c ≠ .setup) : guardWrite r c l s body = body :=
  guardWrite_passed hr ha fun h => absurd h hc

theorem ownStation_eq_false {k : Key} {s : State} (h : ¬(s.workingAddress = true ∧ k.station = s.ownByte)) :
    ownStation k s = false := by
  simpa [ownStation] using h

/-- No other index of a table of `n` records satisfies a test. -/
theorem any_other_eq_false {n i : Nat} {p : Nat → Bool} (h : ∀ j, j ≠ i → p j = false) :
    (List.range n).any (fun j => j != i && p j) = false := by
  simp only [List.any_eq_false, Bool.and_eq_true, bne_iff_ne, ne_eq, not_and, Bool.not_eq_true]
  exact fun j _ hj => h j hj

theorem Option_any_eq_false {α : Type} {o : Option α} {p : α → Bool} (h : ∀ a, o = some a → p a = false) :
    o.any p = false := by
  cases o with
  | none => rfl
  | some a => exact h a rfl

/-! ### Links (R2, R3) -/

theorem readLink_of {up down r st widen corr : Word} (hu : up.toNat ≤ 11) (hd : down.toNat ≤ 11) (hr : 2048 ≤ r.toNat)
    (hr' : r.toNat ≤ 8192) (hs : st.toNat ≤ 1) (hw : widen.toNat ≤ 1000000) (hc : corr.toNat ≤ 100000) :
    readLink [up, down, r, st, widen, corr] = some
      { up := up.toNat, down := down.toNat, ratio := r.toNat, store := decide (st = 0), storeWiden := widen.toNat
        maxCorr := corr.toNat, aUp := 0, aDown := 0, anchored := false } := by
  simp [readLink, readNat, readYesNo_of hs, *]

theorem writeLink_stored {i up down r st widen corr : Word} {s : State} {l : Link} (h : s.answersInSetup)
    (hi : i.toNat ≤ 10) (hn : namesNoSections [up, down, r, st, widen, corr] = false)
    (hl : readLink [up, down, r, st, widen, corr] = some l) (hud : l.up ≠ l.down) :
    writeLink 2 i 0 [up, down, r, st, widen, corr] s = (s.setLink i.toNat (some l), Answer.ok []) := by
  refine (guardWrite_inSetup h (decide_eq_true ⟨hi, rfl⟩) rfl).trans ?_
  simp [hn, hl, hud]

theorem writeLink_named {i up down r st widen corr : Word} {s : State} (h : s.answersInSetup) (hi : i.toNat ≤ 10)
    (hu : up = absentWord) (hd : down = absentWord) :
    writeLink 2 i 0 [up, down, r, st, widen, corr] s =
      if linkInUse i.toNat s then refuse inUseCode s else (s.setLink i.toNat none, Answer.ok []) := by
  refine (guardWrite_inSetup h (decide_eq_true ⟨hi, rfl⟩) rfl).trans ?_
  simp [namesNoSections, hu, hd]

/-- Settles O18: a link is stored, freed, or in use. -/
theorem linkWriteStores : Obligations.LinkWriteStores := by
  intro tag i up down r st widen corr s h hi
  refine ⟨fun hu hd hud hr hr' hs hw hc => ?_, fun hu hd => ⟨fun hf => ?_, fun hf => ?_⟩⟩
  · have habsent : up ≠ absentWord := by rintro rfl; simp [absentWord] at hu
    refine congrArg _ (writeRequest_replied h.1 (by decide) (writeLink_stored h hi ?_ (readLink_of hu hd hr hr' hs hw hc) ?_))
    · simp [namesNoSections, habsent]
    · exact fun he => hud (BitVec.eq_of_toNat_eq he)
  · exact congrArg _ (writeRequest_replied h.1 (by decide) ((writeLink_named h hi hu hd).trans (if_neg (by simp [hf]))))
  · exact congrArg _ (writeRequest_replied h.1 (by decide) ((writeLink_named h hi hu hd).trans (if_pos hf)))

/-! ### The relay's tables (R47, R50, R53, R55) -/

theorem writeRelay_stored {n w : Word} {s : State} (h : s.answersInSetup) (hn : 500 ≤ n.toNat) (hn' : n.toNat ≤ 4000)
    (hw : 100 ≤ w.toNat) (hnw : w.toNat + 100 ≤ n.toNat) :
    writeRelay 2 0 0 [n, w] s = (s.withFr { s.fr with nominal := n.toNat, window := w.toNat }, Answer.ok []) := by
  refine (guardWrite_inSetup h rfl rfl).trans ?_
  simp [readNat_of hn hn', readNat_of hw (show w.toNat ≤ 4000 by omega), hnw]

theorem writeThreshold_stored {i t : Word} {s : State} (h : s.answersInSetup) (hi : 1 ≤ i.toNat) (hi' : i.toNat ≤ 62)
    (ht : t.toNat ≤ 255) :
    writeThreshold 2 i 0 [t] s = (s.adjustHealth i.toNat (fun x => { x with threshold := t.toNat }), Answer.ok []) := by
  refine (guardWrite_inSetup h (decide_eq_true ⟨hi, hi', rfl⟩) rfl).trans ?_
  simp [readNat_of (Nat.zero_le _) ht]

/-- Settles O19, by the two writes and the row of TABLE_WRITE. -/
theorem relayAndThresholdWritesStore : Obligations.RelayAndThresholdWritesStore := by
  refine ⟨fun tag n w s h hn hn' hw hnw => ?_, fun tag i t s h hi hi' ht => ?_⟩
  · have hrow := congrArg (Host.Outcome.next (φ := Fault) (ρ := Refusal))
      (writeRequest_replied (n := 3) (tag := tag) h.1 (by decide) (writeRelay_stored h hn hn' hw hnw))
    exact ⟨hrow, (tableWriteIsTheRow tag 2 [0, 0, n, w] s).2.2.1.trans hrow⟩
  · exact congrArg _ (writeRequest_replied h.1 (by decide) (writeThreshold_stored h hi hi' ht))

/-- Settles O20: the checks of a channel table entry pass, and the write stores it. -/
theorem channelEntryWriteStores : Obligations.ChannelEntryWriteStores := by
  intro tag i fields mode k src band s h hi hf hown hagrees htaken
  refine congrArg _ (writeRequest_replied h.1 (by decide) ?_)
  refine (guardWrite_inSetup h (decide_eq_true ⟨hi, rfl⟩) rfl).trans ?_
  have htaken' : keyTaken i.toNat k s = false :=
    any_other_eq_false fun j hj => Option_any_eq_false fun e he => by simpa using htaken j e he hj
  simp only [hf, ownStation_eq_false hown, htaken']
  cases mode with
  | none => rfl
  | some m =>
    obtain ⟨hs, hb⟩ := hagrees m rfl
    have hband : (m != .clamp || band.isSome) = true := by
      by_cases hm : m = .clamp
      · simp [hb hm]
      · simp [hm]
    simp only [hs, hband]
    rfl

/-- Settles O21: the checks of a watch table entry pass, and the write stores it. -/
theorem watchWriteStores : Obligations.WatchWriteStores := by
  intro tag i fields k kind owner limit s h hi hf hown hother
  refine congrArg _ (writeRequest_replied h.1 (by decide) ?_)
  refine (guardWrite_inSetup h (decide_eq_true ⟨hi, rfl⟩) rfl).trans ?_
  have hother' : (List.range 96).any (fun j => j != i.toNat && (s.slotAt j).any (fun w => w.key == k && w.kind == kind)) =
      false :=
    any_other_eq_false fun j hj => Option_any_eq_false fun w hw => by simpa using hother j w hw hj
  simp only [hf, ownStation_eq_false hown, hother']
  rfl

/-! ### Command channels (R61) -/

/-- Settles O22: the checks of a command channel record pass, and the write stores it. -/
theorem commandChannelWriteStores : Obligations.CommandChannelWriteStores := by
  intro tag i fields cls k depth accept complete s h hi hf hdepth hown hother
  refine congrArg _ (writeRequest_replied h.1 (by decide) ?_)
  refine (guardWrite_inSetup h (decide_eq_true ⟨hi, rfl⟩) rfl).trans ?_
  have hfits : ((depth == 2 && cls != some .knife) || k.any (fun k => ownStation k s)) = false := by
    rw [Option_any_eq_false fun x hx => ownStation_eq_false (hown x hx), Bool.or_false]
    simpa using hdepth
  have hother' : commandKeyTaken i.toNat k s = false := by
    cases k with
    | none => rfl
    | some x =>
      refine any_other_eq_false fun j hj => Option_any_eq_false fun c hc => ?_
      simpa using fun hl => hother j c x hc hj hl rfl
  simp only [hf, hfits, hother']
  rfl

/-! ### Grades, patterns and the planner record (R75 to R77) -/

theorem readGradeWebs_length {fields : List Word} {w : Nat × List (Option Nat)} (h : readGradeWebs fields = some w) :
    fields.length = 7 := by
  unfold readGradeWebs at h
  split at h
  · rfl
  · cases h

/-- An order that keeps a grade or pattern in use is committed, and not yet done. -/
theorem Order.working_eq_false {o : Order} (h1 : o.state ≠ .committed) (h2 : o.state ≠ .cutting) (h3 : o.state ≠ .stacking) :
    o.working = false := by
  simp [Order.working, h1, h2, h3]

theorem writeGrade_loaded {i rel : Word} {fields : List Word} {w : Nat × List (Option Nat)} {s : State}
    (hi : i.toNat ≤ 31) (hl : i.toNat = s.op.grades.length) (hr : rel.toNat ≤ 1) (hw : readGradeWebs fields = some w) :
    writeGrade 2 i 0 (rel :: fields) s =
      (s.withOp { s.op with grades := s.op.grades ++ [{ released := decide (rel = 0), width := w.1, papers := w.2
                                                        gens := List.replicate 24 GradeGen.initial }] }, Answer.ok []) := by
  have hnone : s.gradeAt i.toNat = none := List.getElem?_eq_none hl.ge
  refine (guardWrite_anyMode (decide_eq_true ⟨hi, by decide⟩) rfl (by decide)).trans ?_
  simp [writeGradeHead, readYesNo_of hr, hnone, hw, readGradeWebs_length hw, if_pos hl]

theorem writeGrade_replaced {i g : Word} {fields : List Word} {x : GradeGen} {old : Grade} {s : State} (hi : i.toNat ≤ 31)
    (hg : 1 ≤ g.toNat) (hg' : g.toNat ≤ 24) (hx : readGradeGen fields = some x) (ho : s.gradeAt i.toNat = some old)
    (hu : ∀ o ∈ s.op.queue, o.grade = i.toNat → o.state ≠ .committed ∧ o.state ≠ .cutting ∧ o.state ≠ .stacking) :
    writeGrade 2 i g fields s =
      (s.withOp { s.op with grades := s.op.grades.set i.toNat { old with gens := old.gens.set (g.toNat - 1) x } },
       Answer.ok []) := by
  have hg0 : ¬g = 0#32 := by rintro rfl; simp at hg
  have hlocked (new : Grade) : gradeLocked i.toNat old new s = false := by
    unfold gradeLocked
    rw [List.any_eq_false.mpr fun o hq => ?_, Bool.false_and]
    rw [Bool.and_eq_true, beq_iff_eq]
    rintro ⟨hwork, hgrade⟩
    obtain ⟨h1, h2, h3⟩ := hu o hq hgrade
    simp [Order.working_eq_false h1 h2 h3] at hwork
  refine (guardWrite_anyMode (decide_eq_true ⟨hi, hg'⟩) (by simp [hg0, writeAccess]) (by simp [hg0])).trans ?_
  simp [hg0, hx, ho, storeGrade, hlocked]

theorem writePattern_loaded {i rel : Word} {fields : List Word} {w o : Nat} {slits scores : List Nat} {s : State}
    (hi : i.toNat ≤ 63) (hl : i.toNat = s.op.patterns.length) (hr : rel.toNat ≤ 1)
    (hw : readPatternBody fields = some (w, o, slits, scores)) :
    writePattern 2 i 0 (rel :: fields) s =
      (s.withOp { s.op with patterns := s.op.patterns ++ [{ released := decide (rel = 0), width := w, outs := o
                                                            slits := slits, scores := scores }] }, Answer.ok []) := by
  have hnone : s.patternAt i.toNat = none := List.getElem?_eq_none hl.ge
  refine (guardWrite_anyMode (decide_eq_true ⟨hi, by decide⟩) rfl (by decide)).trans ?_
  simp [readYesNo_of hr, hnone, hw, if_pos hl]

/-- R77, R167: at OPERATE the released flag alone is written. -/
theorem writePattern_released {i rel : Word} {fields : List Word} {old : Pattern} {s : State} (hi : i.toNat ≤ 63)
    (hr : rel.toNat ≤ 1) (ho : s.patternAt i.toNat = some old) (hs : patternShape fields = true) :
    writePattern 1 i 0 (rel :: fields) s =
      (s.withOp { s.op with patterns := s.op.patterns.set i.toNat { old with released := decide (rel = 0) } },
       Answer.kept [1, 2, 3, 4]) := by
  refine (guardWrite_anyMode (decide_eq_true ⟨hi, by decide⟩) rfl (by decide)).trans ?_
  simp [readYesNo_of hr, ho, hs, storePattern]

/-- Settles O23, by the four writes. -/
theorem gradeAndPatternWritesStore : Obligations.GradeAndPatternWritesStore := by
  intro tag i s h
  refine ⟨?_, ?_, ?_, ?_⟩
  · exact fun rel fields w hi hl hr hw =>
      congrArg _ (writeRequest_replied h (by decide) (writeGrade_loaded hi hl hr hw))
  · exact fun g fields x old hi hg hg' hx ho hu =>
      congrArg _ (writeRequest_replied h (by decide) (writeGrade_replaced hi hg hg' hx ho hu))
  · exact fun rel fields w o slits scores hi hl hr hw =>
      congrArg _ (writeRequest_replied h (by decide) (writePattern_loaded hi hl hr hw))
  · exact fun rel fields old hi hr ho hs =>
      congrArg _ (writeRequest_replied h (by decide) (writePattern_released hi hr ho hs))

end Sys2Proof.Machine

/-! What the table writes store, continued: the settings of the planners, splice records, stations and generators. -/
namespace Sys2Proof.Machine

/-! ### The planner, the pair and the curves (Tables 5-4, 7-1, 10-1) -/

theorem writePlanner_stored {a b c : Word} {s : State} (ha : a.toNat ≤ 10000000) (hb : b.toNat ≤ 10000000)
    (hc : c.toNat ≤ 10000000) : writePlanner 2 0 0 [a, b, c] s =
      (s.withOp { s.op with presetDist := a.toNat, minCommit := b.toNat, gradeMargin := c.toNat }, Answer.ok []) := by
  refine (guardWrite_anyMode rfl rfl (by decide)).trans ?_
  simp [readAll, readNat_of (Nat.zero_le _), *]

theorem writePair_stored {n : Word} {s : State} (h : 5000 ≤ n.toNat) (h' : n.toNat ≤ 1000000) :
    writePair 2 0 0 [n] s = (s.withSp { s.sp with lateStep := n.toNat }, Answer.ok []) := by
  refine (guardWrite_anyMode rfl rfl (by decide)).trans ?_
  simp [readAll, readNat_of h h']

theorem writeCurve_stored {i : Word} {fields : List Word} {bs : List Breakpoint} {s : State} (hi : i.toNat ≤ 63)
    (hb : readCurve fields = some bs) :
    writeCurve 2 i 0 fields s = (s.withSs { s.ss with curves := s.ss.curves.set i.toNat bs }, Answer.ok []) := by
  refine (guardWrite_anyMode (decide_eq_true ⟨hi, rfl⟩) rfl (by decide)).trans ?_
  simp [hb]

theorem readCurve_two {v1 y1 v2 y2 : Word} (hv : v1.toNat < v2.toNat) (hv2 : v2.toNat ≤ 6000) (hy1 : y1.toNat ≤ 65535)
    (hy2 : y2.toNat ≤ 65535) :
    readCurve [2, v1, y1, v2, y2] = some [⟨v1.toNat, y1.toNat⟩, ⟨v2.toNat, y2.toNat⟩] := by
  simp [readCurve, readBreakpoints, readNat, ascending, hv, hv2, hy1, hy2, show v1.toNat ≤ 6000 by omega]

/-- Settles O24, write by write. -/
theorem plannerPairAndCurveWritesStore : Obligations.PlannerPairAndCurveWritesStore := by
  intro tag s h
  refine ⟨?_, ?_, fun i hi => ⟨?_, ?_, ?_⟩⟩
  · exact fun a b c ha hb hc => congrArg _ (writeRequest_replied h (by decide) (writePlanner_stored ha hb hc))
  · exact fun n hn hn' => congrArg _ (writeRequest_replied h (by decide) (writePair_stored hn hn'))
  · exact fun fields bs hb => congrArg _ (writeRequest_replied h (by decide) (writeCurve_stored hi hb))
  · exact congrArg _ (writeRequest_replied h (by decide) (writeCurve_stored hi rfl))
  · exact fun v1 y1 v2 y2 hv hv2 hy1 hy2 =>
      congrArg _ (writeRequest_replied h (by decide) (writeCurve_stored hi (readCurve_two hv hv2 hy1 hy2)))

/-! ### Splice records (R95) -/

theorem writeSplice_head {i : Word} {fields : List Word} {x : SpliceHead} {s : State} (h : s.answersInSetup)
    (hi : i.toNat ≤ 5) (hf : readSpliceHead fields = some x)
    (ho : ∀ j w, s.webAt j = some w → j ≠ i.toNat → w.cfg.sec ≠ x.sec ∧ w.cfg.channel ≠ x.channel) :
    writeSplice 2 i 0 fields s = (storeSpliceHead i.toNat x s, Answer.ok []) := by
  refine (guardWrite_inSetup h (decide_eq_true ⟨hi, by decide⟩) rfl).trans ?_
  have hother : (List.range 6).any (fun j => j != i.toNat && (s.webAt j).any (fun w =>
      w.cfg.sec == x.sec || w.cfg.channel == x.channel)) = false :=
    any_other_eq_false fun j hj => Option_any_eq_false fun w hw => by simpa using ho j w hw hj
  simp [hf, hother]

/-- Whether the words of group 1 are in range does not depend on the record. -/
theorem readSpliceSettings_isSome {c d : WebCfg} {fields : List Word} (h : (readSpliceSettings c fields).isSome = true) :
    (readSpliceSettings d fields).isSome = true := by
  unfold readSpliceSettings at *
  split
  · simpa [Option.isSome_bind] using h
  · simp at h

theorem writeSplice_settings {i : Word} {fields : List Word} {w : Web} {cfg : WebCfg} {s : State} (hi : i.toNat ≤ 5)
    (hw : s.webAt i.toNat = some w) (hf : readSpliceSettings w.cfg fields = some cfg) :
    writeSplice 2 i 1 fields s = (s.withSc (s.sc.set i.toNat (some { w with cfg := cfg })), Answer.ok []) := by
  refine (guardWrite_anyMode (decide_eq_true ⟨hi, by decide⟩) rfl (by decide)).trans ?_
  obtain ⟨x, hx⟩ := Option.isSome_iff_exists.mp
    (readSpliceSettings_isSome (d := WebCfg.loaded ⟨true, 0, .primary, 0, 0, 0, none⟩) (Option.isSome_of_eq_some hf))
  simp [hx, hw, hf]

/-- Settles O25, by the two groups. -/
theorem spliceWriteStores : Obligations.SpliceWriteStores := by
  intro tag i fields s hi
  refine ⟨fun x h hf ho => ⟨fun hu hn => ?_, fun w hu hw => ?_, fun hu => ?_⟩, fun w cfg h hw hf => ?_⟩
  · refine congrArg _ (writeRequest_replied h.1 (by decide) ((writeSplice_head h hi hf ho).trans ?_))
    simp [storeSpliceHead, hu, hn, WebCfg.loaded, Answer.ok]
  · refine congrArg _ (writeRequest_replied h.1 (by decide) ((writeSplice_head h hi hf ho).trans ?_))
    simp [storeSpliceHead, hu, hw, WebCfg.withHead, Answer.ok]
  · refine congrArg _ (writeRequest_replied h.1 (by decide) ((writeSplice_head h hi hf ho).trans ?_))
    simp [storeSpliceHead, hu, Answer.ok]
  · exact congrArg _ (writeRequest_replied h (by decide) (writeSplice_settings hi hw hf))

/-! ### Generators (R154) -/

theorem writeGenerator_head {i u sec point k : Word} {slot : Option Nat} {s : State} (h : s.answersInSetup)
    (hi : i.toNat ≤ 23) (hu : u.toNat ≤ 1) (hs : sec.toNat ≤ 11) (hp : point.toNat ≤ 7) (hk : readOpt 0 95 k = some slot)
    (ho : ∀ j g, s.generatorAt j = some g → j ≠ i.toNat → ¬(g.cfg.sec = sec.toNat ∧ g.cfg.point = point.toNat)) :
    writeGenerator 2 i 0 [u, sec, point, k] s =
      (storeGenerator i.toNat (decide (u = 0)) sec.toNat point.toNat slot s, Answer.ok []) := by
  refine (guardWrite_inSetup h (decide_eq_true ⟨hi, by decide⟩) rfl).trans ?_
  have hother : (List.range 24).any (fun j => j != i.toNat && (s.generatorAt j).any (fun g =>
      g.cfg.sec == sec.toNat && g.cfg.point == point.toNat)) = false :=
    any_other_eq_false fun j hj => Option_any_eq_false fun g hg => by simpa using ho j g hg hj
  simp [readYesNo_of hu, readNat_of (Nat.zero_le _) hs, readNat_of (Nat.zero_le _) hp, hk, hother]

/-- Whether the words of group 1 are in range does not depend on the record. -/
theorem readGeneratorSettings_isSome {c d : GenCfg} {fields : List Word}
    (h : (readGeneratorSettings c fields).isSome = true) : (readGeneratorSettings d fields).isSome = true := by
  unfold readGeneratorSettings at *
  split
  · simpa [Option.isSome_bind, apply_ite Option.isSome] using h
  · simp at h

theorem writeGenerator_settings {i : Word} {fields : List Word} {g : Generator} {cfg : GenCfg} {s : State}
    (hi : i.toNat ≤ 23) (hg : s.generatorAt i.toNat = some g) (hf : readGeneratorSettings g.cfg fields = some cfg)
    (ho : outputStays g cfg s = true) :
    writeGenerator 2 i 1 fields s =
      (s.withSs { s.ss with generators := s.ss.generators.set i.toNat (some { g with cfg := cfg }) }, Answer.ok []) := by
  refine (guardWrite_anyMode (decide_eq_true ⟨hi, by decide⟩) rfl (by decide)).trans ?_
  obtain ⟨x, hx⟩ := Option.isSome_iff_exists.mp
    (readGeneratorSettings_isSome (d := GenCfg.loaded 0 0 none) (Option.isSome_of_eq_some hf))
  simp [hx, hg, hf, ho]

/-- Settles O28, by the two groups. -/
theorem generatorWriteStores : Obligations.GeneratorWriteStores := by
  intro tag i s hi
  refine ⟨fun u sec point k slot h hs hp hk ho => ?_, fun fields g cfg h hg hf ho => ?_⟩
  · have row (hu : u.toNat ≤ 1) := writeGenerator_head (i := i) h hi hu hs hp hk ho
    refine ⟨fun hu hn => ?_, fun g hu hg => ?_, fun hu => ?_⟩
    · refine congrArg _ (writeRequest_replied h.1 (by decide) ((row (by simp [hu])).trans ?_))
      simp [storeGenerator, hu, hn, GenCfg.loaded, Answer.ok]
    · refine congrArg _ (writeRequest_replied h.1 (by decide) ((row (by simp [hu])).trans ?_))
      simp [storeGenerator, hu, hg, Answer.ok]
    · refine congrArg _ (writeRequest_replied h.1 (by decide) ((row (by simp [hu])).trans ?_))
      simp [storeGenerator, hu, Answer.ok]
  · refine congrArg _ (writeRequest_replied h (by decide) (writeGenerator_settings hi hg hf ?_))
    unfold outputStays
    rcases ho with hm | hl | hn | ⟨o, ho, hlo, hhi⟩
    · simp [State.running_eq_false.mpr hm]
    · simp [hl]
    · simp [hn]
    · simp [ho, hlo, hhi]

/-! ### Slitter stations (R114) -/

/-- R121, R122: in SETUP the end of the cover run makes no zone. -/
theorem endCover_setup {cause : ZoneCause} {s : State} (h : s.running = false) :
    endCover cause s = if coverCause s then s else s.withSp { s.sp with cover := { s.sp.cover with active := false } } := by
  unfold endCover
  by_cases hc : coverCause s = true
  · simp [hc]
  · cases ha : s.sp.cover.active with
    | true => simp [hc, h]
    | false =>
      have hsame : ({ s.sp.cover with active := false } : Cover) = s.sp.cover := by rw [← ha]
      rw [hsame, if_neg hc]
      rfl

theorem stationAt_set_none {s : State} {i j : Nat} :
    (s.withSp { s.sp with stations := s.sp.stations.set i none }).stationAt j = if j = i then none else s.stationAt j := by
  simp only [State.stationAt, lookup, State.withSp_sp, List.getElem?_set]
  by_cases h : i = j
  · rw [if_pos h, if_pos h.symm]
    split <;> rfl
  · rw [if_neg h, if_neg (Ne.symm h)]

theorem Option_any_eq_true {α : Type} {o : Option α} {p : α → Bool} : o.any p = true ↔ ∃ a, o = some a ∧ p a = true := by
  cases o <;> simp

/-- R121: what keeps the cover run when a station is freed. -/
theorem coverCause_freed {s : State} {i : Nat} (hi : i ≤ 1) :
    coverCause (s.withSp { s.sp with stations := s.sp.stations.set i none }) = true ↔
      (∃ w, s.sp.swap = some w ∧ w.stage = .late) ∨
        ∃ y, s.stationAt (1 - i) = some y ∧ y.state = .fault ∧ y.atRisk = true := by
  have h2 : List.range 2 = [0, 1] := rfl
  have hi' : i = 0 ∨ i = 1 := by omega
  rcases hi' with rfl | rfl <;>
    simp [coverCause, swapLate, stationAt_set_none, h2, Option_any_eq_true]

/-- R114, R121: a station freed in SETUP. -/
theorem storeStation_freed {i c k : Nat} {s : State} (h : s.running = false) :
    storeStation i false c k s =
      let t := s.withSp { s.sp with stations := s.sp.stations.set i none }
      if coverCause t then t else t.withSp { t.sp with cover := { t.sp.cover with active := false } } :=
  endCover_setup h

theorem writeStation_head {i u c k : Word} {s : State} (h : s.answersInSetup) (hi : i.toNat ≤ 1) (hu : u.toNat ≤ 1)
    (hc : c.toNat ≤ 23) (hk : k.toNat ≤ 95)
    (ho : ∀ y, s.stationAt (1 - i.toNat) = some y → y.cfg.channel ≠ c.toNat ∧ y.cfg.slot ≠ k.toNat) :
    writeStation 2 i 0 [u, c, k] s =
      (storeStation i.toNat (decide (u = 0)) c.toNat k.toNat s, Answer.ok []) := by
  refine (guardWrite_inSetup h (decide_eq_true ⟨hi, by decide⟩) rfl).trans ?_
  have hother : (s.stationAt (1 - i.toNat)).any (fun y => y.cfg.channel == c.toNat || y.cfg.slot == k.toNat) = false :=
    Option_any_eq_false fun y hy => by simpa using ho y hy
  simp [readYesNo_of hu, readNat_of (Nat.zero_le _) hc, readNat_of (Nat.zero_le _) hk, hother]

theorem writeStation_settings {i t z : Word} {x : Slitter} {s : State} (hi : i.toNat ≤ 1) (ht : t.toNat ≤ 10000)
    (hz : z.toNat ≤ 1000000) (hx : s.stationAt i.toNat = some x) :
    writeStation 2 i 1 [t, z] s = (s.adjustStation i.toNat (fun x =>
      { x with cfg := { x.cfg with leadTime := t.toNat, faultZone := z.toNat } }), Answer.ok []) := by
  refine (guardWrite_anyMode (decide_eq_true ⟨hi, by decide⟩) rfl (by decide)).trans ?_
  simp [readNat_of (Nat.zero_le _) ht, readNat_of (Nat.zero_le _) hz, hx]

/-- Settles O26, by the two groups. -/
theorem stationWriteStores : Obligations.StationWriteStores := by
  intro tag i s hi
  refine ⟨fun u c k h hc hk ho => ?_, fun t z x h ht hz hx => ?_⟩
  · have row (hu : u.toNat ≤ 1) := writeStation_head (i := i) h hi hu hc hk ho
    refine ⟨fun hu hn => ?_, fun x hu hx => ?_, fun hu => ⟨fun hkept => ?_, fun hkept => ?_⟩⟩
    · refine congrArg _ (writeRequest_replied h.1 (by decide) ((row (by simp [hu])).trans ?_))
      simp [storeStation, hu, hn, Slitter.loaded, Answer.ok]
    · refine congrArg _ (writeRequest_replied h.1 (by decide) ((row (by simp [hu])).trans ?_))
      simp [storeStation, hu, hx, Answer.ok]
    · refine congrArg _ (writeRequest_replied h.1 (by decide) ((row (by simp [hu])).trans ?_))
      rw [hu, decide_eq_false (by decide), storeStation_freed h.running, if_pos ((coverCause_freed hi).mpr hkept)]
      rfl
    · refine congrArg _ (writeRequest_replied h.1 (by decide) ((row (by simp [hu])).trans ?_))
      rw [hu, decide_eq_false (by decide), storeStation_freed h.running, if_neg (mt (coverCause_freed hi).mp hkept)]
      rfl
  · exact congrArg _ (writeRequest_replied h (by decide) (writeStation_settings hi ht hz hx))

/-! ### The Cut Planner and the Stack and Gate Unit (R128, R143) -/

/-- A request that leaves what B_proj depends on as it was ends as its action left it. -/
theorem settledWhen_sameSignature {f : State → Bool} {body : State → Outcome} {s t : State} {a : Answer}
    (hb : body s = (t, a)) (hf : f t = false) (hc : t.wm.boardChange = none) (hs : t.signature = s.signature)
    (ht : t.boardCount = s.boardCount) : settledWhen f body s = (t, a) := by
  unfold settledWhen
  simp only [hb, hf, ht, bne_self_eq_false, Bool.false_and, settle_idle _ t hc hs]

theorem replanAll_setup {s : State} (h : s.running = false) : replanAll s = s := by simp [replanAll, h]

theorem writeCutPlanner_head {k r : Word} {knife : Option Nat} {role : Role} {s : State} (h : s.answersInSetup)
    (hk : readOpt 0 23 k = some knife) (hr : readRole r = some role) :
    writeCutPlanner 2 0 0 [k, r] s = (s.withCp { s.cp with knife := knife, role := role }, Answer.ok []) := by
  refine (guardWrite_inSetup h rfl rfl).trans ?_
  simp [hk, hr]

theorem writeCutPlanner_settings {a b c d e f : Word} {s : State} (h : s.answersInSetup) (ha : 2000 ≤ a.toNat)
    (ha' : a.toNat ≤ 10000) (hb : 2000 ≤ b.toNat) (hb' : b.toNat ≤ 40000) (hc : 2000 ≤ c.toNat) (hc' : c.toNat ≤ 80000)
    (hd : 10000 ≤ d.toNat) (hd' : d.toNat ≤ 2000000) (he : e.toNat ≤ 10000) (hf : 100 ≤ f.toNat) (hf' : f.toNat ≤ 100000) :
    writeCutPlanner 2 0 1 [a, b, c, d, e, f] s =
      (s.withCp { s.cp with minPiece := a.toNat, swapGap := b.toNat, scrapLen := c.toNat, horizon := d.toNat
                            cutTol := e.toNat, missDist := f.toNat }, Answer.ok []) := by
  refine (guardWrite_anyMode rfl rfl (by decide)).trans ?_
  simp [readCutSettings, readNat, replanAll_setup, State.running, *]

theorem signature_withCp {p : CutPlanner} {s : State} (hplan : p.plan = s.cp.plan) (hbase : p.base = s.cp.base)
    (hpieces : p.pieces = s.cp.pieces) : (s.withCp p).signature = s.signature := by
  have hin (k : OrderKey) : (s.withCp p).goodInHand k = s.goodInHand k := by
    simp [State.goodInHand, State.heldGood, hplan, hpieces]
  have hsent (k : OrderKey) : (s.withCp p).goodSent k = s.goodSent k := by
    simp [State.goodSent, State.heldGood, hplan, hpieces]
  have hx : projectionStart (s.withCp p) = projectionStart s := by
    simp only [projectionStart, State.planningPoint, State.withCp_cp, hplan, hbase]
    rfl
  have ho : (s.withCp p).openOrder = s.openOrder := rfl
  simp only [State.signature, ho, hin, hsent, hx, State.withCp_cp, hplan]

/-- R128: a write of the Cut Planner record in SETUP ends as it stored. -/
theorem cutPlannerRequest_setup {i g : Word} {fields : List Word} {p : CutPlanner} {s : State} {a : Answer}
    (h : s.running = false) (hc : s.wm.boardChange = none) (hw : writeCutPlanner 2 i g fields s = (s.withCp p, a))
    (hplan : p.plan = s.cp.plan) (hbase : p.base = s.cp.base) (hpieces : p.pieces = s.cp.pieces) :
    cutPlannerRequest 2 i g fields s = (s.withCp p, a) :=
  settledWhen_sameSignature (f := fun _ => s.running && g == 1) hw (by simp [h]) hc
    (signature_withCp hplan hbase hpieces) rfl

/-- Settles O27, write by write. -/
theorem cutAndGateWritesStore : Obligations.CutAndGateWritesStore := by
  intro tag s
  refine ⟨?_, ?_, ?_, ?_⟩
  · exact fun k r knife role h hc hk hr => congrArg _ (writeRequest_replied h.1 (by decide)
      (cutPlannerRequest_setup h.running hc (writeCutPlanner_head h hk hr) rfl rfl rfl))
  · exact fun a b c d e f h hbc ha ha' hb hb' hc hc' hd hd' he hf hf' => congrArg _ (writeRequest_replied h.1 (by decide)
      (cutPlannerRequest_setup h.running hbc
        (writeCutPlanner_settings h ha ha' hb hb' hc hc' hd hd' he hf hf') rfl rfl rfl))
  · intro a b c k h hc hk
    refine congrArg _ (writeRequest_replied h.1 (by decide) ((guardWrite_inSetup h rfl rfl).trans ?_))
    simp [hc, hk, Answer.ok]
  · intro a b h ha hb
    refine congrArg _ (writeRequest_replied h (by decide) ((guardWrite_anyMode rfl rfl (by decide)).trans ?_))
    simp [readNat_of (Nat.zero_le _) ha, readNat_of (Nat.zero_le _) hb, Answer.ok]

end Sys2Proof.Machine

/-! Section writes and the links (R1 to R5, R18, R42). -/
namespace Sys2Proof.Machine

/-! ### Section writes -/

/-- R3: a section is in use exactly when a loaded link names it or its list holds a mark. -/
theorem sectionInUse_iff {i : Nat} {s : State} :
    sectionInUse i s = true ↔
      (∃ k l, k ≤ 10 ∧ s.linkAt k = some l ∧ (l.up = i ∨ l.down = i)) ∨ (s.mapAt i).marks ≠ [] := by
  have hk (k : Nat) : k < 11 ↔ k ≤ 10 := by omega
  simp only [sectionInUse, Bool.or_eq_true, List.any_eq_true, List.mem_range, hk, Option_any_eq_true, beq_iff_eq,
    Bool.not_eq_true', List.isEmpty_eq_false_iff]
  refine or_congr ⟨?_, ?_⟩ Iff.rfl
  · rintro ⟨k, hk, l, hl⟩
    exact ⟨k, l, hk, hl⟩
  · rintro ⟨k, l, hk, hl⟩
    exact ⟨k, hk, l, hl⟩

/-- R1, R167: a section write in SETUP whose words are in range stores a record. -/
theorem writeSection_stored {i : Word} {fields : List Word} {k : SectionKind} {c : SectionCfg} {s : State}
    (h : s.answersInSetup) (hi : i.toNat ≤ 11) (hf : readSection fields = some (some k, c))
    (hfit : sectionFits i.toNat (some k) c s = true) :
    writeSection 2 i 0 fields s = (storeSection i.toNat c s, Answer.ok []) := by
  refine (guardWrite_inSetup h (decide_eq_true ⟨hi, rfl⟩) rfl).trans ?_
  simp [hf, hfit]

/-- R3: the same with kind NONE frees one that is not in use. -/
theorem writeSection_freed {i : Word} {fields : List Word} {c : SectionCfg} {s : State} (h : s.answersInSetup)
    (hi : i.toNat ≤ 11) (hf : readSection fields = some (none, c)) (hfit : sectionFits i.toNat none c s = true) :
    writeSection 2 i 0 fields s =
      if (s.sectionAt i.toNat).isSome && sectionInUse i.toNat s then refuse inUseCode s
      else (s.setSection i.toNat none, Answer.ok []) := by
  refine (guardWrite_inSetup h (decide_eq_true ⟨hi, rfl⟩) rfl).trans ?_
  simp [hf, hfit]

theorem storeSection_boardChange {i : Nat} {c : SectionCfg} {s : State} (h : s.wm.boardChange = none) :
    (storeSection i c s).wm.boardChange = none := by
  unfold storeSection raiseSwitch
  dsimp only
  split
  · exact h
  · split
    · exact h
    · exact (congrArg WebMap.boardChange (raise_wm ..)).trans h

theorem storeSection_mode {i : Nat} {c : SectionCfg} {s : State} : (storeSection i c s).mu.mode = s.mu.mode := by
  unfold storeSection raiseSwitch
  dsimp only
  split
  · rfl
  · split
    · rfl
    · exact raise_mu_mode ..

/-- R81: a section write in SETUP ends with B_proj recomputed beside what it stored, no more. -/
theorem sectionWrite_replied {tag : Half} {i : Word} {fields : List Word} {s t : State} (h : s.answersInSetup)
    (hw : writeSection 2 i 0 fields s = (t, Answer.ok [])) (hc : t.wm.boardChange = none) (hm : t.mu.mode = s.mu.mode) :
    ∃ b, exec (.sectionWrite tag 2 (i :: 0 :: fields)) s = .next ((t.withProjection b).replied tag 0 0 []) := by
  have hr : t.running = false := State.running_eq_false.mpr (hm.trans h.2)
  obtain ⟨b, hb⟩ := settledWhen_setup (f := fun _ => false) hw hc hr
  exact ⟨b, congrArg _ (writeRequest_replied h.1 (by decide) hb)⟩

/-- R1, R4, R5: a record stored in a free section. -/
theorem storeSection_free {i : Nat} {c : SectionCfg} {s : State} (h : s.sectionAt i = none) :
    storeSection i c s =
      (s.setSection i (some ⟨c, TrackState.initial⟩)).adjustMap i (fun _ => SectionMap.initial 0) := by
  simp only [storeSection, h]

/-- R4: a record stored over one that is loaded. -/
theorem storeSection_loaded {i : Nat} {c : SectionCfg} {s : State} {old : Section} (h : s.sectionAt i = some old) :
    storeSection i c s =
      let t := (s.setSection i (some ⟨c, old.trk.restart⟩)).adjustMap i (fun m =>
        { m with baselines := List.replicate 8 none })
      if old.trk.source = .held then t else raiseSwitch i old.trk.count .held t := by
  simp only [storeSection, h]

/-- R3: the second condition of a freeing write fails. -/
theorem sectionNotInUse {i : Nat} {s : State}
    (h : s.sectionAt i = none ∨
      ¬(∃ k l, k ≤ 10 ∧ s.linkAt k = some l ∧ (l.up = i ∨ l.down = i)) ∧ (s.mapAt i).marks = []) :
    ((s.sectionAt i).isSome && sectionInUse i s) = false := by
  rcases h with h | ⟨hn, hm⟩
  · simp [h]
  · rw [Bool.and_eq_false_iff, ← Bool.not_eq_true (sectionInUse i s), sectionInUse_iff]
    exact .inr fun ho => ho.elim hn fun h => h hm

/-- Settles O17: a record is stored, freed, or in use. -/
theorem sectionWriteStores : Obligations.SectionWriteStores := by
  intro tag i fields kind c s h hi hf hfit hbc
  refine ⟨fun hk => ?_, ?_⟩
  · obtain ⟨k, rfl⟩ := Option.isSome_iff_exists.mp hk
    have stored := sectionWrite_replied (tag := tag) h (writeSection_stored h hi hf hfit) (storeSection_boardChange hbc)
      storeSection_mode
    refine ⟨fun hn => ?_, fun old ho => ⟨fun hs => ?_, fun hs => ?_⟩⟩
    · rw [storeSection_free hn] at stored
      exact stored
    · rw [storeSection_loaded ho] at stored
      simp only [if_pos hs] at stored
      exact stored
    · rw [storeSection_loaded ho] at stored
      simp only [if_neg hs] at stored
      exact stored
  · rintro rfl
    have hread := writeSection_freed h hi hf hfit
    refine ⟨fun hfree => ?_, fun hl huse => ?_⟩
    · exact sectionWrite_replied h (hread.trans (if_neg (by simp [sectionNotInUse hfree]))) hbc rfl
    · have huse' : sectionInUse i.toNat s = true := sectionInUse_iff.mpr huse
      have hsettled := settledWhen_unchanged (f := fun _ => false) (hread.trans (if_pos (by simp [hl, huse']))) rfl hbc
      exact congrArg _ (writeRequest_replied h.1 (by decide) hsettled)

/-! ### Anchors (R18) -/

/-- R164: a request at ENGINEER with the words its kind has. -/
theorem requestFault_engineer {k : RequestKind} {ws : List Word} (hc : k.countFits ws.length = true) :
    requestFault k 2 ws = none := by
  have hl : k.leastLevel ≤ 2 := by cases k <;> decide
  simp [requestFault, hc, hl]

/-- Settles O37: range, presence, then the snapshots. -/
theorem anchorLinkTaken : Obligations.AnchorLinkTaken := by
  intro tag l p s h
  have hfault : requestFault .anchorLink 2 [l, p] = none := requestFault_engineer rfl
  refine ⟨fun hl hp => ?_, fun ho => ?_⟩
  · have hfit : ¬(10 < l.toNat ∨ 100000000 < p.toNat) := by omega
    refine ⟨fun k u d hk hu hd => ?_, fun hn => ?_⟩
    · refine congrArg _ (request_replied h hfault ?_)
      simp [anchorLink, hfit, hk, snapshotOf, hu, hd, Answer.ok]
    · refine congrArg _ (request_replied h hfault ?_)
      simp [anchorLink, hfit, hn, refuse, Answer.refuse, refAbsentCode]
  · refine congrArg _ (request_replied h hfault ?_)
    simp [anchorLink, ho, refuse, Answer.refuse, rangeCode]

end Sys2Proof.Machine

/-! The reads, the flags and the status (R94, R165, R166, R171, R174). -/
namespace Sys2Proof.Machine

/-! ### Replies of more than one part (R165) -/

theorem partCount_eq (n : Nat) : partCount n = max 1 ((n + 23) / 24) := rfl

/-- R165: the reply of a read, in parts of 24 words. -/
theorem request_repliedParts {k : RequestKind} {tag : Half} {l : Word} {ws words : List Word} {body : State → Outcome}
    {s : State} (h : s.answersWords words.length) (hf : requestFault k l ws = none) (hb : body s = (s, Answer.ok words)) :
    request k tag l ws body s = s.repliedParts tag words := by
  obtain ⟨hreach, hfit⟩ := h
  rw [← partCount_eq] at hfit
  have hcap : partCount words.length ≤ 64 := le_trans (Nat.le_add_left _ _) hfit
  have hvalue : (⟨0, 0, words⟩ : Answer).value = BitVec.ofNat 32 (65536 * partCount words.length) := by
    refine (natWord_eq ?_).trans ?_
    · simp only
      omega
    · simp
  unfold request takeRequest answer
  rw [if_pos hreach, hf]
  simp only [hb]
  rw [if_pos (show replyFits (Answer.ok words) s = true from decide_eq_true hfit)]
  simp only [queueReply, State.repliedParts, Answer.parts, Answer.ok, hvalue, partCount_eq]

/-- R164: a read at any level with the words its kind has. -/
theorem requestFault_view {k : RequestKind} {l : Word} {ws : List Word} (hk : k.leastLevel = 0) (hl : l.toNat ≤ 2)
    (hc : k.countFits ws.length = true) : requestFault k l ws = none := by
  simp [requestFault, hk, hc, Nat.not_lt.mpr hl]

/-- R164: an operator's request at OPERATE or ENGINEER with the words its kind has. -/
theorem requestFault_operate {k : RequestKind} {l : Word} {ws : List Word} (hk : k.leastLevel = 1) (h1 : 1 ≤ l.toNat)
    (hl : l.toNat ≤ 2) (hc : k.countFits ws.length = true) : requestFault k l ws = none := by
  simp [requestFault, hk, hc, Nat.not_lt.mpr hl, Nat.not_lt.mpr h1]

/-! ### TABLE_READ -/

theorem readRequest_eq (table i g : Word) (s : State) : readRequest [table, i, g] s = (s, readTable table i g s) := rfl

theorem tableHas_none {n i g : Nat} (h : n = 0 ∨ 21 < n) : tableHas n i g = none := by
  unfold tableHas
  dsimp only
  split <;> first | omega | rfl

/-- Settles O31, by what the table has. -/
theorem tableReadAnswers : Obligations.TableReadAnswers := by
  intro tag l table i g s hl
  have hfault : requestFault .tableRead l [table, i, g] = none := requestFault_view rfl hl rfl
  refine ⟨fun hhas h => ?_, ?_, fun h hn => ?_, fun h hhas => ?_⟩
  · refine congrArg _ (request_repliedParts h hfault ?_)
    simp only [readRequest_eq, readTable, hhas]
  · rintro x h rfl rfl hi hx
    refine congrArg _ (request_replied h hfault ?_)
    have hhas : tableHas (2 : Word).toNat i.toNat (0 : Word).toNat = some true :=
      congrArg some (decide_eq_true ⟨hi, rfl⟩)
    simp only [readRequest_eq, readTable, hhas]
    show (s, Answer.ok (linkWords i.toNat s)) = _
    simp [linkWords, hx, setClear, yesNo, Answer.ok]
  · refine congrArg _ (request_replied h hfault ?_)
    simp only [readRequest_eq, readTable, tableHas_none hn]
    rfl
  · refine congrArg _ (request_replied h hfault ?_)
    simp only [readRequest_eq, readTable, hhas]
    rfl

/-! ### ORDER_READ and HISTORY_READ -/

theorem optBoundary_length (b : Option BoundaryRef) : (optBoundary b).length = 3 := by cases b <;> rfl

theorem Order.words_length (o : Order) : o.words.length = 32 := by
  simp [Order.words, optBoundary_length, Breakdown.words]

theorem Completion.words_length (c : Completion) : c.words.length = 22 := by simp [Completion.words, Breakdown.words]

/-- Table 5-3, field by field, with the breakdown of Table 9-3. -/
theorem Order.words_eq (o : Order) :
    o.words = [o.key.number, natWord o.key.part, natWord o.grade, natWord o.pattern, natWord o.length, natWord o.sheets
      , natWord o.cuts, natWord o.stackCount, natWord o.lane, natWord o.overrun, natWord o.state.code] ++
      optBoundary o.start ++ optBoundary o.fin ++
      [natWord o.good, natWord o.scrap, natWord o.dropped, if o.split then 0 else 1, if o.cancelled then 0 else 1
       , natWord o.breakdown.zone, natWord o.breakdown.tail, natWord o.breakdown.gap
       , natWord o.breakdown.overrun, natWord o.breakdown.cancelled, natWord o.breakdown.range
       , natWord o.breakdown.gateZone, natWord o.breakdown.cutFault, natWord o.breakdown.noLane
       , natWord o.breakdown.stackerBehind] := by
  simp [Order.words, Breakdown.words, yesNo]

/-- Settles O36, read by read. -/
theorem orderAndHistoryReads : Obligations.OrderAndHistoryReads := by
  intro tag l s hl
  refine ⟨fun n p o h ho => ?_, fun place o h ho => ?_, fun n p h ho => ?_, fun place h ho => ?_, fun hh h => ?_,
    fun older x hh h => ?_⟩
  · have hfault : requestFault .orderRead l [n, p] = none := requestFault_view rfl hl rfl
    rw [← Order.words_eq]
    refine congrArg _ (request_repliedParts (by rwa [Order.words_length]) hfault ?_)
    simp only [orderRead, ho]
  · have hfault : requestFault .orderRead l [place] = none := requestFault_view rfl hl rfl
    refine congrArg _ (request_repliedParts (words := o.words) (by rwa [Order.words_length]) hfault ?_)
    simp only [orderRead, ho]
  · have hfault : requestFault .orderRead l [n, p] = none := requestFault_view rfl hl rfl
    refine congrArg _ (request_replied h hfault ?_)
    simp only [orderRead, ho]
    rfl
  · have hfault : requestFault .orderRead l [place] = none := requestFault_view rfl hl rfl
    refine congrArg _ (request_replied h hfault ?_)
    simp only [orderRead, List.getElem?_eq_none ho]
    rfl
  · have hfault : requestFault .historyRead l [] = none := requestFault_view rfl hl rfl
    refine congrArg _ (request_replied h hfault ?_)
    simp only [historyRead, hh]
    rfl
  · have hfault : requestFault .historyRead l [] = none := requestFault_view rfl hl rfl
    refine congrArg _ (request_repliedParts ?_ hfault ?_)
    · refine Eq.mp (congrArg s.answersWords ?_) h
      simp [hh, List.length_flatMap, Completion.words_length]
      omega
    · simp [historyRead, hh]

/-! ### CLEAR and STATUS_READ -/

theorem flagWord_eq (s : State) : s.flagWord = BitVec.ofNat 32 ((if s.fr.frameFull then 1 else 0) +
    (if s.mu.eventsDropped then 2 else 0) + if s.mu.replyLost then 4 else 0) := by
  unfold State.flagWord
  cases s.fr.frameFull <;> cases s.mu.eventsDropped <;> cases s.mu.replyLost <;> rfl

theorem flagWord_toNat (s : State) : s.flagWord.toNat = (if s.fr.frameFull then 1 else 0) +
    (if s.mu.eventsDropped then 2 else 0) + if s.mu.replyLost then 4 else 0 := by
  unfold State.flagWord
  cases s.fr.frameFull <;> cases s.mu.eventsDropped <;> cases s.mu.replyLost <;> rfl

theorem Mode.word_eq (m : Mode) : (if m = .setup then (0 : Word) else 1) = m.word := by cases m <;> rfl

theorem FrState.word_eq (x : FrState) : (if x = .normal then (0 : Word) else 1) = x.word := by cases x <;> rfl

/-- Settles O43. -/
theorem clearAndStatusTaken : Obligations.ClearAndStatusTaken := by
  intro tag l s h hl
  refine ⟨fun h1 => ?_, ?_⟩
  · have hfault : requestFault .clear l [] = none := requestFault_operate rfl h1 hl rfl
    refine congrArg _ (request_replied h hfault ?_)
    simp only [clearAll, flagWord_eq]
    rfl
  · have hfault : requestFault .statusRead l [] = none := requestFault_view rfl hl rfl
    rw [Mode.word_eq, FrState.word_eq]
    refine congrArg _ (request_replied h hfault ?_ ?_ ?_)
    · simp only [statusRead, flagWord_toNat]
      rfl
    · simp
    · have : (if s.fr.frameFull then 1 else 0) + (if s.mu.eventsDropped then 2 else 0) +
          (if s.mu.replyLost then 4 else 0) ≤ 7 := by
        split <;> split <;> split <;> omega
      omega

end Sys2Proof.Machine

/-! The requests of the order queue (R78, R79, R88 to R93). -/
namespace Sys2Proof.Machine

/-! ### Commits, one after another -/

theorem Commits.trans {p x y : Planner} (h : Commits p x) (h' : Commits x y) : Commits p y where
  stripped := h'.stripped.trans h.stripped
  history := h'.history.trans h.history
  starts hn o ho z hz hk hsome := by
    have hkeys := map_key_of_map_stripped h.stripped
    have hmem : o.key ∈ x.queue.map (·.key) := hkeys ▸ List.mem_map_of_mem ho
    obtain ⟨m, hm, hmk⟩ := List.mem_map.mp hmem
    have hms : m.start = o.start := h.starts hn o ho m hm hmk hsome
    exact (h'.starts (hkeys ▸ hn) m hm z hz (hk.trans hmk.symm) (hms ▸ hsome)).trans hms

/-- What re-plans and commits leave of the Order Planner. -/
theorem commitSteps_commits (p : Planner) : CommitSteps (fun s => Commits p s.op) where
  on_raise h := by simpa using h
  on_wm h := h
  on_sc h := h
  on_sp h := h
  on_sg h := h
  on_ss h := h
  on_ccu _ h := h
  on_cp _ h := h
  on_commits hx h := h.trans hx

theorem Commits.refl (p : Planner) : Commits p p := .of_queue rfl rfl

/-- The order of a key after commits: the same but for its state and boundaries, with the start boundary it has. -/
theorem orderAt_of_commits {m t : State} {k : OrderKey} {o : Order} (h : Commits m.op t.op) (ho : m.orderAt k = some o) :
    ∃ x, t.orderAt k = some x ∧ x.stripped = o.stripped ∧
      ((m.op.queue.map (·.key)).Nodup → o.start.isSome = true → x.start = o.start) := by
  have hfind (l : List Order) : (l.map Order.stripped).find? (fun x => x.key == k) =
      (l.find? (fun x => x.key == k)).map Order.stripped := by
    rw [List.find?_map]
    rfl
  have hmap : (t.orderAt k).map Order.stripped = some o.stripped := by
    unfold State.orderAt at *
    rw [← hfind, h.stripped, hfind, ho]
    rfl
  obtain ⟨x, hx, hs⟩ := Option.map_eq_some_iff.mp hmap
  refine ⟨x, hx, hs, fun hn hsome => ?_⟩
  have hxk : x.key = k := by simpa using List.find?_some hx
  have hok : o.key = k := by simpa using List.find?_some ho
  exact h.starts hn o (List.mem_of_find?_eq_some ho) x (List.mem_of_find?_eq_some hx) (hxk.trans hok.symm) hsome

/-- R83, R88: the end of a request commits and re-plans, no more. -/
theorem settledWhen_commits {f : State → Bool} {body : State → Outcome} {s m : State} {p : Planner} {a : Answer}
    (hb : body s = (m, a)) (hm : Commits p m.op) :
    ∃ t, settledWhen f body s = (t, a) ∧ Commits p t.op ∧ t.kept = m.kept := by
  refine ⟨(settledWhen f body s).1, Prod.ext rfl (show (body s).2 = a by rw [hb]), (commitSteps_commits _).on_settle ?_, ?_⟩
  · rw [hb]
    exact hm
  · unfold settledWhen
    rw [hb]
    exact kept_settle ..

/-- The reply of a request whose state the model's summary of what stays says. -/
theorem replied_of_kept {s t : State} (h : t.kept = s.kept) (hm : s.mu.mode = .run) (tag : Half) (words : List Word) :
    (t.replied tag 0 0 words).mu.mode = .run ∧ (t.replied tag 0 0 words).tables = s.tables ∧
      (t.replied tag 0 0 words).mu.replies = s.mu.replies ++ [⟨tag, 0, 65536, words⟩] :=
  ⟨(congrArg Kept.mode h).trans hm, congrArg Kept.tables h, congrArg (· ++ [_]) (congrArg Kept.replies h)⟩

/-! ### The order of a key -/

theorem orderAt_key {s : State} {k : OrderKey} {o : Order} (h : s.orderAt k = some o) : o.key = k := by
  simpa using List.find?_some h

/-- Adjusting the order of a key by a function that keeps keys. -/
theorem orderAt_adjustOrder {s : State} {k : OrderKey} {f : Order → Order} {o : Order} (h : s.orderAt k = some o)
    (hf : ∀ x : Order, x.key = k → (f x).key = k) : (s.adjustOrder k f).orderAt k = some (f o) := by
  have hk := orderAt_key h
  have hp : (fun x : Order => x.key == k) ∘ (fun x => if (x.key == k) = true then f x else x) = fun x => x.key == k := by
    funext x
    by_cases hx : x.key = k <;> simp [hx, hf]
  unfold State.orderAt at *
  simp only [State.adjustOrder, State.withOp_op, List.find?_map, hp, h, Option.map_some, hk, beq_self_eq_true, if_true]

/-- Adjusting the order of a key, where the queue holds no other order of that key. -/
theorem adjustOrder_congr {s : State} {k : OrderKey} {f g : Order → Order}
    (h : ∀ x ∈ s.op.queue, x.key = k → f x = g x) : s.adjustOrder k f = s.adjustOrder k g := by
  unfold State.adjustOrder
  congr 2
  simp only [Planner.mk.injEq, true_and, and_true]
  refine List.map_congr_left fun x hx => ?_
  split
  · next hk => exact h x hx (beq_iff_eq.mp hk)
  · rfl

theorem openOrder_adjustOrder {s : State} {k : OrderKey} {o x : Order} (hall : ∀ y ∈ s.op.queue, y.key = k → y = o)
    (ho : o.start = none) (hx : x.start = none) : (s.adjustOrder k (fun _ => x)).openOrder = s.openOrder := by
  have hpos : ∀ y ∈ s.op.queue,
      ((fun y : Order => y.start.isSome && y.fin.isNone) ∘ fun y => if (y.key == k) = true then x else y) y =
        (y.start.isSome && y.fin.isNone) := by
    intro y hy
    by_cases hk : y.key = k
    · rw [Function.comp_apply, if_pos (beq_iff_eq.mpr hk), hall y hy hk, hx, ho]
      rfl
    · simp [hk]
  unfold State.openOrder
  simp only [State.adjustOrder, State.withOp_op, List.find?_map]
  rw [List.find?_congr hpos]
  cases hf : s.op.queue.find? (fun y => y.start.isSome && y.fin.isNone) with
  | none => rfl
  | some y =>
    have hy : y.start.isSome = true := by
      have := List.find?_some hf
      simp only [Bool.and_eq_true] at this
      exact this.1
    have hk : y.key ≠ k := fun hk => by simp [hall y (List.mem_of_find?_eq_some hf) hk, ho] at hy
    simp [hk]

theorem signature_withOp {s : State} {p : Planner} (h : (s.withOp p).openOrder = s.openOrder) :
    (s.withOp p).signature = s.signature := by
  unfold State.signature
  rw [h]
  rfl

/-- R88: the re-plan of an order in SETUP does nothing. -/
theorem quantityChanged_setup {k : OrderKey} {s : State} (h : s.running = false) : quantityChanged k s = s := by
  unfold quantityChanged
  split
  · split
    · unfold replanForOrder replanFrom
      split <;> simp [h]
    · rfl
  · rfl

/-- R88: an order not committed has no cut planned to re-plan. -/
theorem quantityChanged_uncommitted {k : OrderKey} {s : State} {o : Order} (h : s.orderAt k = some o)
    (ho : o.start = none) : quantityChanged k s = s := by
  simp [quantityChanged, h, ho]

theorem referenceCheck_passed {g p : Nat} {gr : Grade} {pat : Pattern} {s : State} (hg : s.gradeAt g = some gr)
    (hgr : gr.released = true) (hp : s.patternAt p = some pat) (hpr : pat.released = true)
    (hw : pat.width ≤ gr.width) : referenceCheck s g p = none := by
  simp [referenceCheck, hg, hgr, hp, hpr, Nat.not_lt.mpr hw]

theorem patternOuts_eq {p : Nat} {pat : Pattern} {s : State} (hp : s.patternAt p = some pat) :
    patternOuts s p = pat.outs := by simp [patternOuts, hp]

/-! ### ORDER_EDIT (R93) -/

theorem readEdit_sheets (sh : Word) : readEdit 8 [sh] = some ⟨none, none, none, some sh.toNat, none, none, none⟩ := rfl

theorem readEdit_length (len : Word) : readEdit 4 [len] = some ⟨none, none, some len.toNat, none, none, none, none⟩ := rfl

theorem readEdit_lengthSheets (len sh : Word) :
    readEdit 12 [len, sh] = some ⟨none, none, some len.toNat, some sh.toNat, none, none, none⟩ := rfl

theorem readEdit_quantities (sh lane ov : Word) : readEdit 104 [sh, lane, ov] =
    some ⟨none, none, none, some sh.toNat, none, some lane.toNat, some ov.toNat⟩ := rfl

/-- R93: an edit that passes its checks is stored. -/
theorem applyEdit_stored {k : OrderKey} {l : Word} {c e : OrderEdit} {o : Order} {gr : Grade} {pat : Pattern} {s : State}
    (ho : s.orderAt k = some o) (hc : o.cancelled = false) (hw : (l == 2 && c.hasE && o.working) = false)
    (hs : o.state ≠ .stacking) (he : e.inRange = true) (heg : e.grade = none) (hep : e.pattern = none)
    (hg : s.gradeAt o.grade = some gr) (hgr : gr.released = true) (hp : s.patternAt o.pattern = some pat)
    (hpr : pat.released = true) (hwd : pat.width ≤ gr.width) :
    applyEdit k l c e s =
      (storeEdit o e s, if l == 1 && c.hasE then Answer.kept c.keptPlaces else Answer.ok []) := by
  have hr : referenceCheck s (o.edited e).grade (o.edited e).pattern = none := by
    simpa [Order.edited, heg, hep] using referenceCheck_passed hg hgr hp hpr hwd
  unfold applyEdit
  rw [ho]
  dsimp only
  rw [hc, hw, he, hr, beq_false_of_ne hs]
  rfl

/-- R93: an edit of an order that is not committed stores its fields and the cuts needed. -/
theorem storeEdit_uncommitted {k : OrderKey} {e : OrderEdit} {o : Order} {s : State} (ho : s.orderAt k = some o)
    (hs : o.start = none) : storeEdit o e s = s.adjustOrder k (fun _ =>
      { o.edited e with cuts := ceilDiv (o.edited e).sheets (patternOuts s (o.edited e).pattern) }) := by
  have hk := orderAt_key ho
  unfold storeEdit
  dsimp only
  rw [hk]
  split
  · exact quantityChanged_uncommitted (orderAt_adjustOrder ho fun _ _ => hk) hs
  · rfl

/-- R93: the end of an edit of an order that is not committed. -/
theorem editRequest_uncommitted {n p l : Word} {ws : List Word} {o x : Order} {s : State} {a : Answer}
    (hc : s.wm.boardChange = none) (ho : s.orderAt ⟨n, p.toNat⟩ = some o)
    (hall : ∀ y ∈ s.op.queue, y.key = ⟨n, p.toNat⟩ → y = o) (hs : o.start = none) (hx : x.start = none)
    (hb : orderEdit l (n :: p :: ws) s = (s.adjustOrder ⟨n, p.toNat⟩ (fun _ => x), a)) :
    editRequest l (n :: p :: ws) s = (s.adjustOrder ⟨n, p.toNat⟩ (fun _ => x), a) := by
  refine settledWhen_sameSignature (f := figuresChanged (targetKey (n :: p :: ws)) s) hb ?_ hc
    (signature_withOp (openOrder_adjustOrder hall hs hx)) rfl
  simp only [figuresChanged, targetKey, ho]
  split
  · next h _ => simp [← Option.some.inj h, hs]
  · rfl

/-- R164: an edit that is refused changes nothing. -/
theorem editRequest_refused {l : Word} {ws : List Word} {r : Nat} {s : State} (hc : s.wm.boardChange = none)
    (hb : orderEdit l ws s = refuse r s) (hr : 1 < r := by decide) : editRequest l ws s = refuse r s := by
  have hp : (Answer.refuse r).passed = false := decide_eq_false (Nat.not_le.mpr hr)
  exact settledWhen_unchanged (f := figuresChanged (targetKey ws) s) hb (by rw [hp, Bool.and_false]) hc

theorem requestFault_edit {l n p m : Word} {ws : List Word} (h1 : 1 ≤ l.toNat) (hl : l.toNat ≤ 2) :
    requestFault .orderEdit l (n :: p :: m :: ws) = none :=
  requestFault_operate rfl h1 hl (by simp [RequestKind.countFits])

/-- What a committed order keeps through re-plans and commits. -/
theorem committed_kept {s t : State} {k : OrderKey} {o x : Order} (ho : s.orderAt k = some o) (hx : x.key = k)
    (hs : o.start.isSome = true) (hxs : x.start = o.start) (h : Commits (s.adjustOrder k (fun _ => x)).op t.op) :
    ∃ y, t.orderAt k = some y ∧ y.stripped = x.stripped ∧ (s.ordersHeld → y.start = o.start) := by
  obtain ⟨y, hy, hyx, hstart⟩ := orderAt_of_commits h (orderAt_adjustOrder ho fun _ _ => hx)
  refine ⟨y, hy, hyx, fun hh => (hstart ?_ (by rw [hxs]; exact hs)).trans hxs⟩
  have hkeys : (s.adjustOrder k (fun _ => x)).op.queue.map (·.key) = s.op.queue.map (·.key) := by
    simp only [State.adjustOrder, State.withOp_op, List.map_map]
    refine List.map_congr_left fun y _ => ?_
    by_cases hyk : y.key = k <;> simp [hyk, hx]
  rw [hkeys]
  exact hh.2.1

theorem replace_of_stripped {x y o : Order} (h : y.stripped = x.stripped) (h1 : x.state = o.state)
    (h2 : x.start = o.start) (h3 : x.fin = o.fin) :
    { y with state := o.state, start := o.start, fin := o.fin } = x := by
  have : { y.stripped with state := o.state, start := o.start, fin := o.fin } =
      { x.stripped with state := o.state, start := o.start, fin := o.fin } := by rw [h]
  refine Eq.trans this ?_
  cases x
  simp_all [Order.stripped]

/-- R88, R93: an edit that passed stores its order, and has the Cut Planner re-plan when its figures changed. -/
theorem storeEdit_cases {k : OrderKey} {e : OrderEdit} {o : Order} {s : State} (ho : s.orderAt k = some o) :
    let m := s.adjustOrder k (fun _ =>
      { o.edited e with cuts := ceilDiv (o.edited e).sheets (patternOuts s (o.edited e).pattern) })
    storeEdit o e s = m ∨ storeEdit o e s = quantityChanged k m := by
  unfold storeEdit
  dsimp only
  rw [orderAt_key ho]
  split
  · exact .inr rfl
  · exact .inl rfl

/-- The edit of R93 that carries the sheets required, the lane and the overrun allowance. -/
def quantityEdit (sh lane ov : Word) : OrderEdit :=
  ⟨none, none, none, some sh.toNat, none, some lane.toNat, some ov.toNat⟩

theorem orderEdit_quantities {l n p sh lane ov : Word} {s : State} :
    orderEdit l [n, p, 104, sh, lane, ov] s =
      applyEdit ⟨n, p.toNat⟩ l (quantityEdit sh lane ov) (quantityEdit sh lane ov) s := by
  have hsame : (if (l == 1) = true then (quantityEdit sh lane ov).onlyF else quantityEdit sh lane ov) =
      quantityEdit sh lane ov := ite_self _
  have hread : readEdit 104 [sh, lane, ov] = some (quantityEdit sh lane ov) := readEdit_quantities sh lane ov
  have hE : (quantityEdit sh lane ov).hasE = false := rfl
  simp only [orderEdit, hread, hsame, hE, Bool.and_false, Bool.false_and, Bool.false_eq_true, if_false]

/-- Settles O33, by the order's start boundary. -/
theorem orderEditTaken : Obligations.OrderEditTaken := by
  intro tag n p len sh o gr pat s h hc ho hcan hg hgr hp hpr hw
  have hk := orderAt_key ho
  refine ⟨fun hs hstate hall => ?_, fun ov lane l hs hstate hsh1 hsh2 hov hlane hl1 hl2 => ?_⟩
  · have hwork : o.working = false := by rcases hstate with h | h <;> simp [Order.working, h]
    have hstack : o.state ≠ .stacking := by rcases hstate with h | h <;> simp [h]
    have stored {l : Word} {c e : OrderEdit} (he : e.inRange = true) (heg : e.grade = none) (hep : e.pattern = none) :
        applyEdit ⟨n, p.toNat⟩ l c e s = (s.adjustOrder ⟨n, p.toNat⟩ (fun _ =>
          { o.edited e with cuts := ceilDiv (o.edited e).sheets pat.outs }),
          if l == 1 && c.hasE then Answer.kept c.keptPlaces else Answer.ok []) := by
      rw [applyEdit_stored ho hcan (by simp [hwork]) hstack he heg hep hg hgr hp hpr hw, storeEdit_uncommitted ho hs]
      simp [Order.edited, hep, patternOuts_eq hp]
    refine ⟨fun hsh1 hsh2 => ⟨?_, ?_⟩, fun hlen1 hlen2 => ?_, ?_⟩
    · refine congrArg _ (request_replied h (requestFault_edit (by decide) (by decide))
        (editRequest_uncommitted hc ho hall hs (by exact hs) ?_))
      simp only [orderEdit, readEdit_sheets]
      exact stored (by simp [OrderEdit.inRange, OrderEdit.onlyF, hsh1, hsh2]) rfl rfl
    · refine congrArg _ (request_replied (words := [2]) h (requestFault_edit (by decide) (by decide))
        (editRequest_uncommitted hc ho hall hs (by exact hs) ?_))
      simp only [orderEdit, readEdit_lengthSheets]
      exact stored (by simp [OrderEdit.inRange, OrderEdit.onlyF, hsh1, hsh2]) rfl rfl
    · refine congrArg _ (request_replied h (requestFault_edit (by decide) (by decide))
        (editRequest_uncommitted hc ho hall hs (by exact hs) ?_))
      simp only [orderEdit, readEdit_length]
      exact stored (by simp [OrderEdit.inRange, hlen1, hlen2]) rfl rfl
    · refine congrArg _ (request_replied h (requestFault_edit (by decide) (by decide))
        (editRequest_refused (r := accessCode) hc ?_))
      simp only [orderEdit, readEdit_length]
      rfl
  · have hwork : o.state ≠ .stacking := by rcases hstate with h | h <;> simp [h]
    intro edited
    have hE : (quantityEdit sh lane ov).hasE = false := rfl
    have hbody : orderEdit l [n, p, 104, sh, lane, ov] s = (storeEdit o (quantityEdit sh lane ov) s, Answer.ok []) := by
      rw [orderEdit_quantities, applyEdit_stored ho hcan (by simp [hE]) hwork
        (by simp [OrderEdit.inRange, quantityEdit, *]) rfl rfl hg hgr hp hpr hw]
      simp [hE]
    have hstore := storeEdit_cases (e := quantityEdit sh lane ov) ho
    rw [show patternOuts s (o.edited (quantityEdit sh lane ov)).pattern = pat.outs from patternOuts_eq hp] at hstore
    have hfault : requestFault .orderEdit l [n, p, 104, sh, lane, ov] = none := requestFault_edit hl1 hl2
    refine ⟨fun hm => ?_, fun hm => ?_⟩
    · have hr : s.running = false := State.running_eq_false.mpr hm
      have hm : storeEdit o (quantityEdit sh lane ov) s = s.adjustOrder ⟨n, p.toNat⟩ (fun _ => edited) := by
        rcases hstore with h | h
        · exact h
        · exact h.trans (quantityChanged_setup hr)
      obtain ⟨b, hb⟩ := settledWhen_setup (s := s) (f := figuresChanged (targetKey [n, p, 104, sh, lane, ov]) s)
        (hbody.trans (congrArg (·, Answer.ok []) hm)) hc hr
      exact ⟨b, congrArg _ (request_replied h hfault hb)⟩
    · have hcommits : Commits (s.adjustOrder ⟨n, p.toNat⟩ (fun _ => edited)).op
          (storeEdit o (quantityEdit sh lane ov) s).op := by
        rcases hstore with h | h
        · rw [h]
          exact Commits.refl _
        · rw [h]
          exact (commitSteps_commits _).on_quantityChanged (Commits.refl _)
      obtain ⟨t, ht, hct, hkt⟩ := settledWhen_commits
        (f := figuresChanged (targetKey [n, p, 104, sh, lane, ov]) s) hbody hcommits
      obtain ⟨y, hy, hyx, hstart⟩ := committed_kept (x := edited) (t := t.replied tag 0 0 []) ho hk hs rfl hct
      obtain ⟨hmode, htables, hreplies⟩ := replied_of_kept (hkt.trans (kept_storeEdit ..)) hm tag []
      exact ⟨t.replied tag 0 0 [], y, congrArg Host.Outcome.next (request_replied h hfault ht), hmode, htables, hreplies, hy,
        replace_of_stripped hyx rfl rfl rfl, hstart⟩

end Sys2Proof.Machine

/-! The requests that take orders into the queue and out of it (R78, R79, R89 to R92). -/
namespace Sys2Proof.Machine

/-! ### What B_proj depends on, where the open order stays -/

theorem signature_raise {k : EventKind} {a b c : Word} {s : State} : (raise k a b c s).signature = s.signature := by
  unfold raise
  split <;> rfl

theorem running_raise {k : EventKind} {a b c : Word} {s : State} : (raise k a b c s).running = s.running := by
  unfold raise
  split <;> rfl

/-- R78: a designation leaves the open order. -/
theorem openOrder_designate {s : State} {k : Option OrderKey} {b : Option BlockCause} :
    (s.withOp { s.op with queue := s.op.queue.map (Order.designate k), block := b }).openOrder = s.openOrder := by
  have hpos : (fun y : Order => y.start.isSome && y.fin.isNone) ∘ Order.designate k =
      fun y => y.start.isSome && y.fin.isNone := by
    funext y
    unfold Order.designate
    dsimp only [Function.comp_apply]
    split <;> rfl
  unfold State.openOrder
  simp only [State.withOp_op, List.find?_map, hpos]
  cases hf : s.op.queue.find? (fun y => y.start.isSome && y.fin.isNone) with
  | none => rfl
  | some y =>
    have hy : y.start.isSome = true := by
      have := List.find?_some hf
      simp only [Bool.and_eq_true] at this
      exact this.1
    exact congrArg some (if_pos hy)

theorem openOrder_refreshFrom {k : Option OrderKey} {s : State} : (refreshFrom k s).openOrder = s.openOrder := by
  unfold refreshFrom
  dsimp only
  split
  · rfl
  · exact openOrder_designate

theorem refreshFrom_eq_withOp {k : Option OrderKey} {s : State} : ∃ p, refreshFrom k s = s.withOp p := by
  unfold refreshFrom
  dsimp only
  split
  · exact ⟨s.op, rfl⟩
  · exact ⟨_, rfl⟩

theorem signature_refreshFrom {k : Option OrderKey} {s : State} : (refreshFrom k s).signature = s.signature := by
  obtain ⟨p, hp⟩ := refreshFrom_eq_withOp (k := k) (s := s)
  have ho : (s.withOp p).openOrder = s.openOrder := hp ▸ openOrder_refreshFrom
  rw [hp, signature_withOp ho]

/-- Orders that are not open, taken into the queue or out of it. -/
theorem openOrder_of_filter {s t : State}
    (h : t.op.queue.filter (fun y => y.start.isSome) = s.op.queue.filter (fun y => y.start.isSome)) :
    t.openOrder = s.openOrder := by
  have hfind (l : List Order) : l.find? (fun y => y.start.isSome && y.fin.isNone) =
      (l.filter (fun y => y.start.isSome)).find? (fun y => y.fin.isNone) := by
    rw [List.find?_filter]
    simp only [Bool.decide_and, Bool.decide_eq_true]
  unfold State.openOrder
  rw [hfind, hfind, h]

/-! ### The NEXT designation (R78) -/

theorem refreshNext_idle {s : State} (h : s.nextKey = s.nextOrder.map (·.key)) : refreshNext s = s := by
  unfold refreshNext refreshFrom
  exact if_pos h

theorem refreshNext_designates {s : State} {o : Order} (hn : s.nextOrder = some o)
    (hk : ∀ x ∈ s.op.queue, x.key = o.key → x.state ≠ .next) :
    refreshNext s = s.withOp { s.op with queue := s.op.queue.map (Order.designate (some o.key)), block := none } := by
  have hne : s.nextKey ≠ s.nextOrder.map (·.key) := by
    rw [hn]
    intro h
    obtain ⟨x, hx, hxk⟩ := Option.map_eq_some_iff.mp h
    exact hk x (List.mem_of_find?_eq_some hx) hxk (by simpa using List.find?_some hx)
  unfold refreshNext refreshFrom
  dsimp only
  rw [if_neg hne, hn]
  rfl

/-- The first order without a start boundary, behind orders that have one. -/
theorem nextOrder_of_split {s : State} {front back : List Order} {o : Order} (h : s.op.queue = front ++ o :: back)
    (hf : ∀ x ∈ front, x.start.isSome = true) (ho : o.start = none) : s.nextOrder = some o := by
  unfold State.nextOrder
  rw [h, List.find?_append, List.find?_eq_none.mpr (by intro x hx; simp [Option.isSome_iff_ne_none.mp (hf x hx)])]
  simp [ho]

/-- The place of the first order of a key. -/
theorem firstIndex_split {α : Type} {l front back : List α} {a : α} {p : α → Bool} (h : l = front ++ a :: back)
    (hf : ∀ x ∈ front, p x = false) (ha : p a = true) :
    firstIndex l.length (fun i => (l[i]?).any p) = some front.length := by
  subst h
  unfold firstIndex
  have hlen : (front ++ a :: back).length = front.length + (back.length + 1) := by simp
  rw [hlen, List.range_add, List.find?_append, List.find?_eq_none.mpr, Option.none_or]
  · rw [List.range_succ_eq_map, List.map_cons]
    refine List.find?_cons_of_pos ?_
    simp [ha]
  · intro i hi
    have hi : i < front.length := List.mem_range.mp hi
    rw [List.getElem?_append_left hi, List.getElem?_eq_getElem hi, Option.any_some, hf _ (List.getElem_mem hi)]
    exact Bool.false_ne_true

/-- R79, R92: place and state of an order in the queue. -/
theorem orderPlace_split {s : State} {front back : List Order} {o : Order} {k : OrderKey}
    (h : s.op.queue = front ++ o :: back) (hf : ∀ x ∈ front, x.key ≠ k) (ho : o.key = k) :
    orderPlace k s = [natWord front.length, natWord o.state.code] := by
  have hi := firstIndex_split (p := fun x : Order => x.key == k) h (fun x hx => by simpa using hf x hx) (by simpa using ho)
  have hat : s.orderAt k = some o := by
    unfold State.orderAt
    rw [h, List.find?_append, List.find?_eq_none.mpr (fun x hx => by simpa using hf x hx)]
    simp [ho]
  simp only [orderPlace, hi, hat]

/-! ### ORDER_ADD (R79) -/

/-- R79, checks 3 to 8. -/
theorem orderFault_passed {w : OrderWords} {gr : Grade} {pat : Pattern} {s : State} (hn : w.key.number ≠ 0#32)
    (hp : w.key.part ≤ 3) (hl : 3000 ≤ w.length) (hl' : w.length ≤ 80000) (hs : 1 ≤ w.sheets) (hs' : w.sheets ≤ 1000000)
    (hst : 1 ≤ w.stackCount) (hst' : w.stackCount ≤ 65535) (hln : w.lane ≤ 4) (hov : w.overrun ≤ 1000)
    (hg : s.gradeAt w.grade = some gr) (hgr : gr.released = true) (hpt : s.patternAt w.pattern = some pat)
    (hpr : pat.released = true) (hw : pat.width ≤ gr.width) : orderFault w s = none := by
  have hr : w.inRange = true := by simp [OrderWords.inRange, *]
  simp [orderFault, hr, referenceCheck_passed hg hgr hpt hpr hw]

/-- R79: an order that passes the checks is taken into the queue. -/
theorem orderAdd_taken {ws : List Word} {w : OrderWords} {s : State} (hr : readOrder ws = some w)
    (hq : s.op.queue.length < Config.queueCapacity) (hk : s.orderAt w.key = none) (hf : orderFault w s = none) :
    orderAdd ws s =
      let t := refreshNext (s.withOp { s.op with queue := s.op.queue ++ [newOrder w s] })
      (t, Answer.ok (orderPlace w.key t)) := by
  simp only [orderAdd, hr, if_neg (Nat.not_le.mpr hq), hk, hf]
  rfl

theorem key_ne_of_orderAt {s : State} {k : OrderKey} (h : s.orderAt k = none) {x : Order} (hx : x ∈ s.op.queue) :
    x.key ≠ k := by
  rintro rfl
  exact State.orderAt_eq_none.mp h (List.mem_map_of_mem hx)

/-- R78: an order appended behind the one that is NEXT changes no designation. -/
theorem refreshNext_append {s : State} {o : Order} (hn : s.nextOrder.isSome = true)
    (hk : s.nextKey = s.nextOrder.map (·.key)) :
    refreshNext (s.withOp { s.op with queue := s.op.queue ++ [o] }) =
      s.withOp { s.op with queue := s.op.queue ++ [o] } := by
  refine refreshNext_idle ?_
  have hnext : (s.withOp { s.op with queue := s.op.queue ++ [o] }).nextOrder = s.nextOrder := by
    obtain ⟨x, hx⟩ := Option.isSome_iff_exists.mp hn
    unfold State.nextOrder at *
    rw [State.withOp_op, List.find?_append, hx]
    rfl
  have hkey : (s.withOp { s.op with queue := s.op.queue ++ [o] }).nextKey = s.nextKey := by
    obtain ⟨x, hx⟩ := Option.isSome_iff_exists.mp hn
    rw [hx] at hk
    obtain ⟨y, hy, -⟩ := Option.map_eq_some_iff.mp hk
    unfold State.nextKey
    rw [State.withOp_op, List.find?_append, hy]
    rfl
  rw [hnext, hkey, hk]

/-- R78: an order appended where none waits is NEXT. -/
theorem refreshNext_appendNext {s : State} {o : Order} (hall : ∀ x ∈ s.op.queue, x.start.isSome = true ∧ x.state ≠ .next)
    (ho : o.start = none) (hs : o.state ≠ .next) :
    refreshNext (s.withOp { s.op with queue := s.op.queue ++ [o] }) =
      s.withOp { s.op with queue := s.op.queue ++ [{ o with state := .next }], block := none } := by
  have hn := nextOrder_of_split (s := s.withOp { s.op with queue := s.op.queue ++ [o] }) rfl (fun x hx => (hall x hx).1) ho
  rw [refreshNext_designates hn]
  · have hmap : (s.op.queue ++ [o]).map (Order.designate (some o.key)) = s.op.queue ++ [{ o with state := .next }] := by
      have hfix : s.op.queue.map (Order.designate (some o.key)) = s.op.queue :=
        (List.map_congr_left fun x hx => if_pos (hall x hx).1).trans (List.map_id _)
      rw [List.map_append, hfix]
      simp [Order.designate, ho]
    simp only [State.withOp_op, hmap]
    rfl
  · intro x hx _
    rcases List.mem_append.mp hx with hx | hx
    · exact (hall x hx).2
    · rw [List.mem_singleton.mp hx]
      exact hs

/-- Settles O32, by whether an order is NEXT. -/
theorem orderAddTaken : Obligations.OrderAddTaken := by
  intro tag l n p g pt len sh st lane ov gr pat s h hl1 hl2 hq hk hn hp hlen hlen' hsh hsh' hst hst' hlane hov hg hgr hpt
    hpr hw o next
  let w : OrderWords := ⟨⟨n, p.toNat⟩, g.toNat, pt.toNat, len.toNat, sh.toNat, st.toNat, lane.toNat, ov.toNat⟩
  have hadd := orderAdd_taken (ws := [n, p, g, pt, len, sh, st, lane, ov]) (w := w) rfl hq hk
    (orderFault_passed hn hp hlen hlen' hsh hsh' hst hst' hlane hov hg hgr hpt hpr hw)
  have hnew : newOrder w s = o := by
    simp only [newOrder, patternOuts_eq (p := w.pattern) hpt]
    rfl
  rw [hnew] at hadd
  have hfault : requestFault .orderAdd l [n, p, g, pt, len, sh, st, lane, ov] = none := requestFault_operate rfl hl1 hl2 rfl
  have hfresh : ∀ x ∈ s.op.queue, x.key ≠ w.key := fun x hx => key_ne_of_orderAt hk hx
  refine ⟨fun hsome hkey => ?_, fun hall => ?_⟩
  · rw [refreshNext_append hsome hkey] at hadd
    refine congrArg _ (request_replied h hfault (hadd.trans ?_))
    dsimp only
    rw [orderPlace_split (o := o) rfl hfresh rfl, show natWord o.state.code = 0 from natWord_eq (n := 0) (by decide)]
    rfl
  · rw [refreshNext_appendNext hall rfl OrderState.noConfusion] at hadd
    refine congrArg _ (request_replied h hfault (hadd.trans ?_))
    dsimp only
    rw [orderPlace_split (o := next) rfl hfresh rfl, show natWord next.state.code = 1 from natWord_eq (n := 1) (by decide)]
    rfl

end Sys2Proof.Machine

/-! ORDER_CANCEL and ORDER_RUSH (R89 to R92). -/
namespace Sys2Proof.Machine

/-! ### ORDER_CANCEL (R89 to R91) -/

/-- R164: a cancel that is refused changes nothing. -/
theorem cancelRequest_refused {ws : List Word} {r : Nat} {s : State} (hc : s.wm.boardChange = none)
    (hb : orderCancel ws s = refuse r s) (hr : 1 < r := by decide) : cancelRequest ws s = refuse r s := by
  have hp : (Answer.refuse r).passed = false := decide_eq_false (Nat.not_le.mpr hr)
  exact settledWhen_unchanged
    (f := fun t => figuresChanged (targetKey ws) s t || openCancelled (targetKey ws) s t) hb (by rw [hp, Bool.and_false]) hc

/-- No open order has the key of one that is not open. -/
theorem openOrder_any_eq_false {s : State} {k : OrderKey} {o : Order} {p : Order → Bool}
    (hall : ∀ x ∈ s.op.queue, x.key = k → x = o) (ho : o.start = none ∨ p o = false) :
    s.openOrder.any (fun x => x.key == k && p x) = false := by
  refine Option_any_eq_false fun x hx => ?_
  by_cases hk : x.key = k
  · obtain rfl := hall x (List.mem_of_find?_eq_some hx) hk
    have hs : x.start.isSome = true := by
      have := List.find?_some hx
      simp only [Bool.and_eq_true] at this
      exact this.1
    rcases ho with ho | ho
    · simp [ho] at hs
    · simp [ho]
  · simp [hk]

theorem figuresChanged_self {k : OrderKey} {s : State} : figuresChanged k s s = false := by
  unfold figuresChanged
  cases s.orderAt k <;> simp

theorem figuresChanged_uncommitted {k : OrderKey} {s t : State} {o : Order} (ho : s.orderAt k = some o)
    (hs : o.start = none) : figuresChanged k s t = false := by
  unfold figuresChanged
  rw [ho]
  cases t.orderAt k <;> simp [hs]

/-- R89: an order that has been cancelled stays as it is. -/
theorem cancelRequest_again {n p : Word} {o : Order} {s : State} (hc : s.wm.boardChange = none)
    (ho : s.orderAt ⟨n, p.toNat⟩ = some o) (hall : ∀ x ∈ s.op.queue, x.key = ⟨n, p.toNat⟩ → x = o)
    (hcan : o.cancelled = true) : cancelRequest [n, p] s = (s, Answer.ok []) := by
  refine settledWhen_unchanged
    (f := fun t => figuresChanged (targetKey [n, p]) s t || openCancelled (targetKey [n, p]) s t) ?_ ?_ hc
  · simp [orderCancel, readOrderKey, ho, hcan]
  · have hopen : openCancelled (targetKey [n, p]) s s = false := by
      unfold openCancelled targetKey
      rw [openOrder_any_eq_false (p := fun x => !x.cancelled) hall (.inr (by simp [hcan]))]
      rfl
    rw [figuresChanged_self, hopen]
    rfl

/-- R89: an order that is not committed leaves the queue. -/
theorem cancelRequest_uncommitted {n p : Word} {o : Order} {s : State} (hc : s.wm.boardChange = none)
    (ho : s.orderAt ⟨n, p.toNat⟩ = some o) (hall : ∀ x ∈ s.op.queue, x.key = ⟨n, p.toNat⟩ → x = o)
    (hcan : o.cancelled = false) (hs : o.start = none) (hstate : o.state = .queued ∨ o.state = .next) :
    cancelRequest [n, p] s = (refreshFrom s.nextKey (raiseCancelled ⟨n, p.toNat⟩ (s.withOp { s.op with
      queue := s.op.queue.filter (fun x => x.key != ⟨n, p.toNat⟩) })), Answer.ok []) := by
  have hb : orderCancel [n, p] s = (refreshFrom s.nextKey (raiseCancelled ⟨n, p.toNat⟩ (s.withOp { s.op with
      queue := s.op.queue.filter (fun x => x.key != ⟨n, p.toNat⟩) })), Answer.ok []) := by
    simp only [orderCancel, readOrderKey, ho, hcan]
    rcases hstate with h | h <;> rw [h] <;> rfl
  have hfilter : (s.op.queue.filter (fun x => x.key != ⟨n, p.toNat⟩)).filter (fun y => y.start.isSome) =
      s.op.queue.filter (fun y => y.start.isSome) := by
    rw [List.filter_filter]
    refine List.filter_congr fun x hx => ?_
    by_cases hk : x.key = ⟨n, p.toNat⟩
    · simp [hall x hx hk, hs]
    · simp [hk]
  refine settledWhen_sameSignature
    (f := fun t => figuresChanged (targetKey [n, p]) s t || openCancelled (targetKey [n, p]) s t) hb ?_ ?_ ?_ ?_
  · have hopen (t : State) : openCancelled (targetKey [n, p]) s t = false := by
      unfold openCancelled targetKey
      rw [openOrder_any_eq_false hall (.inl hs)]
      rfl
    have hfig (t : State) : figuresChanged (targetKey [n, p]) s t = false := figuresChanged_uncommitted ho hs
    rw [hfig, hopen]
    rfl
  · obtain ⟨x, hx⟩ := refreshFrom_eq_withOp (k := s.nextKey) (s := raiseCancelled ⟨n, p.toNat⟩ (s.withOp { s.op with
      queue := s.op.queue.filter (fun x => x.key != ⟨n, p.toNat⟩) }))
    rw [hx]
    exact (congrArg WebMap.boardChange (raise_wm ..)).trans hc
  · rw [signature_refreshFrom]
    exact signature_raise.trans (signature_withOp (openOrder_of_filter hfilter))
  · obtain ⟨x, hx⟩ := refreshFrom_eq_withOp (k := s.nextKey) (s := raiseCancelled ⟨n, p.toNat⟩ (s.withOp { s.op with
      queue := s.op.queue.filter (fun x => x.key != ⟨n, p.toNat⟩) }))
    rw [hx]
    exact congrArg (fun x : PathTracker => State.boardCount (s.withPt x)) (raise_pt ..)

/-- R90, R91: a committed order that is cancelled. -/
theorem orderCancel_committed {n p : Word} {o after : Order} {s : State} (ho : s.orderAt ⟨n, p.toNat⟩ = some o)
    (hall : ∀ x ∈ s.op.queue, x.key = ⟨n, p.toNat⟩ → x = o) (hcan : o.cancelled = false)
    (ha : o.state = .committed ∧ after = { o with sheets := 0, cuts := 0, overrun := 0, lane := 0, cancelled := true } ∨
      o.state = .cutting ∧
        after = { o with cuts := fitTally (o.good + s.goodSent ⟨n, p.toNat⟩), overrun := 0, cancelled := true }) :
    orderCancel [n, p] s = (raiseCancelled ⟨n, p.toNat⟩ (quantityChanged ⟨n, p.toNat⟩
      (s.adjustOrder ⟨n, p.toNat⟩ (fun _ => after))), Answer.ok []) := by
  have store {f : Order → Order} {after : Order} (hf : f o = after) :
      s.adjustOrder ⟨n, p.toNat⟩ f = s.adjustOrder ⟨n, p.toNat⟩ (fun _ => after) :=
    adjustOrder_congr fun x hx hk => by rw [hall x hx hk, hf]
  rcases ha with ⟨hs, ha⟩ | ⟨hs, ha⟩
  · rw [← store (f := Order.cancelCommitted) ha.symm]
    simp only [orderCancel, readOrderKey, ho, hcan, hs]
    rfl
  · rw [← store (f := Order.cancelCutting (s.goodSent ⟨n, p.toNat⟩)) ha.symm]
    simp only [orderCancel, readOrderKey, ho, hcan, hs]
    rfl

/-- Settles O34, by the state of the order. -/
theorem orderCancelTaken : Obligations.OrderCancelTaken := by
  intro tag l n p s h hc hl1 hl2 k cancel
  have hfault : requestFault .orderCancel l [n, p] = none := requestFault_operate rfl hl1 hl2 rfl
  have row {t : State} {code : Nat} (hb : cancelRequest [n, p] s = (t, ⟨code, 0, []⟩)) (hcode : code < 256) :
      cancel = .next (t.replied tag code 0 []) :=
    congrArg _ (request_replied h hfault hb (by decide) (by omega))
  refine ⟨fun ho => ?_, fun o ho hall => ⟨fun hcan => ?_, fun hcan => ⟨fun hs hstate => ?_, fun after ha => ?_,
    fun hstate => ?_⟩⟩⟩
  · refine row (cancelRequest_refused (r := refAbsentCode) hc ?_) (by decide)
    simp only [orderCancel, readOrderKey, show s.orderAt ⟨n, p.toNat⟩ = none from ho]
  · exact row (cancelRequest_again hc ho hall hcan) (by decide)
  · exact row (cancelRequest_uncommitted hc ho hall hcan hs hstate) (by decide)
  · have hbody := orderCancel_committed ho hall hcan ha
    have hk : after.key = k := by
      rcases ha with ⟨-, rfl⟩ | ⟨-, rfl⟩ <;> exact orderAt_key (s := s) (o := o) ho
    have hkeeps : after.state = o.state ∧ after.start = o.start ∧ after.fin = o.fin := by
      rcases ha with ⟨-, rfl⟩ | ⟨-, rfl⟩ <;> exact ⟨rfl, rfl, rfl⟩
    obtain ⟨hks, hkb, hke⟩ := hkeeps
    refine ⟨fun hm => ?_, fun hm hs => ?_⟩
    · have hr : (s.adjustOrder k (fun _ => after)).running = false := State.running_eq_false.mpr hm
      rw [quantityChanged_setup hr] at hbody
      obtain ⟨b, hb⟩ := settledWhen_setup
        (f := fun t => figuresChanged (targetKey [n, p]) s t || openCancelled (targetKey [n, p]) s t) hbody
        ((congrArg WebMap.boardChange (raise_wm ..)).trans hc) (running_raise.trans hr)
      exact ⟨b, row hb (by decide)⟩
    · have hcommits : Commits (s.adjustOrder k (fun _ => after)).op
          (raiseCancelled k (quantityChanged k (s.adjustOrder k (fun _ => after)))).op :=
        (commitSteps_commits _).on_raise ((commitSteps_commits _).on_quantityChanged (Commits.refl _))
      obtain ⟨t, ht, hct, hkt⟩ := settledWhen_commits
        (f := fun t => figuresChanged (targetKey [n, p]) s t || openCancelled (targetKey [n, p]) s t) hbody hcommits
      obtain ⟨y, hy, hyx, hstart⟩ := committed_kept (t := t.replied tag 0 0 []) ho hk hs hkb hct
      obtain ⟨hmode, htables, hreplies⟩ := replied_of_kept (hkt.trans (by simp)) hm tag []
      exact ⟨t.replied tag 0 0 [], y, row ht (by decide), hmode, htables, hreplies, hy,
        replace_of_stripped hyx hks hkb hke, hstart⟩
  · refine row (cancelRequest_refused (r := alreadyCutCode) hc ?_) (by decide)
    simp only [orderCancel, readOrderKey, show s.orderAt ⟨n, p.toNat⟩ = some o from ho, hcan]
    rcases hstate with h | h | h <;> rw [h] <;> rfl

end Sys2Proof.Machine

/-! ORDER_RUSH (R92). -/
namespace Sys2Proof.Machine

/-! ### The queue with a rush order -/

theorem insertRush_eq (o : Order) (rest : Option Order) (q : List Order) : insertRush o rest q =
    q.takeWhile (·.start.isSome) ++ o :: (rest.toList ++ q.dropWhile (·.start.isSome)) := by
  simp [insertRush]

theorem start_of_takeWhile {q : List Order} {x : Order} (h : x ∈ q.takeWhile (·.start.isSome)) : x.start.isSome = true :=
  List.mem_takeWhile_imp (p := fun x : Order => x.start.isSome) h

/-- Orders that are not committed, put between the committed ones and the rest. -/
theorem insertRush_filter (o : Order) (rest : Option Order) (q : List Order) (ho : o.start = none)
    (hr : ∀ x ∈ rest, x.start = none) :
    (insertRush o rest q).filter (fun y => y.start.isSome) = q.filter (fun y => y.start.isSome) := by
  have hrest : rest.toList.filter (fun y => y.start.isSome) = [] := by
    refine List.filter_eq_nil_iff.mpr fun x hx => ?_
    simp [hr x (Option.mem_toList.mp hx)]
  rw [insertRush_eq, List.filter_append, List.filter_cons_of_neg (by simp [ho]), List.filter_append, hrest,
    List.nil_append, ← List.filter_append, List.takeWhile_append_dropWhile]

theorem mem_insertRush {o x : Order} {rest : Option Order} {q : List Order} (h : x ∈ insertRush o rest q) :
    x = o ∨ x ∈ rest ∨ x ∈ q := by
  have h := (insertRush_perm o rest q).mem_iff.mp h
  simpa [or_assoc] using h

/-- R92: the words of the reply of a rush. -/
theorem orderPlace_take {s : State} {front back : List OrderKey} {k : OrderKey}
    (h : s.op.queue.map (·.key) = front ++ k :: back) (hf : k ∉ front) :
    (orderPlace k s).take 1 = [natWord front.length] := by
  obtain ⟨f, r, hq, hfm, hr⟩ := List.map_eq_append_iff.mp h
  obtain ⟨o, b, rfl, ho, -⟩ := List.map_eq_cons_iff.mp hr
  have hne : ∀ x ∈ f, x.key ≠ k := by
    rintro x hx rfl
    exact hf (hfm ▸ List.mem_map_of_mem hx)
  rw [orderPlace_split hq hne ho, ← hfm, List.length_map]
  rfl

theorem designate_key (k : Option OrderKey) (o : Order) : (o.designate k).key = o.key := by
  unfold Order.designate
  split <;> rfl

theorem splitDue_eq_none {s : State} (h : ∀ r, s.openOrder = some r → r.cuts ≤ r.good + s.goodInHand r.key) :
    splitDue s = none := by
  unfold splitDue
  split
  · rfl
  · next r hr => exact if_neg (Nat.not_lt.mpr (h r hr))

theorem splitDue_eq_some {s : State} {r : Order} (h : s.openOrder = some r) (hc : r.good + s.goodInHand r.key < r.cuts) :
    splitDue s = some (r, r.good + s.goodInHand r.key) := by
  unfold splitDue
  rw [h]
  exact if_pos hc

/-- R92: a rush order becomes NEXT. -/
theorem refreshNext_rush {s : State} {o : Order} {rest : Option Order} {f : Order → Order}
    (hq : s.op.queue = (insertRush o rest q).map f) (ho : o.start = none) (hs : o.state ≠ .next)
    (hfo : f o = o) (hf : ∀ x, (f x).key = x.key ∧ (f x).start = x.start)
    (hk : ∀ x ∈ q, x.key ≠ o.key) (hr : ∀ x ∈ rest, x.key ≠ o.key) :
    refreshNext s = s.withOp { s.op with queue := s.op.queue.map (Order.designate (some o.key)), block := none } := by
  have hn : s.nextOrder = some o := by
    rw [insertRush_eq, List.map_append, List.map_cons, hfo] at hq
    refine nextOrder_of_split hq (fun x hx => ?_) ho
    obtain ⟨y, hy, rfl⟩ := List.mem_map.mp hx
    rw [(hf y).2]
    exact start_of_takeWhile hy
  refine refreshNext_designates hn fun x hx hxk => ?_
  rw [hq] at hx
  obtain ⟨y, hy, rfl⟩ := List.mem_map.mp hx
  rw [(hf y).1] at hxk
  rcases mem_insertRush hy with rfl | hy | hy
  · rwa [hfo]
  · exact absurd hxk (hr y hy)
  · exact absurd hxk (hk y hy)

/-- R92: a rush that passes the checks is taken. -/
theorem orderRush_taken {ws : List Word} {w : OrderWords} {s : State} (hr : readOrder ws = some w)
    (hq : s.op.queue.length + (if (splitDue s).isSome then 2 else 1) ≤ Config.queueCapacity)
    (hk : s.orderAt w.key = none) (hd : ∀ r c, splitDue s = some (r, c) → r.key.part + 1 ≤ 3 ∧
      s.orderAt ⟨r.key.number, r.key.part + 1⟩ = none ∧ (⟨r.key.number, r.key.part + 1⟩ : OrderKey) ≠ w.key)
    (hf : orderFault w s = none) :
    orderRush ws s = (takeRush w s, Answer.ok ((orderPlace w.key (takeRush w s)).take 1)) := by
  unfold orderRush
  rw [hr]
  dsimp only
  cases hs : splitDue s with
  | none =>
    rw [hs] at hq
    rw [if_neg (by simpa using hq), if_neg (by simp [hk]), if_neg (by simp), hf]
  | some p =>
    obtain ⟨hpart, hfree, hne⟩ := hd p.1 p.2 hs
    rw [hs] at hq
    rw [if_neg (by simpa using hq), if_neg (by simp [hk, hfree, hne]), if_neg (by simpa using hpart), hf]

/-- R92: with no split due, the rush order alone is put in. -/
theorem takeRush_whole {w : OrderWords} {s : State} (hs : splitDue s = none) (hk : s.orderAt w.key = none) :
    takeRush w s = s.withOp { s.op with
      queue := (insertRush (newOrder w s) none s.op.queue).map (Order.designate (some w.key)), block := none } := by
  unfold takeRush
  rw [hs]
  exact refreshNext_rush (q := s.op.queue) (o := newOrder w s) (rest := none) (f := id) (by simp) rfl OrderState.noConfusion rfl (fun _ => ⟨rfl, rfl⟩)
    (fun x hx => key_ne_of_orderAt hk hx) (by simp)

/-- R92: the figures a split leaves the open order. -/
def Order.divided (k : OrderKey) (c sheets : Nat) (x : Order) : Order :=
  if x.key = k then { x with cuts := c, sheets := sheets, split := true } else x

theorem Order.divided_key (k : OrderKey) (c sheets : Nat) (x : Order) : (x.divided k c sheets).key = x.key := by
  unfold Order.divided
  split <;> rfl

theorem Order.divided_start (k : OrderKey) (c sheets : Nat) (x : Order) : (x.divided k c sheets).start = x.start := by
  unfold Order.divided
  split <;> rfl

/-- R92: the queue of a rush that splits the open order. -/
def dividedQueue (w : OrderWords) (r : Order) (c sheets : Nat) (s : State) : State :=
  s.withOp { s.op with
    queue := ((insertRush (newOrder w s) (some (remainderOf r c sheets)) s.op.queue).map
      (Order.divided r.key c sheets)).map (Order.designate (some w.key))
    block := none }

theorem takeRush_divided {w : OrderWords} {s : State} {r : Order} {c : Nat} (hs : splitDue s = some (r, c))
    (hr : r ∈ s.op.queue) (hk : s.orderAt w.key = none) (hd : (⟨r.key.number, r.key.part + 1⟩ : OrderKey) ≠ w.key) :
    let sheets := fitSheets ((c * patternOuts s r.pattern : Nat) : Int)
    takeRush w s = raiseNoPosition .orderSplit r.key.number (natWord c)
      (quantityChanged r.key (dividedQueue w r c sheets s)) := by
  intro sheets
  have hrk : r.key ≠ w.key := key_ne_of_orderAt hk hr
  have hmap (q : List Order) : q.map (fun x => if (x.key == r.key) = true then
      { x with cuts := c, sheets := sheets, split := true } else x) = q.map (Order.divided r.key c sheets) := by
    refine List.map_congr_left fun x _ => ?_
    unfold Order.divided
    by_cases hx : x.key = r.key <;> simp [hx]
  unfold takeRush
  rw [hs]
  dsimp only
  refine congrArg (fun t => raiseNoPosition .orderSplit r.key.number (natWord c) (quantityChanged r.key t)) ?_
  rw [State.adjustOrder, State.withOp_op, hmap]
  exact refreshNext_rush (q := s.op.queue) (o := newOrder w s)
    (rest := some (remainderOf r c sheets)) (f := Order.divided r.key c sheets) rfl rfl
    OrderState.noConfusion (if_neg (Ne.symm hrk)) (fun x => ⟨Order.divided_key .., Order.divided_start ..⟩)
    (fun x hx => key_ne_of_orderAt hk hx) (by simpa [remainderOf, newOrder] using hd)

/-! ### The reply and the end of a rush -/

theorem insertRush_keys (o : Order) (rest : Option Order) (q : List Order) : (insertRush o rest q).map (·.key) =
    (q.takeWhile (·.start.isSome)).map (·.key) ++
      o.key :: (rest.toList ++ q.dropWhile (·.start.isSome)).map (·.key) := by
  rw [insertRush_eq, List.map_append, List.map_cons]

/-- R92: the place of a rush order is the one behind the committed orders. -/
theorem rushPlace {s t : State} {w : OrderWords} {rest : Option Order} (hk : s.orderAt w.key = none)
    (ht : t.op.queue.map (·.key) = (insertRush (newOrder w s) rest s.op.queue).map (·.key)) :
    (orderPlace w.key t).take 1 = [natWord (s.op.queue.takeWhile (·.start.isSome)).length] := by
  rw [insertRush_keys] at ht
  rw [orderPlace_take (k := w.key) ht, List.length_map]
  intro hmem
  obtain ⟨x, hx, hxk⟩ := List.mem_map.mp hmem
  exact key_ne_of_orderAt hk ((List.takeWhile_prefix _).subset hx) hxk

theorem dividedQueue_keys {w : OrderWords} {r : Order} {c sheets : Nat} {s : State} :
    (dividedQueue w r c sheets s).op.queue.map (·.key) =
      (insertRush (newOrder w s) (some (remainderOf r c sheets)) s.op.queue).map (·.key) := by
  simp only [dividedQueue, State.withOp_op, List.map_map]
  exact List.map_congr_left fun x _ => (designate_key ..).trans (Order.divided_key ..)

/-- R92: the open order of a split has its new figures. -/
theorem dividedQueue_orderAt {w : OrderWords} {r : Order} {c sheets : Nat} {s : State} (hr : r ∈ s.op.queue)
    (hall : ∀ x ∈ s.op.queue, x.key = r.key → x = r) (hk : r.key ≠ w.key) (hs : r.start.isSome = true) :
    (dividedQueue w r c sheets s).orderAt r.key = some (r.divided r.key c sheets) := by
  have hmem : r.key ∈ (dividedQueue w r c sheets s).op.queue.map (·.key) := by
    rw [dividedQueue_keys, List.mem_map]
    exact ⟨r, (insertRush_perm ..).mem_iff.mpr (List.mem_append_right _ hr), rfl⟩
  obtain ⟨x, hx⟩ := Option.ne_none_iff_exists'.mp (mt State.orderAt_eq_none.mp (not_not.mpr hmem))
  have hxk : x.key = r.key := orderAt_key hx
  have hxm : x ∈ ((insertRush (newOrder w s) (some (remainderOf r c sheets)) s.op.queue).map
      (Order.divided r.key c sheets)).map (Order.designate (some w.key)) := List.mem_of_find?_eq_some hx
  rw [List.map_map] at hxm
  obtain ⟨y, hy, rfl⟩ := List.mem_map.mp hxm
  have hyk : y.key = r.key := ((designate_key ..).trans (Order.divided_key ..)).symm.trans hxk
  have hyr : y = r := by
    rcases mem_insertRush hy with rfl | hy | hy
    · exact absurd hyk.symm hk
    · obtain rfl : y = remainderOf r c sheets := (Option.mem_some_iff.mp hy).symm
      have : r.key.part + 1 = r.key.part := congrArg OrderKey.part hyk
      omega
    · exact hall y hy hyk
  subst hyr
  rw [hx]
  exact congrArg some (if_pos (by rwa [Order.divided_start]))

/-- Settles O35, by whether the open order is split. -/
theorem orderRushTaken : Obligations.OrderRushTaken := by
  intro tag l n p g pt len sh st lane ov gr pat s h hc hl1 hl2 hk hn hp hlen hlen' hsh hsh' hst hst' hlane hov hg hgr hpt
    hpr hw o front back rush
  let w : OrderWords := ⟨⟨n, p.toNat⟩, g.toNat, pt.toNat, len.toNat, sh.toNat, st.toNat, lane.toNat, ov.toNat⟩
  have hpass : orderFault w s = none :=
    orderFault_passed hn hp hlen hlen' hsh hsh' hst hst' hlane hov hg hgr hpt hpr hw
  have hnew : newOrder w s = o := by
    simp only [newOrder, patternOuts_eq (p := w.pattern) hpt]
    rfl
  have hins (rest : Option Order) : insertRush (newOrder w s) rest s.op.queue = front ++ o :: (rest.toList ++ back) := by
    rw [hnew, insertRush_eq]
  have hfault : requestFault .orderRush l [n, p, g, pt, len, sh, st, lane, ov] = none := requestFault_operate rfl hl1 hl2 rfl
  refine ⟨fun hno hq => ?_, ?_⟩
  · have hdue : splitDue s = none := splitDue_eq_none hno
    have hbody := orderRush_taken (ws := [n, p, g, pt, len, sh, st, lane, ov]) (w := w) rfl (by rw [hdue]; exact hq) hk
      (by simp [hdue]) hpass
    rw [takeRush_whole hdue hk, rushPlace (w := w) (rest := none) hk (by
      simp only [State.withOp_op, List.map_map]
      exact List.map_congr_left fun x _ => designate_key ..), hins none] at hbody
    refine congrArg _ (request_replied h hfault (settledWhen_sameSignature (f := fun _ => (splitDue s).isSome) hbody ?_ hc
      (signature_withOp ?_) rfl))
    · simp [hdue]
    · refine (openOrder_designate (s := s.withOp { s.op with queue := front ++ o :: (none.toList ++ back) })).trans ?_
      exact openOrder_of_filter (hins none ▸ insertRush_filter (newOrder w s) none s.op.queue rfl (by simp))
  · intro r rp hopen hall hrp hcuts hpart hroom hfree hne c sheets rest divided
    have hdue : splitDue s = some (r, c) := splitDue_eq_some hopen hcuts
    have hr : r ∈ s.op.queue := List.mem_of_find?_eq_some hopen
    have hrk : r.key ≠ w.key := key_ne_of_orderAt hk hr
    have hrs : r.start.isSome = true := by
      have := List.find?_some hopen
      simp only [Bool.and_eq_true] at this
      exact this.1
    have hbody := orderRush_taken (ws := [n, p, g, pt, len, sh, st, lane, ov]) (w := w) rfl (by rw [hdue]; exact hroom) hk
      (fun x y hxy => by
        obtain ⟨rfl, -⟩ := Prod.mk.inj (Option.some.inj (hdue.symm.trans hxy))
        exact ⟨hpart, hfree, hne.symm⟩) hpass
    have htake := takeRush_divided (w := w) hdue hr hk hne.symm
    dsimp only at htake
    rw [patternOuts_eq hrp] at htake
    have hdiv : dividedQueue w r c sheets s = divided := by
      unfold dividedQueue
      rw [hins]
      rfl
    rw [htake] at hbody
    change orderRush _ s = (raiseNoPosition .orderSplit r.key.number (natWord c) (quantityChanged r.key
      (dividedQueue w r c sheets s)), _) at hbody
    have hcommits : Commits (dividedQueue w r c sheets s).op (raiseNoPosition .orderSplit r.key.number (natWord c)
        (quantityChanged r.key (dividedQueue w r c sheets s))).op :=
      (commitSteps_commits _).on_raise ((commitSteps_commits _).on_quantityChanged (Commits.refl _))
    rw [rushPlace (w := w) (rest := some (remainderOf r c sheets)) hk
      ((map_key_of_map_stripped hcommits.stripped).trans dividedQueue_keys)] at hbody
    refine ⟨fun hm => ?_, fun hm => ?_⟩
    · have hrun : (dividedQueue w r c sheets s).running = false := State.running_eq_false.mpr hm
      rw [quantityChanged_setup hrun, hdiv] at hbody
      obtain ⟨b, hb⟩ := settledWhen_setup (f := fun _ => (splitDue s).isSome) hbody
        ((congrArg WebMap.boardChange (raise_wm ..)).trans hc) (running_raise.trans (hdiv ▸ hrun))
      exact ⟨b, congrArg _ (request_replied h hfault hb)⟩
    · obtain ⟨t, ht, hct, hkt⟩ := settledWhen_commits (f := fun _ => (splitDue s).isSome) hbody hcommits
      obtain ⟨y, hy, hyx, -⟩ := orderAt_of_commits (t := t.replied tag 0 0 [natWord front.length]) hct
        (dividedQueue_orderAt hr hall hrk hrs)
      have hkm : (raiseNoPosition .orderSplit r.key.number (natWord c)
          (quantityChanged r.key (dividedQueue w r c sheets s))).kept = s.kept :=
        (kept_raiseNoPosition ..).trans ((kept_quantityChanged ..).trans (kept_withOp s rfl))
      obtain ⟨hmode, htables, hreplies⟩ := replied_of_kept (hkt.trans hkm) hm tag [natWord front.length]
      have hfigures : r.divided r.key c sheets = { r with cuts := c, sheets := sheets, split := true } := if_pos rfl
      rw [hfigures] at hyx
      refine ⟨t.replied tag 0 0 [natWord front.length], y,
        congrArg Host.Outcome.next (request_replied h hfault ht), hmode, htables, hreplies,
        hdiv ▸ map_key_of_map_stripped hct.stripped, hy, ?_, ?_, ?_⟩
      · exact congrArg Order.cuts hyx
      · exact congrArg Order.sheets hyx
      · exact congrArg Order.split hyx

end Sys2Proof.Machine

/-! Small units of the machine: issued commands, the gate decision, a generator's output (R62, R63, R144, R146, R157). -/
namespace Sys2Proof.Machine

/-! ### Issued commands (R62, R63) -/

theorem channelAt_lt {s : State} {i : Nat} {c : Channel} (h : s.channelAt i = some c) : i < s.ccu.records.length :=
  (List.getElem?_eq_some_iff.mp h).1

theorem channelAt_adjustChannel {s : State} {i : Nat} {c : Channel} {f : Channel → Channel} (h : s.channelAt i = some c) :
    (s.adjustChannel i f).channelAt i = some (f c) := by
  have hlt := channelAt_lt h
  simp only [State.adjustChannel, h]
  simp [State.channelAt, hlt]

/-- Settles O49, by whether the list has room. -/
theorem issuedTagIsFresh : Obligations.IssuedTagIsFresh := by
  intro ch v args role x c s hc hn hout hrec hx
  have htags : c.tags.length < 8 := by
    have : (c.pend.map (·.tag)).toList.length ≤ 1 := by cases c.pend <;> simp
    simp only [Channel.tags, List.length_append, List.length_map]
    omega
  obtain ⟨hfree, hne⟩ := chooseTag_free hn htags
  have hunused : c.tagInUse (chooseTag c 8 c.nextTag) = false :=
    Bool.eq_false_iff.mpr (mt (c.tagInUse_iff _).mp hfree)
  unfold issueCommand at hx ⊢
  rw [hc] at hx ⊢
  dsimp only at hx ⊢
  split at hx
  · cases hx
  · next hok =>
    rw [if_neg hok]
    have hcls : c.cls = some v.cls := by
      rw [Bool.or_eq_true, not_or] at hok
      simpa using hok.1
    split at hx
    · next hroom =>
      rw [if_pos hroom]
      obtain rfl := Option.some.inj hx
      exact ⟨hne, hunused, hcls, _, channelAt_adjustChannel hc, tagAfter_ne_zero _, rfl,
        fun _ => ⟨rfl, rfl, rfl⟩, fun h => absurd hroom (Nat.not_lt.mpr h)⟩
    · next hfull =>
      rw [if_neg hfull]
      split at hx
      · cases hx
      · next hpend =>
        rw [if_neg hpend]
        obtain rfl := Option.some.inj hx
        exact ⟨hne, hunused, hcls, _, channelAt_adjustChannel hc, tagAfter_ne_zero _, rfl,
          fun h => absurd h hfull, fun _ => ⟨rfl, rfl, rfl⟩⟩

/-! ### The gate decision (R144, R146) -/

theorem pieceFault_none_iff {p : Piece} {s : State} :
    pieceFault s p = none ↔ p.good = true ∧ p.cutFault = false ∧ s.boardOverlap ⟨p.lead + 1, p.trail⟩ = [] := by
  unfold pieceFault
  cases p.good <;> cases p.cutFault <;> simp [Piece.span]

theorem pendingEmpty_iff {ch : Nat} {s : State} :
    pendingEmpty ch s = true ↔ ∀ c, s.channelAt ch = some c → c.pend = none := by
  unfold pendingEmpty
  cases s.channelAt ch <;> simp

theorem stackerReady_iff {s : State} : stackerReady s = true ↔
    (∀ ch c, s.sg.channel = some ch → s.channelAt ch = some c → c.pend = none) ∧
      ∀ k, s.sg.slot = some k → s.fresh k = true ∧ s.slotValue k = 1 := by
  unfold stackerReady
  rw [Bool.and_eq_true]
  refine and_congr ?_ ?_
  · cases s.sg.channel with
    | none => simp
    | some ch =>
      rw [pendingEmpty_iff]
      exact ⟨fun h k c hk => Option.some.inj hk ▸ h c, fun h c => h ch c rfl⟩
  · cases s.sg.slot <;> simp

/-- R144: the conditions of a PASS. -/
theorem routeOf_pass_iff {p : Piece} {s : State} : routeOf s p = .pass ↔
    pieceFault s p = none ∧ (∃ k o, p.order = some k ∧ s.orderAt k = some o ∧ o.lane ≠ 0) ∧ stackerReady s = true := by
  unfold routeOf
  cases pieceFault s p with
  | some r => simp
  | none =>
    cases hk : p.order with
    | none => simp
    | some k =>
      cases ho : s.orderAt k with
      | none => simp [ho]
      | some o =>
        by_cases hl : o.lane = 0
        · simp [ho, hl]
        · by_cases hr : stackerReady s = true <;> simp [ho, hl, hr]

theorem Route.gate_eq (r : Route) : r.gate = if r = .pass then .pass else .divert := by
  cases r <;> simp [Route.gate]

theorem noteLaneMissing_frame {p : Piece} {r : Route} {s : State} :
    (noteLaneMissing p r s).sg.published = s.sg.published ∧ (noteLaneMissing p r s).ccu = s.ccu := by
  unfold noteLaneMissing
  split
  · split
    · exact ⟨rfl, raise_ccu ..⟩
    · exact ⟨rfl, rfl⟩
  · exact ⟨rfl, rfl⟩

/-- Settles O51. -/
theorem gateDecisionPublished : Obligations.GateDecisionPublished := by
  intro p s
  obtain ⟨hpub, hccu⟩ := noteLaneMissing_frame (p := p) (r := routeOf s p) (s := s)
  rw [← Route.gate_eq]
  refine ⟨?_, fun hg => ?_, fun hg hf => ?_, rfl, ?_, fun hne => ?_, fun he => ?_⟩
  · rw [routeOf_pass_iff, pieceFault_none_iff, stackerReady_iff, and_assoc, and_assoc]
  · simp [routeOf, pieceFault, hg]
  · simp [routeOf, pieceFault, hg, hf]
  · show (publishRoute _ _).sg.published = _
    unfold publishRoute
    split
    · assumption
    · rfl
  · show (publishRoute _ _).ccu.gate = _
    unfold publishRoute
    rw [if_neg (hpub ▸ hne)]
    rfl
  · show (publishRoute _ _).ccu = _
    unfold publishRoute
    rw [if_pos (hpub.trans he)]
    exact hccu

/-! ### A generator's output (R157, R160) -/

theorem lookup_adjust {α : Type} {l : List (Option α)} {i : Nat} {a : α} {f : α → α} (h : lookup l i = some a) :
    lookup (adjust l i f) i = some (f a) := by
  have hlt : i < l.length := (List.getElem?_eq_some_iff.mp (lookup_eq_some.mp h)).1
  simp only [adjust, h]
  simp [lookup, hlt]

theorem generatorAt_adjustGen {s : State} {i : Nat} {g : Generator} {f : GenState → GenState}
    (h : s.generatorAt i = some g) : (s.adjustGen i f).generatorAt i = some { g with st := f g.st } :=
  lookup_adjust (l := s.ss.generators) (f := fun g : Generator => { g with st := f g.st }) h

theorem clampInt_mem {lo hi : Int} (h : lo ≤ hi) (x : Int) : lo ≤ clampInt lo hi x ∧ clampInt lo hi x ≤ hi := by
  unfold clampInt
  split
  · omega
  · split <;> omega

/-- A step toward a target is never past it. -/
theorem clampInt_step {m : Int} (hm : 0 ≤ m) (a b : Int) :
    min a b ≤ a + clampInt (-m) m (b - a) ∧ a + clampInt (-m) m (b - a) ≤ max a b := by
  unfold clampInt
  split
  · omega
  · split <;> omega

/-- R153: a curve's value is never negative, whatever its breakpoints. -/
theorem curveValue_nonneg (bs : List Breakpoint) (v : Nat) : 0 ≤ curveValue bs v := by
  induction bs with
  | nil => exact le_rfl
  | cons a rest ih =>
    cases rest with
    | nil => exact Int.natCast_nonneg _
    | cons b rest =>
      unfold curveValue
      split
      · exact Int.natCast_nonneg _
      · split
        · next hav hvb =>
          have hrange := roundDiv_mul_mem_range ((b.y : Int) - a.y) (t := v - a.v) (d := b.v - a.v) (by omega) (by omega)
          rw [Int.natCast_sub (by omega)] at hrange
          omega
        · exact ih

/-- R160: the output is the lift value in lift, and otherwise lies in the range and follows within the slew limit. -/
theorem outputOf_spec {g : Generator} {raw : Int} {lift : Bool} (hr : g.cfg.outMin ≤ g.cfg.outMax)
    (hl : ∀ y, g.st.lastOutput = some y → g.st.inLift = true ∨ g.cfg.outMin ≤ y ∧ y ≤ g.cfg.outMax) :
    (outputOf g raw lift).2 = lift ∧ (lift = true → (outputOf g raw lift).1 = g.cfg.liftValue) ∧
      (lift = false → g.cfg.outMin ≤ (outputOf g raw lift).1 ∧ (outputOf g raw lift).1 ≤ g.cfg.outMax ∧
        (g.st.inLift = false → ∀ y, g.st.lastOutput = some y →
          (outputOf g raw lift).1 ≤ y + g.cfg.slew ∧ y ≤ (outputOf g raw lift).1 + g.cfg.slew) ∧
        (g.st.inLift = true ∨ g.st.lastOutput = none →
          ((outputOf g raw lift).1 : Int) = clampInt g.cfg.outMin g.cfg.outMax raw)) := by
  have hclamp := clampInt_mem (Int.ofNat_le.mpr hr) raw
  have hslew : (0 : Int) ≤ g.cfg.slew := Int.natCast_nonneg _
  unfold outputOf
  dsimp only
  split
  · next h => simp [h]
  · next h =>
    rw [Bool.not_eq_true] at h
    refine ⟨?_, by simp [h], fun _ => ?_⟩
    · split <;> simp [h]
    · split
      · next y hin hlast =>
        have hy := (hl y hlast).resolve_left (by simp [hin])
        have hstep := clampInt_step hslew y (clampInt g.cfg.outMin g.cfg.outMax raw)
        have hmove := clampInt_mem (show -(g.cfg.slew : Int) ≤ g.cfg.slew by omega)
          (clampInt g.cfg.outMin g.cfg.outMax raw - y)
        refine ⟨by omega, by omega, fun _ z hz => ?_, fun hor => ?_⟩
        · obtain rfl := Option.some.inj (hlast.symm.trans hz)
          omega
        · rcases hor with h | h
          · simp [hin] at h
          · simp [hlast] at h
      · next hno =>
        refine ⟨by omega, by omega, fun hin z hz => (hno z hin hz).elim, fun _ => ?_⟩
        exact Int.toNat_of_nonneg (by omega)

/-- R157: a value is the output for the curve's value, which is not negative, and the trim. -/
theorem generatorValue_some {i o : Nat} {g : Generator} {s : State} (hg : s.generatorAt i = some g)
    (ho : (generatorValue i s).2 = some o) : ∃ (base trim : Int) (v : Nat), 0 ≤ base ∧
      o = (outputOf g (base + trim) (liftsNow g s)).1 ∧
      (generatorValue i s).1 = s.adjustGen i (fun y =>
        { y with lastOutput := some o, inLift := (outputOf g (base + trim) (liftsNow g s)).2, lastTrim := trim
                 curveAbsent := false, lastBase := base.toNat, lastSpeed := v }) := by
  unfold generatorValue at ho ⊢
  rw [hg] at ho ⊢
  dsimp only at ho ⊢
  split at ho
  · cases ho
  · split at ho
    · cases ho
    · split at ho
      · cases ho
      · cases ho
      · cases ho
        exact ⟨_, _, _, curveValue_nonneg _ _, rfl, rfl⟩

/-- Settles O47: what `generatorValue` stores is what `outputOf` gives. -/
theorem generatorOutputHeld : Obligations.GeneratorOutputHeld := by
  intro i o g s hg hr hl ho
  obtain ⟨base, trim, v, hbase, hout, hstate⟩ := generatorValue_some hg ho
  obtain ⟨hlift, hin, hrange⟩ := outputOf_spec (raw := base + trim) (lift := liftsNow g s) hr hl
  rw [← hout] at hin hrange
  rw [hstate]
  refine ⟨_, generatorAt_adjustGen hg, rfl, rfl, hlift, rfl, rfl, rfl, hin,
    fun hno => ?_⟩
  obtain ⟨hlo, hhi, hslew, hclamp⟩ := hrange hno
  refine ⟨hlo, hhi, hslew, fun hor => ?_⟩
  rw [hclamp hor]
  exact congrArg (fun x => clampInt _ _ (x + trim)) (Int.toNat_of_nonneg hbase).symm

end Sys2Proof.Machine

/-! The next cut of the plan (R130 to R133). -/
namespace Sys2Proof.Machine

/-! ### The context of a cut (R130) -/

theorem orderCutAt_mem {q : List Order} {c : Word} {o : Order} (h : orderCutAt q c = some o) : o ∈ q :=
  List.mem_of_find?_eq_some h

/-- A boundary that ends the context of a cut lies ahead of it. -/
theorem boundDist_pos {s : State} {c : Word} {d : Int} (h : (cutContext s c).boundDist = some d) : 0 < d := by
  obtain ⟨b, hb, rfl⟩ := Option.map_eq_some_iff.mp h
  cases ho : orderCutAt s.op.queue c with
  | none =>
    simp only [ho] at hb
    obtain ⟨o, -, hf⟩ := List.exists_of_findSome?_eq_some hb
    simpa using (Option.filter_eq_some_iff.mp hf).2
  | some o =>
    simp only [ho] at hb
    have hcut := List.find?_some ho
    rw [hb] at hcut
    dsimp only at hcut
    split at hcut
    · cases hcut
    · rw [Bool.and_eq_true] at hcut
      simpa using hcut.2

section
variable {s : State} {c : Word} (hmin : s.cp.minPiece ≤ 80000) (hscrap : s.cp.scrapLen ≤ 80000)
  (hlen : ∀ o ∈ s.op.queue, o.length ≤ 80000)

theorem cutContext_minPiece_le : (s.cp.minPiece : Int) ≤ (cutContext s c).length := by
  unfold cutContext
  dsimp only
  cases orderCutAt s.op.queue c with
  | none => exact Int.ofNat_le.mpr (Nat.le_max_right ..)
  | some o =>
    dsimp only
    split
    · exact le_rfl
    · omega

include hmin hscrap hlen in
theorem cutContext_length_le : (cutContext s c).length ≤ 80000 := by
  unfold cutContext
  dsimp only
  cases ho : orderCutAt s.op.queue c with
  | none =>
    have : s.cp.scrapLength ≤ 80000 := Nat.max_le.mpr ⟨hscrap, hmin⟩
    exact Int.ofNat_le.mpr this
  | some o =>
    have := hlen o (orderCutAt_mem ho)
    dsimp only
    split <;> omega

end

/-! ### Forced cuts and tails (R131, R132) -/

/-- R131: a forced cut lies within the piece limits. -/
theorem forcedCut_within {m : Nat} {fs : List Forced} {reach : Int} {r : Int × PieceCause} (hm : m ≤ 80000)
    (h : forcedCut m fs reach = some r) : (m : Int) ≤ r.1 ∧ r.1 ≤ 80000 := by
  unfold forcedCut at h
  split at h
  · cases h
  · dsimp only at h
    have hmax : (Config.maxPiece : Int) = 80000 := rfl
    split at h
    · obtain rfl := Option.some.inj h
      dsimp only
      omega
    · next hle =>
      obtain rfl := Option.some.inj h
      exact ⟨le_max_right .., by omega⟩

/-- R131: a span that touches the reach forces a cut. -/
theorem forcedCut_isSome {m : Nat} {fs : List Forced} {reach : Int} {f : Forced} (hf : f ∈ fs)
    (ht : f.touches 1 reach = true) : ∃ r, forcedCut m fs reach = some r := by
  have hmem : f ∈ fs.filter (fun f => f.touches 1 reach) := List.mem_filter.mpr ⟨hf, ht⟩
  unfold forcedCut
  split
  · next h => simp [h] at hmem
  · dsimp only
    split <;> exact ⟨_, rfl⟩

/-- R132: a tail, alone or joined with the gap, lies within the piece limits. -/
theorem tailCut_within {s : State} {x : CutContext} {b : BoundaryRef} {d : Int} {c : Word}
    (hgap : s.cp.minPiece ≤ s.cp.swapGap) (hpos : 1 ≤ s.cp.minPiece) (hmin : s.cp.minPiece ≤ 80000)
    (hd : sdist c b.pos = d) (h0 : 0 < d) (h1 : d < 80000) :
    (s.cp.minPiece : Int) ≤ (tailCut s x b d c).1 ∧ (tailCut s x b d c).1 ≤ 80000 := by
  unfold tailCut
  split
  · next h => exact ⟨h, h1.le⟩
  · split
    · next hp =>
      have hmem : (⟨d + 1, d + s.cp.swapGap, false⟩ : Forced) ∈ x.forced ++ gapSpan s c b := by
        unfold gapSpan
        rw [if_pos hp, hd]
        simp
      obtain ⟨r, hr⟩ := forcedCut_isSome (m := s.cp.minPiece) (reach := d + s.cp.swapGap) hmem (by
        unfold Forced.touches
        simp only [Bool.and_eq_true, decide_eq_true_eq]
        omega)
      rw [hr]
      exact forcedCut_within hmin hr
    · exact ⟨le_rfl, by dsimp only; omega⟩

/-! ### The cut -/

/-- What O50 says of an entry, of the limits a cut keeps and of what a piece's cause is. -/
def CutEntry.Within (s : State) (c : Word) (e : CutEntry) : Prop :=
  e.sent = none ∧
  (∃ n : Nat, e.target = shiftBy c n ∧ s.cp.minPiece ≤ n ∧ n ≤ 80000) ∧
  (e.good = true → e.cause = none ∧
    ∃ o ∈ s.op.queue, e.order = some o.key ∧ e.target = shiftBy c o.length ∧ s.cp.minPiece ≤ o.length) ∧
  (e.good = false → e.cause.isSome = true)

theorem scrapCut_within {s : State} {c : Word} {d : Int} {cause : PieceCause} {k : Option OrderKey}
    (h1 : (s.cp.minPiece : Int) ≤ d) (h2 : d ≤ 80000) :
    CutEntry.Within s c ⟨shiftBy c d, false, some cause, k, none⟩ := by
  have hd : ((d.toNat : Nat) : Int) = d := Int.toNat_of_nonneg (by omega)
  refine ⟨rfl, ⟨d.toNat, ?_, by omega, by omega⟩, fun h => Bool.noConfusion h, fun _ => rfl⟩
  rw [hd]

/-- R133: the cut at the ordinary end. -/
theorem ordinaryCut_within {s : State} {c : Word} {found : List (OrderKey × Nat)} (h : (cutContext s c).length ≤ 80000) :
    CutEntry.Within s c (ordinaryCut s found (cutContext s c) (shiftBy c (cutContext s c).length)).entry := by
  have hmin := cutContext_minPiece_le (s := s) (c := c)
  unfold ordinaryCut
  split
  · exact scrapCut_within hmin h
  · next o ho =>
    split
    · exact scrapCut_within hmin h
    · next hshort =>
      have hnot : ¬ o.length < s.cp.minPiece := by
        simpa [cutContext, show orderCutAt s.op.queue c = some o from ho] using hshort
      have hlen : (cutContext s c).length = o.length := by
        simp only [cutContext, show orderCutAt s.op.queue c = some o from ho, if_neg hnot]
      rw [hlen] at hmin h ⊢
      split
      · exact ⟨rfl, ⟨o.length, rfl, by omega, by omega⟩,
          fun _ => ⟨rfl, o, orderCutAt_mem ho, rfl, rfl, by omega⟩, fun h => Bool.noConfusion h⟩
      · exact scrapCut_within hmin h

/-- Settles O50, by the branches of R130 to R133. -/
theorem nextCutWithinLimits : Obligations.NextCutWithinLimits := by
  intro s found c hgap hpos hmin hscrap hlen
  show CutEntry.Within s c (nextCut s found c).entry
  have hlength := cutContext_length_le (c := c) hmin hscrap hlen
  unfold nextCut
  dsimp only
  split
  · next r hr =>
    obtain ⟨h1, h2⟩ := forcedCut_within hmin hr
    exact scrapCut_within h1 h2
  · split
    · next b d hb hd =>
      split
      · next hlt =>
        have hbd : sdist c b.pos = d := by
          have : (cutContext s c).boundDist = ((cutContext s c).bound).map (fun b => sdist c b.pos) := rfl
          rw [hb, hd] at this
          exact (Option.some.inj this).symm
        obtain ⟨h1, h2⟩ := tailCut_within (x := cutContext s c) hgap hpos hmin hbd (boundDist_pos hd) (by omega)
        exact scrapCut_within h1 h2
      · exact ordinaryCut_within hlength
    · exact ordinaryCut_within hlength

end Sys2Proof.Machine

/-! Positions and lengths over a link (R14 to R16). -/
namespace Sys2Proof.Machine

/-! ### Signed distances -/

theorem shiftBy_sdist (a p : Word) : shiftBy a (sdist a p) = p := by
  unfold shiftBy sdist
  rw [BitVec.ofInt_toInt]
  bv_omega

theorem sdist_shiftBy {a : Word} {d : Int} (h1 : -2147483648 ≤ d) (h2 : d < 2147483648) : sdist a (shiftBy a d) = d := by
  unfold shiftBy sdist
  rw [show a + BitVec.ofInt 32 d - a = BitVec.ofInt 32 d by bv_omega, BitVec.toInt_ofInt]
  exact Int.bmod_eq_of_le (by omega) (by omega)

theorem sdist_shiftBy_shiftBy {a : Word} {d e : Int} (h1 : -2147483648 ≤ e - d) (h2 : e - d < 2147483648) :
    sdist (shiftBy a d) (shiftBy a e) = e - d := by
  have : shiftBy a e = shiftBy (shiftBy a d) (e - d) := by
    unfold shiftBy
    rw [BitVec.add_assoc, ← BitVec.ofInt_add]
    congr 2
    omega
  rw [this, sdist_shiftBy h1 h2]

/-! ### Rounding there and back -/

/-- A value carried with a ratio and back differs by at most 1. -/
theorem roundsTo_back {n D E : Int} {r : Nat} (hr : r ≤ 8192) (h : RoundsTo (n * 4096) r D)
    (h' : RoundsTo (D * r) 4096 E) : (E - n).natAbs ≤ 1 := by
  obtain ⟨h1, -⟩ := h
  obtain ⟨h2, -⟩ := h'
  generalize D * r = p at h1 h2
  omega

/-- R14: a distance up to 2^29 carried with a ratio of at least one half stays within 2^30. -/
theorem roundsTo_small {n D : Int} {r : Nat} (hr : 2048 ≤ r) (hn : n.natAbs ≤ 536870912)
    (h : RoundsTo (n * 4096) r D) : D.natAbs ≤ 1073741824 := by
  obtain ⟨h1, -⟩ := h
  rcases Int.le_total 0 D with hD | hD
  · by_contra hlt
    have hlarge : 1073741825 * (r : Int) ≤ D * r := Int.mul_le_mul_of_nonneg_right (by omega) (by omega)
    generalize D * r = p at h1 hlarge
    omega
  · by_contra hlt
    have hlarge : D * r ≤ -1073741825 * (r : Int) := Int.mul_le_mul_of_nonneg_right (by omega) (by omega)
    generalize D * r = p at h1 hlarge
    omega

theorem clampInt_id {lo hi x : Int} (h1 : lo ≤ x) (h2 : x ≤ hi) : clampInt lo hi x = x := by
  unfold clampInt
  rw [if_neg (by omega), if_neg (by omega)]

/-! ### Carry and inverse carry -/

theorem carryOver_anchored {link : Nat} {l : Link} {p : Word} {s : State} (h : s.linkAt link = some l)
    (ha : l.anchored = true) : carryOver link p s =
      (if (carryPos l p).2 then raiseNoValue .linkRange (natWord link) p s else s, some (carryPos l p)) := by
  simp [carryOver, h, ha]

theorem inverseOver_anchored {link : Nat} {l : Link} {q : Word} {s : State} (h : s.linkAt link = some l)
    (ha : l.anchored = true) : inverseOver link q s =
      (if (inversePos l q).2 then raiseNoValue .linkRange (natWord link) q s else s, some (inversePos l q).1) := by
  simp [inverseOver, h, ha]

theorem inversePos_shiftBy {l : Link} {D : Int} (h : D.natAbs ≤ 1073741824) :
    inversePos l (shiftBy l.aDown D) = (shiftBy l.aUp (roundDiv (D * l.ratio) 4096), false) := by
  unfold inversePos rangeLimit
  dsimp only
  rw [sdist_shiftBy (by omega) (by omega), clampInt_id (by omega) (by omega)]
  simp

/-- R16: a length's carry is the rounded one. -/
theorem carryLength_roundsTo {l : Link} (hr : 2048 ≤ l.ratio) (n : Nat) :
    RoundsTo ((n : Int) * 4096) l.ratio (carryLength l n) := by
  have hnn : 0 ≤ roundDiv ((n : Int) * 4096) l.ratio := by
    rw [show ((n : Int) * 4096) = ((n * 4096 : Nat) : Int) by push_cast; rfl, roundDiv_natCast]
    exact Int.natCast_nonneg _
  rw [carryLength, Int.toNat_of_nonneg hnn]
  exact roundsTo_roundDiv _ (by omega)

theorem carryLengthUp_roundsTo {l : Link} (n : Nat) :
    RoundsTo ((n : Int) * l.ratio) 4096 (carryLengthUp l n) := by
  have hnn : 0 ≤ roundDiv ((n : Int) * l.ratio) 4096 := by
    rw [← Int.natCast_mul, roundDiv_natCast]
    exact Int.natCast_nonneg _
  rw [carryLengthUp, Int.toNat_of_nonneg hnn]
  exact roundsTo_roundDiv _ (by omega)

/-- Settles O45. -/
theorem carryOverALink : Obligations.CarryOverALink := by
  intro link l p s hl hr1 hr2 d limited
  refine ⟨fun ha => ?_, fun ha => ?_, fun n => ?_⟩
  · simp [carryOver, inverseOver, hl, ha]
  · have hlim : clampInt (-rangeLimit) rangeLimit d = limited := by
      unfold clampInt rangeLimit
      dsimp only [limited]
      split
      · rw [if_neg (by omega)]
      · rfl
    have hpos : carryPos l p = (shiftBy l.aDown (roundDiv (limited * 4096) l.ratio), limited != d) := by
      rw [← hlim]
      rfl
    have hround := roundsTo_roundDiv (limited * 4096) (d := l.ratio) (by omega)
    refine ⟨roundDiv (limited * 4096) l.ratio, hround.1, hround.2, fun hd => ?_, fun hd => ?_, fun hd => ?_⟩
    · have hsame : limited = d := by
        dsimp only [limited]
        rw [if_neg (by omega), if_neg (by omega)]
      rw [carryOver_anchored hl ha, hpos]
      simp [hsame]
    · have hdiff : limited ≠ d := by
        dsimp only [limited]
        split
        · omega
        · rw [if_pos (by omega)]
          omega
      rw [carryOver_anchored hl ha, hpos]
      simp [hdiff]
    · have hsame : limited = d := by
        dsimp only [limited]
        rw [if_neg (by omega), if_neg (by omega)]
      rw [hsame] at hround ⊢
      have hsmall := roundsTo_small hr1 hd hround
      have hback := roundsTo_back hr2 hround (roundsTo_roundDiv (roundDiv (d * 4096) l.ratio * l.ratio) (by decide))
      refine ⟨shiftBy l.aUp (roundDiv (roundDiv (d * 4096) l.ratio * l.ratio) 4096),
        (inverseOver_anchored hl ha).trans ?_, ?_⟩
      · rw [inversePos_shiftBy hsmall]
        rfl
      · have hp : p = shiftBy l.aUp d := (shiftBy_sdist ..).symm
        rw [hp, sdist_shiftBy_shiftBy (by omega) (by omega)]
        exact hback
  · have hdown := carryLength_roundsTo hr1 n
    have hup := carryLengthUp_roundsTo (l := l) n
    have hback := roundsTo_back hr2 hdown (carryLengthUp_roundsTo (l := l) (carryLength l n))
    refine ⟨hdown.1, fun h => ?_, hup.1, fun h => ?_, by omega, by omega⟩
    · have := hdown.2 h
      rw [Int.natAbs_mul, Int.natAbs_mul] at this
      simpa using this
    · have := hup.2 h
      rw [Int.natAbs_mul, Int.natAbs_mul] at this
      simpa using this

end Sys2Proof.Machine

/-! A composed frame reads back (R44, Table 3-1). -/
namespace Sys2Proof.Machine

theorem joinHalf_halfBytes (h : Half) : joinHalf ((h >>> 8).truncate 8) (h.truncate 8) = h := by
  refine BitVec.eq_of_toNat_eq ?_
  have := h.isLt
  simp only [joinHalf, BitVec.truncate_eq_setWidth, BitVec.toNat_ofNat, BitVec.toNat_setWidth, BitVec.toNat_ushiftRight,
    Nat.shiftRight_eq_div_pow]
  omega

theorem joinWord_wordBytes (w : Word) : joinWord ((w >>> 24).truncate 8) ((w >>> 16).truncate 8)
    ((w >>> 8).truncate 8) (w.truncate 8) = w := by
  refine BitVec.eq_of_toNat_eq ?_
  have := w.isLt
  simp only [joinWord, BitVec.truncate_eq_setWidth, BitVec.toNat_ofNat, BitVec.toNat_setWidth, BitVec.toNat_ushiftRight,
    Nat.shiftRight_eq_div_pow]
  omega

theorem readWords_flatMap (ws : List Word) (rest : List Byte) :
    readWords ws.length (ws.flatMap wordBytes ++ rest) = some (ws, rest) := by
  induction ws with
  | nil => rfl
  | cons w ws ih =>
    show (match readWords ws.length (ws.flatMap wordBytes ++ rest) with
      | some (ws, rest') => some (joinWord _ _ _ _ :: ws, rest')
      | none => none) = _
    rw [ih, joinWord_wordBytes]

/-- An item of at most 24 words reads back. -/
theorem readItem_bytes {i : Item} (h : i.words.length ≤ 24) (rest : List Byte) :
    readItem (i.bytes ++ rest) = some (i, rest) := by
  have hcount : (BitVec.ofNat 8 i.words.length).toNat = i.words.length := by
    rw [BitVec.toNat_ofNat, Nat.mod_eq_of_lt (by omega)]
  have hbytes : i.bytes ++ rest = i.station :: i.channel :: i.kind :: BitVec.ofNat 8 i.words.length ::
      (i.tag >>> 8).truncate 8 :: i.tag.truncate 8 :: (i.value >>> 24).truncate 8 :: (i.value >>> 16).truncate 8 ::
      (i.value >>> 8).truncate 8 :: i.value.truncate 8 :: (i.words.flatMap wordBytes ++ rest) := by
    simp [Item.bytes, halfBytes, wordBytes]
  rw [hbytes, readItem, hcount, if_pos h, readWords_flatMap, joinHalf_halfBytes, joinWord_wordBytes]

/-- Items read back from their area. -/
theorem readItems_itemArea {l : List Item} (h : ∀ i ∈ l, i.words.length ≤ 24) :
    readItems l.length (itemArea l) = some l := by
  induction l with
  | nil => rfl
  | cons i l ih =>
    have hi := readItem_bytes (h i List.mem_cons_self) (itemArea l)
    have hl := ih fun x hx => h x (List.mem_cons_of_mem _ hx)
    show readItems (l.length + 1) (i.bytes ++ itemArea l) = _
    rw [readItems, hi]
    simp [hl]

theorem wordBytes_length (w : Word) : (wordBytes w).length = 4 := rfl

/-- The header of a composed frame, byte by byte. -/
theorem compose_eq (f : Frame) : f.compose = f.kind :: f.flags :: f.source :: BitVec.ofNat 8 f.items.length ::
    (f.cycle >>> 8).truncate 8 :: f.cycle.truncate 8 ::
    ((BitVec.ofNat 16 (itemArea f.items).length : Half) >>> 8).truncate 8 ::
    (BitVec.ofNat 16 (itemArea f.items).length : Half).truncate 8 ::
    (f.sample >>> 24).truncate 8 :: (f.sample >>> 16).truncate 8 :: (f.sample >>> 8).truncate 8 ::
    f.sample.truncate 8 :: (itemArea f.items ++ wordBytes (frameCheck f.body)) := by
  simp [Frame.compose, Frame.body, halfBytes, wordBytes]

/-- Settles O53, field by field. -/
theorem frameReadsBack : Obligations.FrameReadsBack := by
  intro f hn hw ha
  have hcount : (BitVec.ofNat 8 f.items.length).toNat = f.items.length := by
    rw [BitVec.toNat_ofNat, Nat.mod_eq_of_lt (by omega)]
  have harea : (BitVec.ofNat 16 (itemArea f.items).length).toNat = (itemArea f.items).length := by
    rw [BitVec.toNat_ofNat, Nat.mod_eq_of_lt (by omega)]
  have hbody : [f.kind, f.flags, f.source, BitVec.ofNat 8 f.items.length, (f.cycle >>> 8).truncate 8,
      f.cycle.truncate 8, ((BitVec.ofNat 16 (itemArea f.items).length : Half) >>> 8).truncate 8,
      (BitVec.ofNat 16 (itemArea f.items).length : Half).truncate 8, (f.sample >>> 24).truncate 8,
      (f.sample >>> 16).truncate 8, (f.sample >>> 8).truncate 8, f.sample.truncate 8] ++ itemArea f.items = f.body := by
    simp [Frame.body, halfBytes, wordBytes]
  rw [compose_eq, readFrame]
  dsimp only
  rw [joinHalf_halfBytes, joinHalf_halfBytes, joinWord_wordBytes, harea, hcount,
    if_pos (by rw [List.length_append, wordBytes_length]), List.take_left, List.drop_left, hbody, if_pos rfl,
    readItems_itemArea hw]

end Sys2Proof.Machine

/-! The map's operations keep the pool sound: one slot for each mark, and a record for every boundary to come
(R22, R23, R26). -/
namespace Sys2Proof.Machine

/-! ### The marks of a pool -/

def Mark.isBoundary (m : Mark) : Bool := m.kind == .boundary

/-- R22, R23 on the marks held, in whatever order. -/
structure PoolSound (l : List Mark) : Prop where
  slots : ∀ m ∈ l, m.slot < Config.markSlots
  nodup : (l.map (·.slot)).Nodup
  boundaries : l.countP Mark.isBoundary ≤ Config.boundaryLimit
  reserve : l.length + (Config.boundaryLimit - l.countP Mark.isBoundary) ≤ Config.markSlots

theorem PoolSound.perm {l l' : List Mark} (h : PoolSound l) (hp : l.Perm l') : PoolSound l' where
  slots m hm := h.slots m (hp.mem_iff.mpr hm)
  nodup := (hp.map _).nodup_iff.mp h.nodup
  boundaries := hp.countP_eq _ ▸ h.boundaries
  reserve := hp.countP_eq Mark.isBoundary ▸ hp.length_eq ▸ h.reserve

/-- A mark that is no boundary leaves. -/
theorem PoolSound.tail {m : Mark} {l : List Mark} (h : PoolSound (m :: l)) (hm : m.isBoundary = false) : PoolSound l where
  slots x hx := h.slots x (List.mem_cons_of_mem _ hx)
  nodup := (List.nodup_cons.mp h.nodup).2
  boundaries := by simpa [hm] using h.boundaries
  reserve := by
    have := h.reserve
    rw [List.countP_cons_of_neg (by simp [hm]), List.length_cons] at this
    omega

/-- A mark that is no boundary is replaced by another in its slot. -/
theorem PoolSound.replace {m m' : Mark} {l : List Mark} (h : PoolSound (m :: l)) (hs : m'.slot = m.slot)
    (hm : m.isBoundary = false) (hm' : m'.isBoundary = false) : PoolSound (m' :: l) where
  slots x hx := by
    rcases List.mem_cons.mp hx with rfl | hx
    · exact hs ▸ h.slots m List.mem_cons_self
    · exact h.slots x (List.mem_cons_of_mem _ hx)
  nodup := by simpa [hs] using h.nodup
  boundaries := by simpa [hm, hm'] using h.boundaries
  reserve := by
    have := h.reserve
    rw [List.countP_cons_of_neg (by simp [hm]), List.length_cons] at this
    rw [List.countP_cons_of_neg (by simp [hm']), List.length_cons]
    exact this

/-- R23: a mark that is no boundary enters while a record is free beyond the reserve. -/
theorem PoolSound.enter {m : Mark} {l : List Mark} (h : PoolSound l) (hs : m.slot < Config.markSlots)
    (hf : m.slot ∉ l.map (·.slot)) (hm : m.isBoundary = false)
    (hroom : Config.boundaryLimit - l.countP Mark.isBoundary < Config.markSlots - l.length) : PoolSound (m :: l) where
  slots x hx := by
    rcases List.mem_cons.mp hx with rfl | hx
    · exact hs
    · exact h.slots x hx
  nodup := List.nodup_cons.mpr ⟨hf, h.nodup⟩
  boundaries := by simpa [hm] using h.boundaries
  reserve := by
    rw [List.countP_cons_of_neg (by simp [hm]), List.length_cons]
    omega

/-- R22: a boundary enters while fewer than 16 are held. -/
theorem PoolSound.enterBoundary {m : Mark} {l : List Mark} (h : PoolSound l) (hs : m.slot < Config.markSlots)
    (hf : m.slot ∉ l.map (·.slot)) (hm : m.isBoundary = true)
    (hroom : l.countP Mark.isBoundary < Config.boundaryLimit) : PoolSound (m :: l) where
  slots x hx := by
    rcases List.mem_cons.mp hx with rfl | hx
    · exact hs
    · exact h.slots x hx
  nodup := List.nodup_cons.mpr ⟨hf, h.nodup⟩
  boundaries := by
    rw [List.countP_cons_of_pos (by simp [hm])]
    omega
  reserve := by
    have := h.reserve
    rw [List.countP_cons_of_pos (by simp [hm]), List.length_cons]
    omega

/-! ### The section lists -/

/-- Each section's list holds the section's marks, and together they are sound. -/
structure State.PoolHeld (s : State) : Prop where
  sections : ∀ i, ∀ m ∈ (s.mapAt i).marks, m.sec = i
  pool : PoolSound s.allMarks

theorem mem_allMarks {s : State} {m : Mark} : m ∈ s.allMarks ↔ ∃ i, m ∈ (s.mapAt i).marks := by
  simp only [State.allMarks, List.mem_flatMap, State.mapAt]
  constructor
  · rintro ⟨c, hc, hm⟩
    obtain ⟨i, hi⟩ := List.mem_iff_getElem?.mp hc
    exact ⟨i, by rwa [hi]⟩
  · rintro ⟨i, hm⟩
    cases hc : s.wm.maps[i]? with
    | none => simp [hc, SectionMap.initial] at hm
    | some c =>
      rw [hc] at hm
      exact ⟨c, List.mem_of_getElem? hc, hm⟩

theorem poolHeld_iff {s : State} : s.PoolHeld ↔ s.slotsSound ∧ s.reserveHeld := by
  constructor
  · rintro ⟨hsec, hslots, hnodup, hb, hr⟩
    exact ⟨⟨fun i m hm => ⟨hsec i m hm, hslots m (mem_allMarks.mpr ⟨i, hm⟩)⟩, hnodup⟩, hb, hr⟩
  · rintro ⟨⟨hsec, hnodup⟩, hb, hr⟩
    refine ⟨fun i m hm => (hsec i m hm).1, fun m hm => ?_, hnodup, hb, hr⟩
    obtain ⟨i, hi⟩ := mem_allMarks.mp hm
    exact (hsec i m hi).2

/-- The pool is told by the section lists alone. -/
theorem State.PoolHeld.congr {s t : State} (h : s.PoolHeld) (ht : t.wm.maps = s.wm.maps) : t.PoolHeld := by
  obtain ⟨hsec, hpool⟩ := h
  constructor
  · unfold State.mapAt at *
    rwa [ht]
  · unfold State.allMarks at *
    rwa [ht]

theorem noteChange_maps {sec : Nat} {sp : Span} {s : State} : (noteChange sec sp s).wm.maps = s.wm.maps := by
  unfold noteChange
  split <;> rfl

theorem raise_maps {k : EventKind} {a b c : Word} {s : State} : (raise k a b c s).wm.maps = s.wm.maps :=
  congrArg WebMap.maps (raise_wm ..)

/-- A mark held is on the list of its section, which exists. -/
theorem State.PoolHeld.mem_section {s : State} (h : s.PoolHeld) {m : Mark} (hm : m ∈ s.allMarks) :
    m ∈ (s.mapAt m.sec).marks := by
  obtain ⟨i, hi⟩ := mem_allMarks.mp hm
  rwa [h.sections i m hi]

theorem lt_of_mem_mapAt {s : State} {i : Nat} {m : Mark} (h : m ∈ (s.mapAt i).marks) : i < s.wm.maps.length := by
  by_contra hge
  simp [State.mapAt, List.getElem?_eq_none (Nat.not_lt.mp hge), SectionMap.initial] at h

theorem adjustMap_maps_of_ge {s : State} {i : Nat} {f : SectionMap → SectionMap} (h : s.wm.maps.length ≤ i) :
    (s.adjustMap i f).wm.maps = s.wm.maps := List.set_eq_of_length_le h

theorem mapAt_adjustMap {s : State} {i j : Nat} {f : SectionMap → SectionMap} (h : i < s.wm.maps.length) :
    (s.adjustMap i f).mapAt j = if j = i then f (s.mapAt i) else s.mapAt j := by
  simp only [State.mapAt, State.adjustMap, State.withWm_wm, List.getElem?_set]
  by_cases hj : j = i
  · subst hj
    simp [h]
  · rw [if_neg (Ne.symm hj), if_neg hj]

/-- The marks of one section and the rest, before and after a change of that section. -/
theorem allMarks_adjustMap {s : State} {i : Nat} {f : SectionMap → SectionMap} (h : i < s.wm.maps.length) :
    ∃ rest, s.allMarks.Perm ((s.mapAt i).marks ++ rest) ∧
      (s.adjustMap i f).allMarks.Perm ((f (s.mapAt i)).marks ++ rest) := by
  have hat : s.mapAt i = s.wm.maps[i] := by simp [State.mapAt, h]
  have hset (c : SectionMap) : (s.wm.maps.set i c).flatMap (·.marks) =
      (s.wm.maps.take i).flatMap (·.marks) ++ (c.marks ++ (s.wm.maps.drop (i + 1)).flatMap (·.marks)) := by
    rw [List.set_eq_take_append_cons_drop, if_pos h, List.flatMap_append, List.flatMap_cons]
  have hswap (a b c : List Mark) : (a ++ (b ++ c)).Perm (b ++ (a ++ c)) := List.perm_append_comm_assoc a b c
  refine ⟨(s.wm.maps.take i).flatMap (·.marks) ++ (s.wm.maps.drop (i + 1)).flatMap (·.marks), ?_, ?_⟩
  · have hself : s.allMarks = (s.wm.maps.set i (s.mapAt i)).flatMap (·.marks) := by
      rw [hat, List.set_getElem_self]
      rfl
    rw [hself, hset]
    exact hswap ..
  · rw [show (s.adjustMap i f).allMarks = (s.wm.maps.set i (f (s.mapAt i))).flatMap (·.marks) from rfl, hset]
    exact hswap ..

/-! ### Listing, unlisting, replacing -/

theorem insertMark_perm (m : Mark) (l : List Mark) : (insertMark m l).Perm (m :: l) := by
  induction l with
  | nil => exact List.Perm.refl _
  | cons x xs ih =>
    unfold insertMark
    split
    · exact (ih.cons x).trans (List.Perm.swap ..)
    · exact List.Perm.refl _

/-- A mark taken onto the list of its section. -/
theorem State.PoolHeld.listMark {s : State} {m : Mark} (h : s.PoolHeld) (hp : PoolSound (m :: s.allMarks)) :
    (listMark m s).PoolHeld := by
  by_cases hlt : m.sec < s.wm.maps.length
  · obtain ⟨rest, hold, hnew⟩ := allMarks_adjustMap (f := fun c => { c with marks := insertMark m c.marks }) hlt
    refine ⟨fun j x hx => ?_, hp.perm ?_⟩
    · rw [Machine.listMark, mapAt_adjustMap hlt] at hx
      split at hx
      · next hj =>
        rcases List.mem_cons.mp ((insertMark_perm ..).mem_iff.mp hx) with rfl | hx
        · exact hj.symm
        · exact hj ▸ h.sections _ x hx
      · exact h.sections j x hx
    · exact (hold.cons m).trans (((insertMark_perm m _).append_right rest).symm.trans hnew.symm)
  · exact h.congr (adjustMap_maps_of_ge (Nat.not_lt.mp hlt))

/-- The marks of a list beside the one of a slot. -/
theorem perm_filter_slot {l : List Mark} {m : Mark} (hn : (l.map (·.slot)).Nodup) (hm : m ∈ l) :
    l.Perm (m :: l.filter (fun x => x.slot != m.slot)) := by
  induction l with
  | nil => cases hm
  | cons x xs ih =>
    obtain ⟨hx, hxs⟩ := List.nodup_cons.mp hn
    rcases List.mem_cons.mp hm with rfl | hm
    · have hall : xs.filter (fun x => x.slot != m.slot) = xs := by
        refine List.filter_eq_self.mpr fun y hy => ?_
        simp only [bne_iff_ne, ne_eq]
        exact fun hk => hx (List.mem_map.mpr ⟨y, hy, hk⟩)
      rw [List.filter_cons_of_neg (by simp), hall]
    · have hne : x.slot ≠ m.slot := fun hk => hx (List.mem_map.mpr ⟨m, hm, hk.symm⟩)
      rw [List.filter_cons_of_pos (by simpa using hne)]
      exact ((ih hxs hm).cons x).trans (List.Perm.swap ..)

/-- The marks of a list, the one of a slot replaced. -/
theorem perm_replace_slot {l : List Mark} {m m' : Mark} (hn : (l.map (·.slot)).Nodup) (hm : m ∈ l)
    (hs : m'.slot = m.slot) : (l.map (fun x => if x.slot == m'.slot then m' else x)).Perm
      (m' :: l.filter (fun x => x.slot != m.slot)) := by
  have hperm := (perm_filter_slot hn hm).map (fun x => if x.slot == m'.slot then m' else x)
  have hrest : (l.filter (fun x => x.slot != m.slot)).map (fun x => if x.slot == m'.slot then m' else x) =
      l.filter (fun x => x.slot != m.slot) := by
    refine (List.map_congr_left fun x hx => ?_).trans (List.map_id _)
    have : x.slot ≠ m.slot := by simpa using (List.mem_filter.mp hx).2
    simp [hs, this]
  rw [List.map_cons, hrest] at hperm
  simpa [hs] using hperm

section
variable {s : State} {m : Mark}

theorem State.PoolHeld.section_nodup (h : s.PoolHeld) {i : Nat} (hi : i < s.wm.maps.length) :
    ((s.mapAt i).marks.map (·.slot)).Nodup := by
  obtain ⟨rest, hold, -⟩ := allMarks_adjustMap (f := id) hi
  have := ((hold.map (·.slot)).nodup_iff.mp h.pool.nodup)
  rw [List.map_append] at this
  exact this.of_append_left

/-- What an unlisting takes off. -/
theorem State.PoolHeld.unlist_perm (h : s.PoolHeld) (hm : m ∈ s.allMarks) :
    s.allMarks.Perm (m :: (unlistMark m.sec m.slot s).allMarks) := by
  have hmem := h.mem_section hm
  have hlt := lt_of_mem_mapAt hmem
  obtain ⟨rest, hold, hnew⟩ := allMarks_adjustMap
    (f := fun c => { c with marks := c.marks.filter (fun x => x.slot != m.slot) }) hlt
  exact hold.trans (((perm_filter_slot (h.section_nodup hlt) hmem).append_right rest).trans (hnew.symm.cons m))

theorem State.PoolHeld.unlistMark (h : s.PoolHeld) (hm : m ∈ s.allMarks) (hb : m.isBoundary = false) :
    (unlistMark m.sec m.slot s).PoolHeld := by
  have hlt := lt_of_mem_mapAt (h.mem_section hm)
  refine ⟨fun j x hx => ?_, (h.pool.perm (h.unlist_perm hm)).tail hb⟩
  rw [Machine.unlistMark, mapAt_adjustMap hlt] at hx
  split at hx
  · next hj => exact hj ▸ h.sections _ x (List.mem_of_mem_filter hx)
  · exact h.sections j x hx

theorem State.PoolHeld.replaceMark {m' : Mark} (h : s.PoolHeld) (hm : m ∈ s.allMarks) (hs : m'.slot = m.slot)
    (hsec : m'.sec = m.sec) (hb : m.isBoundary = false) (hb' : m'.isBoundary = false) : (replaceMark m' s).PoolHeld := by
  have hmem := h.mem_section hm
  have hlt : m'.sec < s.wm.maps.length := hsec ▸ lt_of_mem_mapAt hmem
  obtain ⟨rest, hold, hnew⟩ := allMarks_adjustMap
    (f := fun c => { c with marks := c.marks.map (fun x => if x.slot == m'.slot then m' else x) }) hlt
  refine ⟨fun j x hx => ?_, ?_⟩
  · rw [Machine.replaceMark, mapAt_adjustMap hlt] at hx
    split at hx
    · next hj =>
      obtain ⟨y, hy, rfl⟩ := List.mem_map.mp hx
      split
      · exact hj.symm
      · exact hj ▸ h.sections _ y hy
    · exact h.sections j x hx
  · rw [← hsec] at hmem
    have hn := h.section_nodup hlt
    have hbefore := h.pool.perm (hold.trans ((perm_filter_slot hn hmem).append_right rest))
    exact (hbefore.replace hs hb hb').perm
      (((perm_replace_slot hn hmem hs).append_right rest).symm.trans hnew.symm)

end

/-! ### Creations (R22, R23) -/

/-- R22: the record a creation takes is free, whichever it is, while one is. -/
theorem freeSlot_free {s : State} (hroom : s.markCount < Config.markSlots) :
    s.freeSlot < Config.markSlots ∧ s.freeSlot ∉ s.allMarks.map (·.slot) := by
  have hne : s.freeSlots ≠ [] := by
    intro hempty
    have hall : ∀ k ∈ List.range Config.markSlots, k ∈ s.allMarks.map (·.slot) := by
      intro k hk
      by_contra hfree
      have : k ∈ s.freeSlots := List.mem_filter.mpr ⟨hk, by simpa using hfree⟩
      simp [hempty] at this
    have hle := List.Subperm.length_le (List.subperm_of_subset List.nodup_range hall)
    rw [List.length_range, List.length_map] at hle
    exact absurd hroom (Nat.not_lt.mpr hle)
  have hpos : 0 < s.freeSlots.length := List.length_pos_of_ne_nil hne
  have hlt : Config.recordChoice s.wm.nextSerial % s.freeSlots.length < s.freeSlots.length := Nat.mod_lt _ hpos
  have hmem : s.freeSlot ∈ s.freeSlots := by
    unfold State.freeSlot
    rw [List.getElem?_eq_getElem hlt]
    exact List.getElem_mem hlt
  obtain ⟨hr, hf⟩ := List.mem_filter.mp hmem
  exact ⟨List.mem_range.mp hr, by simpa using hf⟩

theorem State.PoolHeld.enterMark {s : State} {m : Mark} (h : s.PoolHeld) (hp : PoolSound (m :: s.allMarks)) :
    (enterMark m s).PoolHeld :=
  (h.listMark hp).congr (t := Machine.enterMark m s) (noteChange_maps.trans rfl)

/-- What a repetition that keeps its result or takes the element at hand ends with. -/
theorem mem_of_foldl_eq_some {α : Type} {g : Option α → α → Option α} {a : α}
    (hg : ∀ b x, g b x = some a → x = a ∨ b = some a) (l : List α) {b : Option α} (h : l.foldl g b = some a) :
    a ∈ l ∨ b = some a := by
  induction l generalizing b with
  | nil => exact .inr h
  | cons x xs ih =>
    rcases ih h with hm | hb
    · exact .inl (List.mem_cons_of_mem _ hm)
    · rcases hg _ _ hb with rfl | hb
      · exact .inl List.mem_cons_self
      · exact .inr hb

theorem nearestZone_mem {p : Word} {l : List Mark} {m : Mark} (h : nearestZone p l = some m) :
    m ∈ l ∧ m.isBoundary = false := by
  unfold nearestZone at h
  have hmem := mem_of_foldl_eq_some (a := m) (fun b x hx => by
    split at hx
    · exact .inl (Option.some.inj hx)
    · split at hx
      · exact .inl (Option.some.inj hx)
      · exact .inr hx) _ h
  rcases hmem with hm | hn
  · obtain ⟨hm, hz⟩ := List.mem_filter.mp hm
    exact ⟨hm, by simpa [Mark.hasZone, Mark.isBoundary] using hz⟩
  · cases hn

theorem State.PoolHeld.mergeInto {s : State} {old new : Mark} (h : s.PoolHeld) (hm : old ∈ s.allMarks)
    (hb : old.isBoundary = false) : (mergeInto old new s).PoolHeld :=
  (h.replaceMark (m' := mergedMark old new) hm rfl rfl hb rfl).congr (t := Machine.mergeInto old new s) noteChange_maps

theorem boundaryCount_eq {s : State} : s.boundaryCount = s.allMarks.countP Mark.isBoundary := rfl

/-- R23: a SPLICE or ZONE mark is listed, merged or dropped. -/
theorem State.PoolHeld.createMark {s : State} {q : CreateRequest} (h : s.PoolHeld) (hq : q.kind ≠ .boundary) :
    (createMark q s).1.PoolHeld := by
  unfold Machine.createMark
  dsimp only
  split
  · next hroom =>
    obtain ⟨hs, hf⟩ := freeSlot_free (s := s) (by
      unfold State.freeCount at hroom
      omega)
    exact h.enterMark (h.pool.enter hs hf (beq_false_of_ne hq) hroom)
  · split
    · next old hold =>
      obtain ⟨hm, hb⟩ := nearestZone_mem hold
      exact h.mergeInto (mem_allMarks.mpr ⟨_, hm⟩) hb
    · exact h.congr raise_maps

/-- R22: a boundary is listed while fewer than 16 are held. -/
theorem State.PoolHeld.createBoundary {s : State} {sec pos order change} (h : s.PoolHeld) :
    (createBoundary sec pos order change s).1.PoolHeld := by
  unfold Machine.createBoundary
  split
  · next hroom =>
    have hreserve := h.pool.reserve
    obtain ⟨hs, hf⟩ := freeSlot_free (s := s) (by
      unfold State.markCount
      rw [boundaryCount_eq] at hroom
      omega)
    exact h.enterMark (h.pool.enterBoundary hs hf rfl hroom)
  · exact h.congr raise_maps

theorem createBoundary_refused_iff {s : State} {sec pos order change} (h : s.PoolHeld) :
    (createBoundary sec pos order change s).2 = none ↔ s.boundaryCount = Config.boundaryLimit := by
  have := h.pool.boundaries
  rw [← boundaryCount_eq] at this
  unfold createBoundary
  split
  · next hroom => exact ⟨fun h => (by cases h), fun h => absurd hroom (by omega)⟩
  · next hfull => exact ⟨fun _ => by omega, fun _ => rfl⟩

/-! ### MOVE, NARROW and DELETE (R26) -/

theorem carryMove_maps {links : List Nat} {p : Word} {s : State} : (carryMove links p s).1.wm.maps = s.wm.maps := by
  unfold carryMove
  refine foldl_keeps_fst (P := fun t => t.wm.maps = s.wm.maps) (fun r l hr => ?_) links rfl
  have hcarry : (carryOver l r.2.pos r.1).1.wm.maps = r.1.wm.maps := by
    unfold carryOver
    split
    · rfl
    · split
      · dsimp only
        split
        · exact raise_maps
        · rfl
      · rfl
  dsimp only
  split <;> exact hcarry.trans hr

theorem findMark_mem {s : State} {slot serial : Nat} {m : Mark} (h : s.findMark slot serial = some m) :
    m ∈ s.allMarks := List.mem_of_find?_eq_some h

theorem State.PoolHeld.moveMark {s : State} {slot serial sec : Nat} {pos : Word} {conf : Confirmation}
    (h : s.PoolHeld) : (moveMark slot serial sec pos conf s).1.PoolHeld := by
  unfold Machine.moveMark
  split
  · exact h
  · next m hm =>
    split
    · exact h
    · next hb =>
      have hb : m.isBoundary = false := Bool.not_eq_true _ ▸ hb
      have hheld (links : List Nat) : (carryMove links pos s).1.PoolHeld := h.congr carryMove_maps
      have hmem (links : List Nat) : m ∈ (carryMove links pos s).1.allMarks := by
        unfold State.allMarks
        rw [carryMove_maps]
        exact findMark_mem hm
      dsimp only
      split
      · exact (hheld _).mergeInto (hmem _) hb
      · have hout := (hheld (if sec = m.sec then [] else (s.path sec m.sec).getD [])).unlistMark (hmem _) hb
        have hperm := (hheld (if sec = m.sec then [] else (s.path sec m.sec).getD [])).unlist_perm (hmem _)
        refine (State.PoolHeld.listMark hout ?_).congr noteChange_maps
        exact (((hheld _).pool.perm hperm).replace rfl hb hb)

theorem State.PoolHeld.narrowMark {s : State} {slot serial widening : Nat} (h : s.PoolHeld) :
    (narrowMark slot serial widening s).1.PoolHeld := by
  unfold Machine.narrowMark
  split
  · exact h
  · next m hm =>
    split
    · exact h
    · exact h
    · next hk =>
      have hb : m.isBoundary = false := by simp [Mark.isBoundary, hk]
      exact (h.replaceMark (m' := { m with widening := min m.widening widening }) (findMark_mem hm) rfl rfl hb hb).congr
        noteChange_maps

theorem State.PoolHeld.deleteMark {s : State} {slot serial : Nat} (h : s.PoolHeld) :
    (deleteMark slot serial s).1.PoolHeld := by
  unfold Machine.deleteMark
  split
  · exact h
  · next m hm =>
    split
    · exact h
    · next hb => exact (h.unlistMark (findMark_mem hm) (Bool.not_eq_true _ ▸ hb)).congr noteChange_maps

/-- Settles O48, operation by operation. -/
theorem mapOperationsSound : Obligations.MapOperationsSound := by
  intro s hslots hreserve
  have h : s.PoolHeld := poolHeld_iff.mpr ⟨hslots, hreserve⟩
  refine ⟨fun q hq => poolHeld_iff.mp (h.createMark hq), fun sec pos order change => ?_, ?_, ?_, ?_⟩
  · obtain ⟨h1, h2⟩ := poolHeld_iff.mp (h.createBoundary (sec := sec) (pos := pos) (order := order) (change := change))
    exact ⟨h1, h2, createBoundary_refused_iff h⟩
  · exact fun _ _ _ _ _ => poolHeld_iff.mp h.moveMark
  · exact fun _ _ _ => poolHeld_iff.mp h.narrowMark
  · exact fun _ _ => poolHeld_iff.mp h.deleteMark

end Sys2Proof.Machine

/-! MODE, RESET_TRACKING and SPLICE_NOW (R105, R106, R168 to R170). -/
namespace Sys2Proof.Machine

/-! ### What B_proj depends on -/

/-- R81: the records that B_proj depends on are those of the path, the order queue and the cut plan. -/
theorem signature_congr {s t : State} (hpt : t.pt = s.pt) (hop : t.op = s.op) (hcp : t.cp = s.cp) :
    t.signature = s.signature := by
  cases s
  cases t
  cases hpt
  cases hop
  cases hcp
  rfl

theorem boardCount_congr {s t : State} (hpt : t.pt = s.pt) : t.boardCount = s.boardCount := by
  cases s
  cases t
  cases hpt
  rfl

/-- R81, R83: a request that leaves path, orders, plan and BOARD list as they were ends as its action left it. -/
theorem settledWhen_sameRecords {f : State → Bool} {body : State → Outcome} {s t : State} {a : Answer}
    (hb : body s = (t, a)) (hf : f t = false) (hc : t.wm.boardChange = none) (hpt : t.pt = s.pt) (hop : t.op = s.op)
    (hcp : t.cp = s.cp) : settledWhen f body s = (t, a) :=
  settledWhen_sameSignature hb hf hc (signature_congr hpt hop hcp) (boardCount_congr hpt)

/-- R81: where B_proj already is what it would be recomputed to, a request in SETUP ends as its action left it. -/
theorem settledWhen_projected {f : State → Bool} {body : State → Outcome} {s t : State} {a : Answer}
    (hb : body s = (t, a)) (hc : t.wm.boardChange = none) (hr : t.running = false)
    (hp : projection t = t.op.bproj) : settledWhen f body s = (t, a) := by
  have hproject : project t = t := by
    unfold project
    rw [hp]
    rfl
  unfold settledWhen
  simp only [hb, settle_setup _ _ _ t hc hr, hproject, ite_self]

/-- R83: what the model's summary of the kept records says survives the end of a request. -/
theorem settledWhen_leaves {f : State → Bool} {body : State → Outcome} {s m : State} {a : Answer}
    (hb : body s = (m, a)) : ∃ t, settledWhen f body s = (t, a) ∧ t.kept = m.kept := by
  refine ⟨(settledWhen f body s).1, Prod.ext rfl (show (body s).2 = a by rw [hb]), ?_⟩
  unfold settledWhen
  rw [hb]
  exact kept_settle ..

/-! ### MODE SETUP (R168) -/

theorem raiseMode_frame (m : Mode) (s : State) : (raiseMode m s).wm = s.wm ∧ (raiseMode m s).pt = s.pt ∧
    (raiseMode m s).op = s.op ∧ (raiseMode m s).cp = s.cp ∧ (raiseMode m s).mu.replies = s.mu.replies :=
  ⟨raise_wm .., raise_pt .., raise_op .., raise_cp .., raise_mu_replies ..⟩

/-- A section that keeps the part from leaving RUN (R168). -/
theorem moves_eq_false {c : Section} (h : c.trk.source = .held ∨ c.trk.speed = 0) :
    (c.trk.source != .held && c.trk.speed != 0) = false := by
  rcases h with h | h <;> simp [h]

theorem movingSection_none {s : State} (h : ∀ i c, s.sectionAt i = some c → c.trk.source = .held ∨ c.trk.speed = 0) :
    movingSection s = none :=
  List.find?_eq_none.mpr fun i _ hi => by
    rw [Option_any_eq_false fun c hc => moves_eq_false (h i c hc)] at hi
    cases hi

theorem movingSection_first {s : State} {i : Nat} {c : Section} (hi : i ≤ 11) (hc : s.sectionAt i = some c)
    (hs : c.trk.source ≠ .held) (hv : c.trk.speed ≠ 0)
    (hbefore : ∀ j d, j < i → s.sectionAt j = some d → d.trk.source = .held ∨ d.trk.speed = 0) :
    movingSection s = some i := by
  refine List.find?_range_eq_some.mpr ⟨?_, List.mem_range.mpr (by omega), fun j hj => ?_⟩
  · rw [hc]
    simp [hs, hv]
  · rw [Option_any_eq_false fun d hd => moves_eq_false (hbefore j d hj hd)]
    rfl

/-! ### MODE RUN (R169) -/

/-- A failed check's subcode is the number of the check, 6 at most. -/
def FailsBelow (x : Option Fail) : Prop := ∀ f, x = some f → f.sub ≤ 6

theorem FailsBelow.orElse {x y : Option Fail} (hx : FailsBelow x) (hy : FailsBelow y) : FailsBelow (x <|> y) := by
  cases x with
  | none => exact hy
  | some f => exact hx

theorem failsBelow_failing {sub table n : Nat} {bad : Nat → Bool} (hsub : sub ≤ 6) :
    FailsBelow (failing sub table n bad) := by
  intro f hf
  obtain ⟨i, -, rfl⟩ := Option.map_eq_some_iff.mp hf
  exact hsub

theorem failsBelow_some {f : Fail} (hsub : f.sub ≤ 6) : FailsBelow (some f) := fun _ hg => Option.some.inj hg ▸ hsub

theorem failsBelow_none : FailsBelow none := fun _ hg => by cases hg

theorem failsBelow_ite {c : Prop} [Decidable c] {x y : Option Fail} (hx : FailsBelow x) (hy : FailsBelow y) :
    FailsBelow (if c then x else y) := by
  split
  · exact hx
  · exact hy

/-- R169: the subcode is the number of the check. -/
theorem runCheck_failsBelow (s : State) : FailsBelow (runCheck s) := by
  have hpath : FailsBelow (checkPath s) := by
    unfold checkPath
    split
    · exact failsBelow_some (by decide)
    · exact failsBelow_some (by decide : 1 ≤ 6)
    · exact (failsBelow_failing (by decide)).orElse
        ((failsBelow_failing (by decide)).orElse (failsBelow_failing (by decide)))
  have hpoints : FailsBelow (checkPoints s) := by
    unfold checkPoints
    split
    · exact failsBelow_ite failsBelow_none (failsBelow_some (by decide : 2 ≤ 6))
    · exact failsBelow_none
  have hcut : FailsBelow (checkCutRecord s) :=
    failsBelow_ite (failsBelow_some (by decide)) (failsBelow_ite (failsBelow_some (by decide)) failsBelow_none)
  refine hpath.orElse (hpoints.orElse ((failsBelow_failing (by decide)).orElse (FailsBelow.orElse ?_ hcut)))
  have hfour {table n : Nat} {bad : Nat → Bool} : FailsBelow (failing 4 table n bad) := failsBelow_failing (by decide)
  exact hfour.orElse (hfour.orElse (hfour.orElse (hfour.orElse (hfour.orElse
    (FailsBelow.orElse (failsBelow_ite failsBelow_none (failsBelow_some (by decide)))
      (FailsBelow.orElse (failsBelow_ite failsBelow_none (failsBelow_some (by decide))) hfour))))))

theorem enterRun_kept (s : State) : (enterRun s).kept = (raiseMode .run s).kept := by
  unfold enterRun
  dsimp only
  simp

theorem boardSections_nil {s : State} (h : ∀ i c, s.sectionAt i = some c → c.cfg.kind ≠ .board) :
    boardSections s = [] :=
  List.filter_eq_nil_iff.mpr fun i _ => by
    rw [Option_any_eq_false fun c hc => beq_false_of_ne (h i c hc)]
    exact Bool.false_ne_true

/-- R169.1: without a BOARD section the first check fails. -/
theorem runCheck_noBoard {s : State} (h : ∀ i c, s.sectionAt i = some c → c.cfg.kind ≠ .board) :
    runCheck s = some ⟨1, 1, none⟩ := by
  simp [runCheck, checkPath, boardSections_nil h]

/-- The end of a MODE request that changed nothing. -/
theorem modeChange_unchanged {m : Word} {s : State} {a : Answer} (hb : modeRequest [m] s = (s, a))
    (hf : s.running = true ∨ m ≠ 1 ∨ 1 < a.code) (hc : s.wm.boardChange = none) : modeChange [m] s = (s, a) := by
  refine settledWhen_unchanged (f := fun _ => !s.running && [m] == [1]) hb ?_ hc
  rcases hf with h | h | h
  · simp [h]
  · rw [show ([m] == [(1 : Word)]) = false by simpa using h, Bool.and_false, Bool.false_and]
  · simp [Answer.passed, Nat.not_le.mpr h]

theorem modeRequest_zero (s : State) : modeRequest [0] s = modeSetup s := rfl

theorem modeRequest_one (s : State) : modeRequest [1] s = modeRun s := rfl

/-- Settles O41. -/
theorem modeRequestsTaken : Obligations.ModeRequestsTaken := by
  intro tag s h hc
  have hfault (m : Word) : requestFault .mode 2 [m] = none := rfl
  refine ⟨fun hm => ?_, fun hm hall => ?_, fun i c hm hi hs hh hv hbefore => ?_, fun hm => ?_, fun hm => ?_⟩
  · have hb : modeRequest [0] s = (s, Answer.ok []) := by rw [modeRequest_zero, modeSetup, hm]
    exact congrArg _ (request_replied h (hfault 0) (modeChange_unchanged hb (.inr (.inl (by decide))) hc))
  · have hb : modeRequest [0] s = (raiseMode .setup s, Answer.ok []) := by
      rw [modeRequest_zero, modeSetup, hm, movingSection_none hall]
    obtain ⟨hwm, hpt, hop, hcp, -⟩ := raiseMode_frame .setup s
    exact congrArg _ (request_replied h (hfault 0) (settledWhen_sameRecords
      (f := fun _ => !s.running && [(0 : Word)] == [1]) hb (Bool.and_false _) (hwm ▸ hc) hpt hop hcp))
  · have hb : modeRequest [0] s = (s, ⟨notStoppedCode, 0, [natWord i]⟩) := by
      rw [modeRequest_zero, modeSetup, hm, movingSection_first hi hs hh hv hbefore]
    exact congrArg _ (request_replied h (hfault 0) (modeChange_unchanged hb (.inr (.inl (by decide))) hc))
  · have hb : modeRequest [1] s = (s, Answer.ok []) := by rw [modeRequest_one, modeRun, hm]
    exact congrArg _ (request_replied h (hfault 1) (modeChange_unchanged hb (.inl (State.running_iff.mpr hm)) hc))
  · have failed (f : Fail) (hf : runCheck s = some f) :
        exec (.modeRun tag 2) s = .next (s.replied tag 16 f.sub [natWord f.table, optWord f.index]) := by
      have hb : modeRequest [1] s = (s, ⟨checkFailedCode, f.sub, [natWord f.table, optWord f.index]⟩) := by
        rw [modeRequest_one, modeRun, hm, hf]
      have hsub := runCheck_failsBelow s f hf
      exact congrArg _ (request_replied h (hfault 1) (modeChange_unchanged hb (.inr (.inr (by decide : 1 < 16))) hc)
        (by simp)
        (by rw [show checkFailedCode = 16 from rfl]; omega))
    refine ⟨fun hcheck => ?_, failed, fun hno => ?_⟩
    · have hb : modeRequest [1] s = (enterRun s, Answer.ok []) := by
        rw [modeRequest_one, modeRun, hm, hcheck]
      obtain ⟨t, ht, hkt⟩ := settledWhen_leaves (f := fun _ => !s.running && [(1 : Word)] == [1]) hb
      have hkept : t.kept = (raiseMode .run s).kept := hkt.trans (enterRun_kept s)
      refine ⟨t.replied tag 0 0 [], congrArg Host.Outcome.next (request_replied h (hfault 1) ht), ?_, ?_, ?_, ?_⟩
      · exact (congrArg Kept.mode hkept).trans (raise_mu_mode ..)
      · exact (congrArg Kept.tables hkept).trans (raise_tables ..)
      · exact (congrArg Kept.pending hkept).trans (raise_pending ..)
      · exact congrArg (· ++ [_]) ((congrArg Kept.replies hkept).trans (raise_mu_replies ..))
    · have := failed _ (runCheck_noBoard hno)
      rwa [show natWord 1 = 1 from natWord_eq (by decide)] at this

/-! ### RESET_TRACKING (R170) -/

theorem openOrder_resetAll {s : State} : (resetAll s).openOrder = none := by
  refine List.find?_eq_none.mpr fun o ho => ?_
  obtain ⟨x, -, rfl⟩ := List.mem_map.mp (show o ∈ s.op.queue.map Order.resetTracking from ho)
  exact Bool.false_ne_true

/-- R170: path, map and command channels after RESET_TRACKING. -/
theorem resetAll_tracking (s : State) : (resetAll s).pending = s.pending ∧ (resetAll s).fr = s.fr ∧
    (resetAll s).pt.sections = s.pt.sections ∧ (resetAll s).pt.links = s.pt.links.map (Option.map Link.unanchor) ∧
    (resetAll s).wm.maps = s.wm.maps.map (fun m => { m with marks := [] }) ∧
    (resetAll s).wm.nextSerial = s.wm.nextSerial ∧ (resetAll s).ccu.gate = none ∧
    (resetAll s).ccu.records = s.ccu.records.map Channel.resetTracking := by
  refine ⟨?_, ?_, ?_, ?_, ?_, ?_, ?_, ?_⟩ <;> rfl

/-- R170: what the blocks keep after RESET_TRACKING. -/
theorem resetAll_blocks (s : State) : (resetAll s).op = s.op.resetTracking ∧
    (resetAll s).sc = s.sc.map (Option.map (fun w => { w with st := WebState.initial w.cfg.k0 })) ∧
    (resetAll s).sp.stations = s.sp.stations.map (Option.map Slitter.resetTracking) ∧ (resetAll s).sp.swap = none ∧
    (resetAll s).sp.cover = Cover.initial ∧ (resetAll s).cp = s.cp.resetTracking ∧
    (resetAll s).sg = s.sg.resetTracking ∧ (resetAll s).ss.curves = s.ss.curves ∧
    (resetAll s).ss.generators = s.ss.generators.map (Option.map (fun g => { g with st := GenState.initial })) := by
  refine ⟨?_, ?_, ?_, ?_, ?_, ?_, ?_, ?_, ?_⟩ <;> rfl

/-- Settles O42: the state `resetAll` leaves is the one at the end of the event. -/
theorem resetTrackingTaken : Obligations.ResetTrackingTaken := by
  intro tag s h hc
  have hfault : requestFault .resetTracking 2 [] = none := rfl
  refine ⟨fun hm => ?_, fun hm => ?_⟩
  · have hb : resetTracking s = refuse notInSetupCode s := by simp [resetTracking, State.running_iff.mpr hm]
    exact congrArg _ (request_replied h hfault (settledWhen_unchanged (f := fun _ => false) hb rfl hc))
  · have hr : s.running = false := State.running_eq_false.mpr hm
    have hb : resetTracking s = (resetAll s, Answer.ok []) := by simp [resetTracking, hr]
    have hc : (resetAll s).wm.boardChange = none := rfl
    have hrun : (resetAll s).running = false := hr
    have hproj : projection (resetAll s) = (resetAll s).op.bproj := (projection_none _ openOrder_resetAll).trans rfl
    have hend := settledWhen_projected (f := fun _ => false) (body := resetTracking) (s := s) hb hc hrun hproj
    obtain ⟨hpending, hfr, hsections, hlinks, hmaps, hserial, hgate, hrecords⟩ := resetAll_tracking s
    obtain ⟨hop, hsc, hstations, hswap, hcover, hcp, hsg, hcurves, hgens⟩ := resetAll_blocks s
    exact ⟨(resetAll s).replied tag 0 0 [], congrArg Host.Outcome.next (request_replied h hfault hend),
      resetAll_tables s, hpending, hfr, hsections, hlinks, hmaps, hserial, hgate, hrecords, hop, hsc, hstations, hswap,
      hcover, hcp, hsg, hcurves, hgens, rfl⟩

/-! ### SPLICE_NOW (R105, R106) -/

theorem adjust_adjust {α : Type} {l : List (Option α)} {i : Nat} {f g : α → α} :
    adjust (adjust l i f) i g = adjust l i (fun x => g (f x)) := by
  cases h : lookup l i with
  | none => simp [adjust, h]
  | some a =>
    have hf := lookup_adjust (f := f) h
    have hl : adjust l i f = l.set i (some (f a)) := by simp [adjust, h]
    rw [hl] at hf ⊢
    simp [adjust, hf, h]

theorem adjustWeb_adjustWeb {s : State} {i : Nat} {f g : WebState → WebState} :
    (s.adjustWeb i f).adjustWeb i g = s.adjustWeb i (fun x => g (f x)) := by
  unfold State.adjustWeb
  rw [State.withSc_sc, adjust_adjust]
  rfl

theorem webAt_adjustWeb {s : State} {i : Nat} {w : Web} {f : WebState → WebState} (h : s.webAt i = some w) :
    (s.adjustWeb i f).webAt i = some { w with st := f w.st } :=
  lookup_adjust (l := s.sc) (f := fun w : Web => { w with st := f w.st }) h

theorem adjustChannel_adjustWeb {s : State} {ch i : Nat} {f : WebState → WebState} {g : Channel → Channel} :
    (s.adjustWeb i f).adjustChannel ch g = (s.adjustChannel ch g).adjustWeb i f := by
  unfold State.adjustChannel
  show (match s.channelAt ch with | some _ => _ | none => _) = _
  cases s.channelAt ch <;> rfl

/-- R62: a command as it is issued with a tag. -/
def freshCommand (t : Half) (v : Verb) (args : List Word) (role : Option PosRole) : Command :=
  { tag := t, verb := v, args := args, role := role, accepted := false, abort := false, sendTime := none
    acceptTime := none, overdue := false }

/-- R62: a command that its channel has room for enters the list at once. -/
theorem issueCommand_room {s : State} {ch : Nat} {c : Channel} {v : Verb} {args : List Word} {role : Option PosRole}
    (hc : s.channelAt ch = some c) (hcls : c.cls = some v.cls) (hargs : argsInRange v args = true)
    (hroom : c.outstanding.length < c.depth) :
    let t := chooseTag c 8 c.nextTag
    issueCommand ch v args role s =
      (s.adjustChannel ch (fun c => { c with
        outstanding := c.outstanding ++ [translate s (freshCommand t v args role)], nextTag := tagAfter t }),
       some ⟨t, none⟩) := by
  unfold issueCommand
  rw [hc]
  dsimp only
  rw [if_neg (by simp [hcls, hargs]), if_pos hroom]
  rfl

/-- R106: a planned splice that is near enough is issued where its channel has room. -/
theorem issueCheck_issued {s : State} {i : Nat} {w : Web} {p : SplicePlan} {c : Channel} (hw : s.webAt i = some w)
    (hp : w.st.plan = some p) (hs : p.state = .planned)
    (hnear : sdist (webCount w s) p.target ≤ ((w.cfg.spliceLead + w.cfg.issueMargin : Nat) : Int))
    (hc : s.channelAt w.cfg.channel = some c) (hcls : c.cls = some .splicer) (hroom : c.outstanding.length < c.depth) :
    let t := chooseTag c 8 c.nextTag
    issueCheck i s = (s.adjustChannel w.cfg.channel (fun c => { c with
        outstanding := c.outstanding ++ [translate s (freshCommand t .spliceAt [p.target] (some w.cfg.posRole))]
        nextTag := tagAfter t })).adjustWeb i (fun x =>
          { x with plan := some { p with state := .issued }, spliceTag := some t }) := by
  intro t
  unfold issueCheck
  rw [hw]
  dsimp only
  rw [hp]
  dsimp only
  rw [if_pos ⟨hs, hnear⟩, issueCommand_room (v := .spliceAt) hc hcls rfl hroom]
  unfold prepareSuperseded
  dsimp only
  split <;> rfl

/-- R105: what SPLICE_NOW does in RUN with no plan held. -/
theorem spliceNow_planned {i : Word} {w : Web} {s : State} (hr : s.running = true) (hi : i.toNat ≤ 5)
    (hw : s.webAt i.toNat = some w) (hp : w.st.plan = none) :
    let target := shiftBy (s.count w.cfg.sec) w.cfg.spliceLead
    spliceNow [i] s = (issueCheck i.toNat (s.adjustWeb i.toNat (WebState.makePlan (newPlan .operator target))),
      Answer.ok [target]) := by
  intro target
  unfold spliceNow
  dsimp only
  rw [hr, if_neg (by decide), if_neg (Nat.not_lt.mpr hi), hw]
  dsimp only
  rw [if_neg (by simp [hp])]
  rfl

/-- Settles O38. -/
theorem spliceNowTaken : Obligations.SpliceNowTaken := by
  intro tag l i w s h hl1 hl2 hi hw hc
  have hfault : requestFault .spliceNow l [i] = none := requestFault_operate rfl hl1 hl2 rfl
  refine ⟨fun c hm hp hlead hch hcls hroom => ?_, fun hm hp => ?_, fun hm => ?_⟩
  · intro target t cmd plan
    have hr : s.running = true := State.running_iff.mpr hm
    let made := s.adjustWeb i.toNat (WebState.makePlan (newPlan .operator target))
    have hmade : made.webAt i.toNat = some { w with st := WebState.makePlan (newPlan .operator target) w.st } :=
      webAt_adjustWeb hw
    have hnear : sdist (s.count w.cfg.sec) target ≤ ((w.cfg.spliceLead + w.cfg.issueMargin : Nat) : Int) := by
      rw [sdist_shiftBy (by omega) (by omega)]
      omega
    have hissue := issueCheck_issued (s := made) (p := newPlan .operator target) hmade rfl rfl hnear hch hcls hroom
    have hbody := spliceNow_planned hr hi hw hp
    dsimp only at hissue hbody
    rw [hissue, adjustChannel_adjustWeb, adjustWeb_adjustWeb] at hbody
    refine congrArg _ (request_replied h hfault (settledWhen_sameRecords (f := fun _ => false) hbody rfl ?_ ?_ ?_ ?_))
    · exact (congrArg WebMap.boardChange (State.adjustChannel_wm ..)).trans hc
    · exact State.adjustChannel_pt ..
    · exact State.adjustChannel_op ..
    · exact State.adjustChannel_cp ..
  · have hb : spliceNow [i] s = refuse inProgressCode s := by
      simp [spliceNow, State.running_iff.mpr hm, Nat.not_lt.mpr hi, hw, hp]
    exact congrArg _ (request_replied h hfault (settledWhen_unchanged (f := fun _ => false) hb rfl hc))
  · have hb : spliceNow [i] s = refuse notInRunCode s := by simp [spliceNow, State.running_eq_false.mpr hm]
    exact congrArg _ (request_replied h hfault (settledWhen_unchanged (f := fun _ => false) hb rfl hc))

end Sys2Proof.Machine

/-! What the Cut Planner and the command channels leave alone, and the end of an event without orders (R28, R81, R83,
R135). -/
namespace Sys2Proof.Machine

/-! ### Changes of the cut plan, the command channels and the events -/

/-- The second state differs from the first in the cut plan, the command channels and the events alone. -/
structure Feeds (s t : State) : Prop where
  pending : t.pending = s.pending
  fr : t.fr = s.fr
  pt : t.pt = s.pt
  wm : t.wm = s.wm
  op : t.op = s.op
  sc : t.sc = s.sc
  sp : t.sp = s.sp
  sg : t.sg = s.sg
  ss : t.ss = s.ss

theorem Feeds.refl (s : State) : Feeds s s := ⟨rfl, rfl, rfl, rfl, rfl, rfl, rfl, rfl, rfl⟩

section
variable {s t : State} (h : Feeds s t)
include h

theorem Feeds.raise {k a b c} : Feeds s (raise k a b c t) where
  pending := by rw [raise_pending, h.pending]
  fr := by rw [raise_fr, h.fr]
  pt := by rw [raise_pt, h.pt]
  wm := by rw [raise_wm, h.wm]
  op := by rw [raise_op, h.op]
  sc := by rw [raise_sc, h.sc]
  sp := by rw [raise_sp, h.sp]
  sg := by rw [raise_sg, h.sg]
  ss := by rw [raise_ss, h.ss]

omit h in
theorem Feeds.ite {c : Prop} [Decidable c] {x y : State} (hx : Feeds s x) (hy : Feeds s y) :
    Feeds s (if c then x else y) := by
  split
  · exact hx
  · exact hy

theorem Feeds.withCp {x} : Feeds s (t.withCp x) :=
  ⟨h.pending, h.fr, h.pt, h.wm, h.op, h.sc, h.sp, h.sg, h.ss⟩

theorem Feeds.withCcu {x} : Feeds s (t.withCcu x) :=
  ⟨h.pending, h.fr, h.pt, h.wm, h.op, h.sc, h.sp, h.sg, h.ss⟩

theorem Feeds.adjustChannel {i f} : Feeds s (t.adjustChannel i f) := by
  unfold State.adjustChannel
  split
  · exact h.withCcu
  · exact h

theorem Feeds.issueCommand {ch v args role} : Feeds s (issueCommand ch v args role t).1 := by
  unfold Machine.issueCommand
  split
  · exact h
  · split
    · exact h
    · dsimp only
      split
      · exact h.adjustChannel
      · split
        · exact h.adjustChannel.raise
        · exact h.adjustChannel

theorem Feeds.noteSheetRange {x f} : Feeds s (noteSheetRange x f t) := by
  unfold Machine.noteSheetRange
  split
  · split
    · exact h
    · exact h.raise.withCp
  · exact h

theorem Feeds.settleBase : Feeds s (settleBase t) := by
  unfold Machine.settleBase
  split
  · exact h
  · exact h.withCp.ite h

omit h in
theorem Feeds.planCuts {fuel} {t : State} (h : Feeds s t) : Feeds s (planCuts fuel t) := by
  induction fuel generalizing t with
  | zero => exact h
  | succ n ih =>
    unfold Machine.planCuts
    split
    · split
      · exact ih h.noteSheetRange.withCp
      · exact h
    · exact h

omit h in
theorem Feeds.feedKnife {fuel} {t : State} (h : Feeds s t) : Feeds s (feedKnife fuel t) := by
  induction fuel generalizing t with
  | zero => exact h
  | succ n ih =>
    unfold Machine.feedKnife
    split
    · split
      · exact h
      · split
        · dsimp only
          split
          · exact ih h.issueCommand.withCp
          · exact h.issueCommand
        · exact h
    · exact h

theorem Feeds.planAndFeed : Feeds s (planAndFeed t) := by
  unfold Machine.planAndFeed
  split
  · exact h.settleBase.planCuts.feedKnife
  · exact h

theorem Feeds.replanForChange {sp} : Feeds s (replanForChange sp t) := by
  unfold Machine.replanForChange
  split
  · split
    · exact h.withCp.planAndFeed
    · exact h
  · exact h

end

/-- R135: with every entry SENT a change of the BOARD list re-plans nothing. -/
theorem replanForChange_sent {sp : Span} {s : State} (h : ∀ e ∈ s.cp.plan, e.sent.isSome = true) :
    replanForChange sp s = s := by
  unfold replanForChange
  have hnone : firstIndex s.cp.plan.length (fun i =>
      (s.cp.plan[i]?).any (fun e => e.sent.isNone && (entrySpan s.cp i e).meets sp)) = none := by
    refine List.find?_eq_none.mpr fun i _ => ?_
    rw [Option_any_eq_false fun e he => ?_]
    · exact Bool.false_ne_true
    · rw [Option.isNone_eq_false_iff.mpr (h e (List.mem_of_getElem? he)), Bool.false_and]
  rw [hnone]

/-! ### The end of an event without orders (R81, R83) -/

/-- R83: with no order open or waiting there is no commit attempt. -/
theorem attemptCommit_noOrders {s : State} (ho : s.openOrder = none) (hn : s.nextOrder = none) :
    attemptCommit s = (s, false) := by
  have ht : triggered s = (s, none) := by
    unfold triggered
    rw [ho, hn]
    cases s.boardCount <;> rfl
  unfold attemptCommit
  rw [ht]

/-- R28, R81, R135: a noted change of the BOARD list, with no order open or waiting. -/
theorem settle_announced {before : Signature} {force attempt : Bool} {s : State} {sp : Span}
    (hc : s.wm.boardChange = some sp) (ho : s.openOrder = none) (hn : s.nextOrder = none) :
    settle before force attempt s =
      (replanForChange sp (s.withWm { s.wm with boardChange := none })).withProjection .none := by
  have hfeeds : Feeds (s.withWm { s.wm with boardChange := none })
      (replanForChange sp (s.withWm { s.wm with boardChange := none })) := (Feeds.refl _).replanForChange
  generalize hu : replanForChange sp (s.withWm { s.wm with boardChange := none }) = u at hfeeds
  have huo : u.openOrder = none := by
    unfold State.openOrder at *
    rwa [hfeeds.op]
  have hannounce : announceChange s = u.withProjection .none := by
    unfold announceChange
    rw [hc]
    dsimp only
    rw [hu]
    unfold project
    rw [projection_none u huo]
    rfl
  have hattempt : attemptCommit (u.withProjection .none) = (u.withProjection .none, false) := by
    refine attemptCommit_noOrders huo ?_
    show u.nextOrder = none
    unfold State.nextOrder at *
    rwa [hfeeds.op]
  unfold settle settleLoop
  rw [hannounce, hc]
  simp only [Option.isSome_some, Bool.not_true, Bool.and_false, Bool.false_eq_true, if_false, hattempt, ite_self]

end Sys2Proof.Machine

/-! STATION_CLEAR (R124). -/
namespace Sys2Proof.Machine

/-! ### Stations -/

theorem stationAt_adjustStation {s : State} {i : Nat} {x : Slitter} {f : Slitter → Slitter} (h : s.stationAt i = some x) :
    (s.adjustStation i f).stationAt i = some (f x) := lookup_adjust (l := s.sp.stations) h

theorem lookup_adjust_ne {α : Type} {l : List (Option α)} {i j : Nat} {f : α → α} (h : j ≠ i) :
    lookup (adjust l i f) j = lookup l j := by
  cases ha : lookup l i with
  | none => simp [adjust, ha]
  | some a =>
    have hl : adjust l i f = l.set i (some (f a)) := by simp [adjust, ha]
    rw [hl]
    simp [lookup, List.getElem?_set_ne (Ne.symm h)]

theorem stationAt_adjustStation_ne {s : State} {i j : Nat} {f : Slitter → Slitter} (h : j ≠ i) :
    (s.adjustStation i f).stationAt j = s.stationAt j := lookup_adjust_ne h

theorem adjustStation_adjustStation {s : State} {i : Nat} {f g : Slitter → Slitter} :
    (s.adjustStation i f).adjustStation i g = s.adjustStation i (fun x => g (f x)) := by
  unfold State.adjustStation
  rw [State.withSp_sp, adjust_adjust]
  rfl

theorem adjustChannel_adjustStation {s : State} {ch i : Nat} {f : Slitter → Slitter} {g : Channel → Channel} :
    (s.adjustStation i f).adjustChannel ch g = (s.adjustChannel ch g).adjustStation i f := by
  unfold State.adjustChannel
  show (match s.channelAt ch with | some _ => _ | none => _) = _
  cases s.channelAt ch <;> rfl

theorem stationStateWord_eq {s : State} {i : Nat} {x : Slitter} (h : s.stationAt i = some x) :
    stationStateWord i s = natWord x.state.code := by
  unfold stationStateWord
  rw [h]

/-- R124 step 1: a station cleared. -/
def Slitter.clearedFault (x : Slitter) : Slitter :=
  { x with state := .idle, pattern := none, atRisk := false, live := none }

/-- R124: the state in which a station has been cleared, before what follows from it. -/
def State.stationCleared (s : State) (i : Nat) : State := s.adjustStation i Slitter.clearedFault

theorem clearStation_eq (i : Nat) (s : State) : clearStation i s =
    recoveryCheck (endCover .slitterFault (clearedLift i (represet i (s.stationCleared i)))) := rfl

section
variable {s : State} {i : Nat}

theorem represet_idle (h : ∀ w, s.sp.swap = some w → w.newStation = i → s.running = false) : represet i s = s := by
  unfold represet
  split
  · next w hw =>
    refine if_neg ?_
    rw [Bool.and_eq_true, decide_eq_true_eq]
    rintro ⟨hn, hr⟩
    rw [h w hw hn] at hr
    cases hr
  · rfl

theorem clearedLift_idle (h : ∀ w, s.sp.swap = some w → w.oldStation ≠ some i) : clearedLift i s = s := by
  unfold clearedLift
  split
  · next w hw => exact if_neg fun hor => h w hw hor.1
  · rfl

theorem endCover_inactive {cause : ZoneCause} (h : s.sp.cover.active = false) : endCover cause s = s := by
  unfold endCover
  rw [h]
  rfl

/-- R125: where recovery is not due. -/
theorem recoveryCheck_idle (h : s.sp.swap.isSome = true ∨ s.mu.mode = .setup ∨ s.op.runningPattern = none ∨
    ∃ j ≤ 1, ∃ y, s.stationAt j = some y ∧ y.state = .engaged) : recoveryCheck s = s := by
  unfold recoveryCheck
  dsimp only
  split
  · next p e hp hw he =>
    refine if_neg ?_
    rcases h with h | h | h | ⟨j, hj, y, hy, hs⟩
    · rw [hw] at h
      cases h
    · simp [State.running_eq_false.mpr h]
    · rw [hp] at h
      cases h
    · have hat : s.stationIs j .engaged = true := by simp [State.stationIs, hy, hs]
      have hj : j = 0 ∨ j = 1 := by omega
      rcases hj with rfl | rfl <;> simp [hat]
  · rfl

/-- R121: with no swap held only a station FAULT at risk keeps the cover run. -/
theorem coverCause_iff (h : s.sp.swap = none) : coverCause s = true ↔
    ∃ j ≤ 1, ∃ y, s.stationAt j = some y ∧ y.state = .fault ∧ y.atRisk = true := by
  have hj (j : Nat) : j < 2 ↔ j ≤ 1 := by omega
  simp only [coverCause, swapLate, h, Option.any_none, Bool.false_or, List.any_eq_true, List.mem_range, hj,
    Option_any_eq_true, Bool.and_eq_true, beq_iff_eq]

end

/-! ### A station that has been cleared -/

section
variable {s : State} {i : Nat} {x : Slitter} (hi : i ≤ 1) (hx : s.stationAt i = some x)
include hi hx

/-- R121: once a station is cleared only the other one can keep the cover run. -/
theorem coverCause_cleared (h : s.sp.swap = none) : coverCause (s.stationCleared i) = true ↔
    ∃ y, s.stationAt (1 - i) = some y ∧ y.state = .fault ∧ y.atRisk = true := by
  have hself : (s.stationCleared i).stationAt i = some x.clearedFault := stationAt_adjustStation hx
  have hother : (s.stationCleared i).stationAt (1 - i) = s.stationAt (1 - i) := stationAt_adjustStation_ne (by omega)
  rw [coverCause_iff (s := s.stationCleared i) h, ← hother]
  constructor
  · rintro ⟨j, hj, y, hy, hf, hr⟩
    have hji : j = i ∨ j = 1 - i := by omega
    rcases hji with rfl | rfl
    · rw [hself] at hy
      obtain rfl := Option.some.inj hy
      cases hf
    · exact ⟨y, hy, hf, hr⟩
  · rintro ⟨y, hy, hf⟩
    exact ⟨1 - i, by omega, y, hy, hf⟩

/-- R121, R122, R124: a cleared station with no swap held, in SETUP. -/
theorem clearStation_covered (hm : s.mu.mode = .setup) (hw : s.sp.swap = none) :
    ((∃ y, s.stationAt (1 - i) = some y ∧ y.state = .fault ∧ y.atRisk = true) →
      clearStation i s = s.stationCleared i) ∧
    ((¬∃ y, s.stationAt (1 - i) = some y ∧ y.state = .fault ∧ y.atRisk = true) →
      clearStation i s = (s.stationCleared i).withSp { (s.stationCleared i).sp with
        cover := { (s.stationCleared i).sp.cover with active := false } }) := by
  have hr : (s.stationCleared i).running = false := State.running_eq_false.mpr hm
  have hend : clearStation i s = recoveryCheck (endCover .slitterFault (s.stationCleared i)) := by
    rw [clearStation_eq, represet_idle (s := s.stationCleared i) (fun _ hw' => nomatch hw.symm.trans hw'),
      clearedLift_idle (s := s.stationCleared i) (fun _ hw' => nomatch hw.symm.trans hw')]
  rw [endCover_setup hr] at hend
  refine ⟨fun hrisk => ?_, fun hrisk => ?_⟩
  · rwa [if_pos ((coverCause_cleared hi hx hw).mpr hrisk),
      recoveryCheck_idle (s := s.stationCleared i) (.inr (.inl hm))] at hend
  · rw [if_neg (mt (coverCause_cleared hi hx hw).mp hrisk)] at hend
    exact hend.trans (recoveryCheck_idle (.inr (.inl hm)))

omit hx in
/-- R125: what keeps recovery from being due once a station is cleared. -/
theorem notDue_cleared (h : s.mu.mode = .setup ∨ s.op.runningPattern = none ∨
      ∃ y, s.stationAt (1 - i) = some y ∧ y.state = .engaged) :
    (s.stationCleared i).mu.mode = .setup ∨ (s.stationCleared i).op.runningPattern = none ∨
      ∃ j ≤ 1, ∃ y, (s.stationCleared i).stationAt j = some y ∧ y.state = .engaged := by
  rcases h with h | h | ⟨y, hy, hs⟩
  · exact .inl h
  · exact .inr (.inl h)
  · exact .inr (.inr ⟨1 - i, by omega, y, (stationAt_adjustStation_ne (by omega)).trans hy, hs⟩)

end

section
variable {s : State} {i : Nat}

/-- R124: a cleared station with no swap held and no cover run. -/
theorem clearStation_settled (hi : i ≤ 1) (hw : s.sp.swap = none) (ha : s.sp.cover.active = false)
    (h : s.mu.mode = .setup ∨ s.op.runningPattern = none ∨
      ∃ y, s.stationAt (1 - i) = some y ∧ y.state = .engaged) : clearStation i s = s.stationCleared i := by
  rw [clearStation_eq, represet_idle (s := s.stationCleared i) (fun _ hw' => nomatch hw.symm.trans hw'),
    clearedLift_idle (s := s.stationCleared i) (fun _ hw' => nomatch hw.symm.trans hw'),
    endCover_inactive (s := s.stationCleared i) ha,
    recoveryCheck_idle (s := s.stationCleared i) (.inr (notDue_cleared hi h))]

/-- R124 step 3: the LIFT a swap held in SETUP waits for is done. -/
theorem clearStation_lifted {w : Swap} (hm : s.mu.mode = .setup) (hw : s.sp.swap = some w)
    (ha : s.sp.cover.active = false) (hd : w.drop ≠ .done) (hold : w.oldStation = some i)
    (hlift : w.lift = .notSent ∨ w.lift = .failed) : clearStation i s =
      (s.stationCleared i).withSp { (s.stationCleared i).sp with swap := some { w with lift := .done } } := by
  have hr : (s.stationCleared i).running = false := State.running_eq_false.mpr hm
  have hswap : (s.stationCleared i).sp.swap = some w := hw
  have hdone : (s.stationCleared i).adjustSwap (fun w => { w with lift := .done }) =
      (s.stationCleared i).withSp { (s.stationCleared i).sp with swap := some { w with lift := .done } } := by
    unfold State.adjustSwap
    rw [hswap]
    rfl
  have hlifted : clearedLift i (s.stationCleared i) =
      (s.stationCleared i).withSp { (s.stationCleared i).sp with swap := some { w with lift := .done } } := by
    unfold clearedLift
    rw [hswap]
    dsimp only
    rw [if_pos ⟨hold, hlift⟩, hdone]
    exact if_neg fun hor => hd hor.1
  rw [clearStation_eq, represet_idle fun _ _ _ => hr, hlifted]
  refine (congrArg recoveryCheck (endCover_inactive ?_)).trans (recoveryCheck_idle (.inl rfl))
  exact ha

/-- R124: the swap held in SETUP does not wait for the station. -/
theorem clearStation_unlifted {w : Swap} (hm : s.mu.mode = .setup) (hw : s.sp.swap = some w)
    (ha : s.sp.cover.active = false) (hold : w.oldStation ≠ some i) : clearStation i s = s.stationCleared i := by
  have hr : (s.stationCleared i).running = false := State.running_eq_false.mpr hm
  rw [clearStation_eq, represet_idle fun _ _ _ => hr, clearedLift_idle (s := s.stationCleared i) (fun v hv =>
      Option.some.inj (hw.symm.trans hv) ▸ hold),
    endCover_inactive (s := s.stationCleared i) ha, 
    recoveryCheck_idle (s := s.stationCleared i) (.inl (Option.isSome_of_eq_some hw))]

end

/-! ### PRESET (R116) -/

theorem natWord_toNat {n : Nat} (h : n < 4294967296) : (natWord n).toNat = n := by
  rw [natWord_eq h, BitVec.toNat_ofNat, Nat.mod_eq_of_lt h]

theorem argsInRange_preset (o n m : Word) (rest : List Word) : argsInRange .preset (o :: n :: m :: rest) =
    (decide (1 ≤ o.toNat) && decide (o.toNat ≤ 7) && (decide (0 ≤ n.toNat) && decide (n.toNat ≤ 6)) &&
      (decide (0 ≤ m.toNat) && decide (m.toNat ≤ 10)) && rest.length == n.toNat + m.toNat) := rfl

theorem presetArgs_inRange {p : Pattern} (h1 : 1 ≤ p.outs) (h2 : p.outs ≤ 7) (h3 : p.slits.length ≤ 6)
    (h4 : p.scores.length ≤ 10) : argsInRange .preset (presetArgs p) = true := by
  have hargs : presetArgs p = natWord p.outs :: natWord p.slits.length :: natWord p.scores.length ::
      (p.slits.map natWord ++ p.scores.map natWord) := by simp [presetArgs]
  have houts : (natWord p.outs).toNat = p.outs := natWord_toNat (by omega)
  have hslits : (natWord p.slits.length).toNat = p.slits.length := natWord_toNat (by omega)
  have hscores : (natWord p.scores.length).toNat = p.scores.length := natWord_toNat (by omega)
  rw [hargs, argsInRange_preset, houts, hslits, hscores]
  simp [h1, h2, h3, h4]

/-- R116: PRESET issued where the station's channel has room. -/
theorem issuePreset_room {s : State} {i k : Nat} {x : Slitter} {c : Channel} {p : Pattern} (hx : s.stationAt i = some x)
    (hc : s.channelAt x.cfg.channel = some c) (hcls : c.cls = some .slitter) (hroom : c.outstanding.length < c.depth)
    (hp : s.patternAt k = some p) (hargs : argsInRange .preset (presetArgs p) = true) :
    let t := chooseTag c 8 c.nextTag
    issuePreset i k s = (s.adjustChannel x.cfg.channel (fun c => { c with
        outstanding := c.outstanding ++ [freshCommand t .preset (presetArgs p) none], nextTag := tagAfter t })).adjustStation
      i (fun x => { x with state := .presetting, pattern := some k, live := some ⟨.preset, t⟩ }) := by
  intro t
  have hstation : (s.adjustStation i (fun x => { x with state := .presetting, pattern := some k })).stationAt i =
      some { x with state := .presetting, pattern := some k } := stationAt_adjustStation hx
  have hissue := issueCommand_room (s := s.adjustStation i (fun x => { x with state := .presetting, pattern := some k }))
    (v := .preset) (role := none) hc hcls hargs hroom
  unfold issuePreset
  rw [hp]
  dsimp only at hissue ⊢
  unfold stationIssue
  rw [hstation]
  dsimp only
  rw [hissue]
  show (((s.adjustStation i _).adjustChannel x.cfg.channel _).adjustStation i _) = _
  rw [adjustChannel_adjustStation, adjustStation_adjustStation]
  rfl

/-- R124 step 2: the new station of a swap held in RUN is preset again. -/
theorem clearStation_represet {s : State} {i : Nat} {x : Slitter} {w : Swap} {c : Channel} {p : Pattern}
    (hx : s.stationAt i = some x) (hm : s.mu.mode = .run) (hw : s.sp.swap = some w) (hnew : w.newStation = i)
    (hold : w.oldStation ≠ some i) (ha : s.sp.cover.active = false) (hc : s.channelAt x.cfg.channel = some c)
    (hcls : c.cls = some .slitter) (hroom : c.outstanding.length < c.depth) (hp : s.patternAt w.pattern = some p)
    (hargs : argsInRange .preset (presetArgs p) = true) :
    let t := chooseTag c 8 c.nextTag
    clearStation i s = ((s.stationCleared i).adjustChannel x.cfg.channel (fun c => { c with
        outstanding := c.outstanding ++ [freshCommand t .preset (presetArgs p) none], nextTag := tagAfter t })).adjustStation
      i (fun x => { x with state := .presetting, pattern := some w.pattern, live := some ⟨.preset, t⟩ }) := by
  intro t
  have hself : (s.stationCleared i).stationAt i = some x.clearedFault := stationAt_adjustStation hx
  have hr : (s.stationCleared i).running = true := State.running_iff.mpr hm
  have hissue := issuePreset_room (k := w.pattern) hself hc hcls hroom hp hargs
  have hrep : represet i (s.stationCleared i) = issuePreset i w.pattern (s.stationCleared i) := by
    unfold represet
    rw [show (s.stationCleared i).sp.swap = some w from hw]
    dsimp only
    rw [hr, hnew]
    simp
  rw [clearStation_eq, hrep, hissue]
  generalize hu : State.adjustStation _ i _ = u
  have hsp : u.sp.swap = some w ∧ u.sp.cover.active = false := by
    rw [← hu]
    simp only [State.adjustStation, State.withSp_sp, State.adjustChannel_sp]
    exact ⟨hw, ha⟩
  obtain ⟨hswap, hcover⟩ := hsp
  rw [clearedLift_idle (s := u) (fun v hv => Option.some.inj (hswap.symm.trans hv) ▸ hold), endCover_inactive hcover,
    recoveryCheck_idle (.inl (Option.isSome_of_eq_some hswap))]
  exact hu.symm

/-! ### The last zone of a cover run (R122) -/

/-- A creation changes the map and the events alone. -/
theorem createMark_frame (q : CreateRequest) (s : State) : (createMark q s).1.pt = s.pt ∧ (createMark q s).1.op = s.op ∧
    (createMark q s).1.sp = s.sp ∧ (createMark q s).1.cp = s.cp := by
  have hnote (sec : Nat) (sp : Span) (t : State) : (noteChange sec sp t).pt = t.pt ∧ (noteChange sec sp t).op = t.op ∧
      (noteChange sec sp t).sp = t.sp ∧ (noteChange sec sp t).cp = t.cp := by
    unfold noteChange
    split <;> exact ⟨rfl, rfl, rfl, rfl⟩
  unfold createMark
  dsimp only
  split
  · exact hnote ..
  · split
    · exact hnote ..
    · exact ⟨raise_pt .., raise_op .., raise_sp .., raise_cp ..⟩

/-- R122: the end of the cover run changes the map and the cover run alone. -/
theorem endCover_frame (cause : ZoneCause) (s : State) : (endCover cause s).pt = s.pt ∧ (endCover cause s).op = s.op ∧
    (endCover cause s).cp = s.cp ∧ (endCover cause s).sp.stations = s.sp.stations ∧
    (endCover cause s).sp.swap = s.sp.swap := by
  have hzone (upTo : Word) (t : State) : (coverZone cause upTo t).pt = t.pt ∧ (coverZone cause upTo t).op = t.op ∧
      (coverZone cause upTo t).cp = t.cp ∧ (coverZone cause upTo t).sp.stations = t.sp.stations ∧
      (coverZone cause upTo t).sp.swap = t.sp.swap := by
    unfold coverZone
    split
    · exact ⟨rfl, rfl, rfl, rfl, rfl⟩
    · obtain ⟨hpt, hop, hsp, hcp⟩ := createMark_frame _ t
      have hst := congrArg SlitterPair.stations hsp
      have hsw := congrArg SlitterPair.swap hsp
      exact ⟨hpt, hop, hcp, hst, hsw⟩
  unfold endCover
  split
  · dsimp only
    split
    · split
      · exact hzone ..
      · exact ⟨rfl, rfl, rfl, rfl, rfl⟩
    · exact ⟨rfl, rfl, rfl, rfl, rfl⟩
  · exact ⟨rfl, rfl, rfl, rfl, rfl⟩

theorem endCover_ends {cause : ZoneCause} {s : State} (h : coverCause s = false) :
    (endCover cause s).sp.cover.active = false := by
  cases ha : s.sp.cover.active with
  | false => rw [endCover_inactive ha, ha]
  | true =>
    unfold endCover
    rw [ha, h]
    rfl

/-- The end of an event without orders leaves the slitter pair and the earlier replies. -/
theorem settledWhen_noOrders {body : State → Outcome} {s m : State} {a : Answer} (hb : body s = (m, a))
    (ho : m.openOrder = none) (hn : m.nextOrder = none) (hpt : m.pt = s.pt) (hop : m.op = s.op) (hcp : m.cp = s.cp) :
    ∃ t, settledWhen (fun _ => false) body s = (t, a) ∧ t.sp = m.sp ∧ t.mu.replies = m.mu.replies := by
  obtain ⟨t, ht, hkt⟩ := settledWhen_leaves (f := fun _ => false) hb
  refine ⟨t, ht, ?_, congrArg Kept.replies hkt⟩
  cases hc : m.wm.boardChange with
  | none =>
    have := settledWhen_sameRecords (f := fun _ => false) hb rfl hc hpt hop hcp
    rw [ht] at this
    exact congrArg (fun r : Outcome => r.1.sp) this
  | some sp =>
    have hfeeds : Feeds (m.withWm { m.wm with boardChange := none }) _ := (Feeds.refl _).replanForChange (sp := sp)
    have : t = settle s.signature (false && a.passed) (m.boardCount != s.boardCount) m := by
      have := congrArg Prod.fst ht
      unfold settledWhen at this
      rw [hb] at this
      exact this.symm
    rw [this, settle_announced hc ho hn]
    exact hfeeds.sp

/-! ### The request -/

/-- R124: what STATION_CLEAR does with a FAULT station whose tools are up. -/
theorem stationClear_cleared {w : Word} {s : State} {x : Slitter} (hi : w.toNat ≤ 1)
    (hx : s.stationAt w.toNat = some x) (hf : x.state = .fault)
    (hup : s.fresh x.cfg.slot = true ∧ s.slotAux x.cfg.slot = 1) :
    stationClear [w] s = (clearStation w.toNat s, Answer.ok [stationStateWord w.toNat (clearStation w.toNat s)]) := by
  unfold stationClear
  dsimp only
  rw [if_neg (Nat.not_lt.mpr hi), hx]
  dsimp only
  rw [if_neg (by simp [hf]), if_pos (by simp [hup.1, hup.2])]

/-- The reply of a clear that changes neither path, orders, plan nor BOARD list. -/
theorem stationClear_replied {tag : Half} {l w : Word} {s t : State} {x y : Slitter} (h : s.answers)
    (hl1 : 1 ≤ l.toNat) (hl2 : l.toNat ≤ 2) (hi : w.toNat ≤ 1) (hx : s.stationAt w.toNat = some x)
    (hf : x.state = .fault) (hup : s.fresh x.cfg.slot = true ∧ s.slotAux x.cfg.slot = 1)
    (ht : clearStation w.toNat s = t) (hy : t.stationAt w.toNat = some y) (hc : t.wm.boardChange = none)
    (hpt : t.pt = s.pt) (hop : t.op = s.op) (hcp : t.cp = s.cp) :
    exec (.stationClear tag l [w]) s = .next (t.replied tag 0 0 [natWord y.state.code]) := by
  have hfault : requestFault .stationClear l [w] = none := requestFault_operate rfl hl1 hl2 rfl
  have hb := stationClear_cleared hi hx hf hup
  rw [ht, stationStateWord_eq hy] at hb
  exact congrArg _ (request_replied h hfault (settledWhen_sameRecords (f := fun _ => false) hb rfl hc hpt hop hcp))

/-- Settles O40, by the station's state, the swap held and the cover run. -/
theorem stationClearTaken : Obligations.StationClearTaken := by
  intro tag l i x s h hl1 hl2 hi hx hc clear idle up otherAtRisk settled
  have hfault : requestFault .stationClear l [i] = none := requestFault_operate rfl hl1 hl2 rfl
  have hidle : s.stationCleared i.toNat = idle := rfl
  have hself : idle.stationAt i.toNat = some x.clearedFault := stationAt_adjustStation hx
  have hzero : natWord x.clearedFault.state.code = 0 := natWord_eq (n := 0) (by decide)
  refine ⟨fun hs => ?_, fun hf hup => ?_, fun hf hup => ⟨fun hw ha hset => ?_, fun hm hw ha => ?_,
    fun hm hw ha hno hset ho hn => ?_, fun w hm hw ha hd => ?_, fun w c pat hm hw hnew hold ha hch hcls hroom hpat h1 h2 h3 h4 => ?_⟩⟩
  · have hb : stationClear [i] s = (s, Answer.ok [natWord x.state.code]) := by
      unfold stationClear
      dsimp only
      rw [if_neg (Nat.not_lt.mpr hi), hx]
      dsimp only
      rw [if_pos (by simpa using hs), stationStateWord_eq hx]
    exact congrArg _ (request_replied h hfault (settledWhen_unchanged (f := fun _ => false) hb rfl hc))
  · have hb : stationClear [i] s = refuse inProgressCode s := by
      unfold stationClear
      dsimp only
      rw [if_neg (Nat.not_lt.mpr hi), hx]
      dsimp only
      rw [if_neg (by simp [hf]), if_neg (by simpa [up] using hup)]
    exact congrArg _ (request_replied h hfault (settledWhen_unchanged (f := fun _ => false) hb rfl hc))
  · have hclear := clearStation_settled hi hw ha hset
    exact hzero ▸ stationClear_replied (y := x.clearedFault) h hl1 hl2 hi hx hf hup hclear hself hc rfl rfl rfl
  · obtain ⟨hkept, hends⟩ := clearStation_covered hi hx hm hw
    refine ⟨fun hrisk => ?_, fun hrisk => ?_⟩
    · exact hzero ▸ stationClear_replied (y := x.clearedFault) h hl1 hl2 hi hx hf hup (hkept hrisk) hself hc rfl rfl rfl
    · exact hzero ▸ stationClear_replied (y := x.clearedFault) h hl1 hl2 hi hx hf hup (hends hrisk) hself hc rfl rfl rfl
  · have hcause : coverCause (s.stationCleared i.toNat) = false :=
      Bool.eq_false_iff.mpr (mt (coverCause_cleared hi hx hw).mp hno)
    have hcleared : clearStation i.toNat s = endCover .slitterFault (s.stationCleared i.toNat) := by
      obtain ⟨-, hop, -, hst, hsw⟩ := endCover_frame .slitterFault (s.stationCleared i.toNat)
      rw [clearStation_eq, represet_idle (s := s.stationCleared i.toNat) (fun _ hw' => nomatch hw.symm.trans hw'),
        clearedLift_idle (s := s.stationCleared i.toNat) (fun _ hw' => nomatch hw.symm.trans hw')]
      refine recoveryCheck_idle (.inr ?_)
      rcases notDue_cleared hi hset with h | h | ⟨j, hj, y, hy, hs⟩
      · exact absurd (hm.symm.trans h) (by decide)
      · exact .inr (.inl (hop ▸ h))
      · exact .inr (.inr ⟨j, hj, y, (congrArg (lookup · j) hst).trans hy, hs⟩)
    obtain ⟨hpt, hop, hcp, hst, -⟩ := endCover_frame .slitterFault (s.stationCleared i.toNat)
    have hstation : (endCover .slitterFault (s.stationCleared i.toNat)).stationAt i.toNat = some x.clearedFault :=
      (congrArg (lookup · i.toNat) hst).trans hself
    have hb := stationClear_cleared hi hx hf hup
    rw [hcleared, stationStateWord_eq hstation, hzero] at hb
    obtain ⟨t, ht, hsp, hreplies⟩ := settledWhen_noOrders hb (by
      unfold State.openOrder
      rwa [hop]) (by
      unfold State.nextOrder
      rwa [hop]) hpt hop hcp
    refine ⟨t.replied tag 0 0 [0], x.clearedFault, congrArg Host.Outcome.next (request_replied h hfault ht), ?_, rfl, rfl,
      ?_, ?_⟩
    · exact (congrArg (fun p : SlitterPair => lookup p.stations i.toNat) hsp).trans hstation
    · exact (congrArg (fun p : SlitterPair => p.cover.active) hsp).trans (endCover_ends hcause)
    · have hkept : (endCover .slitterFault (s.stationCleared i.toNat)).mu.replies = s.mu.replies :=
        (congrArg Kept.replies (kept_endCover ..)).trans rfl
      exact congrArg (· ++ [_]) (hreplies.trans hkept)
  · refine ⟨fun hold hlift => ?_, fun hold => ?_⟩
    · have hclear := clearStation_lifted hm hw ha hd hold hlift
      exact hzero ▸ stationClear_replied (y := x.clearedFault) h hl1 hl2 hi hx hf hup hclear hself hc rfl rfl rfl
    · have hclear := clearStation_unlifted hm hw ha hold
      exact hzero ▸ stationClear_replied (y := x.clearedFault) h hl1 hl2 hi hx hf hup hclear hself hc rfl rfl rfl
  · intro t cmd
    have hargs := presetArgs_inRange (p := pat) h1 h2 h3 h4
    have hclear := clearStation_represet hx hm hw hnew hold ha hch hcls hroom hpat hargs
    have hstation : ∃ y, (clearStation i.toNat s).stationAt i.toNat = some y ∧ y.state = .presetting := by
      rw [hclear]
      refine ⟨_, stationAt_adjustStation (x := x.clearedFault) ?_, rfl⟩
      unfold State.stationAt
      rw [State.adjustChannel_sp]
      exact hself
    obtain ⟨y, hy, hys⟩ := hstation
    have hone : natWord y.state.code = 1 := by
      rw [hys]
      exact natWord_eq (n := 1) (by decide)
    rw [hclear] at hy
    refine hone ▸ stationClear_replied h hl1 hl2 hi hx hf hup hclear hy ?_ ?_ ?_ ?_
    · exact (congrArg WebMap.boardChange (State.adjustChannel_wm ..)).trans hc
    · exact State.adjustChannel_pt ..
    · exact State.adjustChannel_op ..
    · exact State.adjustChannel_cp ..

end Sys2Proof.Machine

/-! ZONE_ADD (R40). -/
namespace Sys2Proof.Machine

/-! ### The end of a request that notes a change of the map (R28) -/

/-- R28, R81, R135: a request that changes the map alone. Outside BOARD nothing follows; in BOARD, with no order open or
waiting, the change is announced. -/
theorem settledWhen_noteChange {body : State → Outcome} {s : State} {m : WebMap} {sec : Nat} {sp : Span} {a : Answer}
    (hb : body s = (noteChange sec sp (s.withWm m), a)) (hm : m.boardChange = none) (hr : s.mu.mode = .run) :
    (s.isBoard sec = false → settledWhen (fun _ => false) body s = (s.withWm m, a)) ∧
    (s.isBoard sec = true → s.openOrder = none → s.nextOrder = none →
      ∃ u : State, settledWhen (fun _ => false) body s = (u, a) ∧ u.fr = s.fr ∧ u.pt = s.pt ∧ u.wm = m ∧ u.sc = s.sc ∧
        u.sp = s.sp ∧ u.sg = s.sg ∧ u.ss = s.ss ∧ u.op = { s.op with bproj := .none } ∧ u.pending = s.pending ∧
        u.tables = s.tables ∧ u.mu.mode = .run ∧ u.mu.replies = s.mu.replies ∧
        ((∀ e ∈ s.cp.plan, e.sent.isSome = true) → u.cp = s.cp ∧ u.ccu = s.ccu ∧ u.mu = s.mu)) := by
  refine ⟨fun hs => ?_, fun hs ho hn => ?_⟩
  · have hnote : noteChange sec sp (s.withWm m) = s.withWm m := by
      unfold noteChange
      rw [show (s.withWm m).isBoard sec = false from hs]
      rfl
    rw [hnote] at hb
    exact settledWhen_sameRecords hb rfl hm rfl rfl rfl
  · have hnote : noteChange sec sp (s.withWm m) = s.withWm { m with boardChange := some sp } := by
      unfold noteChange
      rw [show (s.withWm m).isBoard sec = true from hs, if_pos rfl, State.withWm_wm, hm]
      rfl
    rw [hnote] at hb
    have hback : (s.withWm { m with boardChange := some sp }).withWm
        { (s.withWm { m with boardChange := some sp }).wm with boardChange := none } = s.withWm m := by
      have : { m with boardChange := none } = m := by rw [← hm]
      exact congrArg s.withWm this
    obtain ⟨t, ht, hkt⟩ := settledWhen_leaves (f := fun _ => false) hb
    have htr : t = (replanForChange sp (s.withWm m)).withProjection .none := by
      have hsettle : t = settle s.signature (false && a.passed)
          ((s.withWm { m with boardChange := some sp }).boardCount != s.boardCount)
          (s.withWm { m with boardChange := some sp }) := by
        have := congrArg Prod.fst ht
        unfold settledWhen at this
        rw [hb] at this
        exact this.symm
      rw [hsettle, settle_announced (s := s.withWm { m with boardChange := some sp }) rfl ho hn, hback]
    have hfeeds : Feeds (s.withWm m) (replanForChange sp (s.withWm m)) := (Feeds.refl _).replanForChange
    have hkept : t.kept = s.kept := hkt.trans (kept_withWm ..)
    refine ⟨t, ht, ?_, ?_, ?_, ?_, ?_, ?_, ?_, ?_, ?_, congrArg Kept.tables hkept,
      (congrArg Kept.mode hkept).trans hr, congrArg Kept.replies hkept, fun hsent => ?_⟩
    · exact htr ▸ hfeeds.fr
    · exact htr ▸ hfeeds.pt
    · exact htr ▸ hfeeds.wm
    · exact htr ▸ hfeeds.sc
    · exact htr ▸ hfeeds.sp
    · exact htr ▸ hfeeds.sg
    · exact htr ▸ hfeeds.ss
    · exact htr ▸ congrArg (fun p : Planner => { p with bproj := .none }) hfeeds.op
    · exact htr ▸ hfeeds.pending
    · rw [htr, replanForChange_sent (s := s.withWm m) hsent]
      exact ⟨rfl, rfl, rfl⟩

/-! ### The nearest splice or zone (R23) -/

/-- R23: the mark nearest so far, after one more. -/
def nearerMark (p : Word) (best : Option Mark) (m : Mark) : Option Mark :=
  match best with
  | none => some m
  | some b => if (sdist m.pos p).natAbs < (sdist b.pos p).natAbs then some m else best

theorem nearestZone_foldl (p : Word) (marks : List Mark) :
    nearestZone p marks = (marks.filter Mark.hasZone).foldl (nearerMark p) none := rfl

theorem nearerMark_mem {p : Word} {b : Option Mark} {x m : Mark} (h : nearerMark p b x = some m) :
    m = x ∨ b = some m := by
  unfold nearerMark at h
  split at h
  · exact .inl (Option.some.inj h).symm
  · split at h
    · exact .inl (Option.some.inj h).symm
    · exact .inr h

/-- A mark stays the nearest past marks that are no nearer. -/
theorem nearerMark_stays {p : Word} {m : Mark} (l : List Mark)
    (h : ∀ x ∈ l, (sdist m.pos p).natAbs ≤ (sdist x.pos p).natAbs) : l.foldl (nearerMark p) (some m) = some m := by
  induction l with
  | nil => rfl
  | cons x xs ih =>
    have hx : nearerMark p (some m) x = some m := if_neg (Nat.not_lt.mpr (h x (List.mem_cons_self ..)))
    rw [List.foldl_cons, hx]
    exact ih fun y hy => h y (List.mem_cons_of_mem _ hy)

/-- R23: the nearest mark is the first of those that are as near. -/
theorem nearestZone_eq {p : Word} {before after : List Mark} {old : Mark} (hk : old.kind ≠ .boundary)
    (hb : ∀ x ∈ before, x.kind ≠ .boundary → (sdist old.pos p).natAbs < (sdist x.pos p).natAbs)
    (ha : ∀ x ∈ after, x.kind ≠ .boundary → (sdist old.pos p).natAbs ≤ (sdist x.pos p).natAbs) :
    nearestZone p (before ++ old :: after) = some old := by
  have hzone (m : Mark) : m.hasZone = true ↔ m.kind ≠ .boundary := by simp [Mark.hasZone]
  rw [nearestZone_foldl, List.filter_append, List.filter_cons_of_pos ((hzone old).mpr hk), List.foldl_append,
    List.foldl_cons]
  have htakes : nearerMark p ((before.filter Mark.hasZone).foldl (nearerMark p) none) old = some old := by
    cases hbest : (before.filter Mark.hasZone).foldl (nearerMark p) none with
    | none => rfl
    | some b =>
      rcases mem_of_foldl_eq_some (a := b) (fun o x h => (nearerMark_mem (b := o) h).imp_left Eq.symm) _ hbest with hm | hm
      · obtain ⟨hmem, hz⟩ := List.mem_filter.mp hm
        exact if_pos (hb b hmem ((hzone b).mp hz))
      · cases hm
  rw [htakes]
  refine nearerMark_stays _ fun x hx => ?_
  obtain ⟨hmem, hz⟩ := List.mem_filter.mp hx
  exact ha x hmem ((hzone x).mp hz)

theorem nearestZone_none {p : Word} {marks : List Mark} (h : ∀ x ∈ marks, x.kind = .boundary) :
    nearestZone p marks = none := by
  unfold nearestZone
  rw [List.filter_eq_nil_iff.mpr fun x hx => by simp [Mark.hasZone, h x hx]]
  rfl

/-! ### The request -/

theorem fitLength_of {n : Nat} (h : n ≤ 1000000) : fitLength n = n :=
  if_pos (Nat.lt_of_le_of_lt h (by decide))

theorem adjustMap_congr {s : State} {i : Nat} {f g : SectionMap → SectionMap} (h : f (s.mapAt i) = g (s.mapAt i)) :
    s.adjustMap i f = s.adjustMap i g := by
  unfold State.adjustMap
  rw [h]

/-- R24: a mark merged stays in its place, the others as they are. -/
theorem replaceMark_eq {s : State} {m old : Mark} {before after : List Mark}
    (hmarks : (s.mapAt m.sec).marks = before ++ old :: after) (hslot : m.slot = old.slot)
    (h : ∀ x ∈ before ++ after, x.slot ≠ old.slot) :
    replaceMark m s = s.adjustMap m.sec (fun x => { x with marks := before ++ m :: after }) := by
  have hother (l : List Mark) (hl : ∀ x ∈ l, x.slot ≠ old.slot) :
      l.map (fun x => if x.slot == m.slot then m else x) = l := by
    refine (List.map_congr_left fun x hx => ?_).trans (List.map_id l)
    rw [hslot, if_neg (by simpa using hl x hx), id_eq]
  have hmap : (s.mapAt m.sec).marks.map (fun x => if x.slot == m.slot then m else x) = before ++ m :: after := by
    rw [hmarks, List.map_append, List.map_cons, hother before fun x hx => h x (List.mem_append_left _ hx),
      hother after fun x hx => h x (List.mem_append_right _ hx), hslot, beq_self_eq_true, if_pos rfl]
  exact adjustMap_congr (congrArg (fun l => { s.mapAt m.sec with marks := l }) hmap)

theorem natWord_word (w : Word) : natWord w.toNat = w := (natWord_eq w.isLt).trans (BitVec.ofNat_toNat 32 w)

/-- R40: what a ZONE_ADD asks of the map. -/
def zoneAsked (sec : Nat) (p : Word) (lead trail : Nat) : CreateRequest :=
  { kind := .zone, cause := some .defect, sec := sec, pos := p, lead := lead, trail := trail, widening := 0
    conf := .confirmed, origin := none }

/-- R40: a request that passes its checks creates the zone at the position it names. -/
theorem zoneAdd_eq {s : State} {sec form pos lead trail p : Word} {c : Section} (hr : s.mu.mode = .run)
    (hi : sec.toNat ≤ 11) (hc : s.sectionAt sec.toNat = some c) (hl : lead.toNat ≤ 1000000) (ht : trail.toNat ≤ 1000000)
    (hp : (form = 0 ∧ p = pos ∧ (sdist c.trk.count pos).natAbs ≤ 1073741824) ∨
      (form = 1 ∧ p = shiftBy c.trk.count (-pos.toInt) ∧ -1000000 ≤ pos.toInt ∧ pos.toInt ≤ 10000000)) :
    zoneAdd [sec, form, pos, lead, trail] s =
      ((createMark (zoneAsked sec.toNat p lead.toNat trail.toNat) s).1,
        Answer.ok (createMark (zoneAsked sec.toNat p lead.toNat trail.toNat) s).2.words) := by
  have hfit : zoneWordsFit sec form pos lead trail = true := by
    unfold zoneWordsFit
    rcases hp with ⟨rfl, -⟩ | ⟨rfl, -, h1, h2⟩
    · simp [hi, hl, ht]
    · simp [hi, hl, ht, h1, h2]
  have hpos : zonePosition form pos c.trk.count = some p := by
    unfold zonePosition
    rcases hp with ⟨rfl, rfl, hd⟩ | ⟨rfl, rfl, -⟩
    · exact if_pos hd
    · rfl
  unfold zoneAdd
  dsimp only
  rw [State.running_iff.mpr hr, hfit, hc]
  dsimp only
  rw [hpos]
  rfl

/-- R27: the mark the request makes. -/
theorem requestedMark_zone {s : State} {sec lead trail : Nat} {p : Word} {c : Section} (hc : s.sectionAt sec = some c)
    (hl : lead ≤ 1000000) (ht : trail ≤ 1000000) : requestedMark (zoneAsked sec p lead trail) s =
      { slot := s.freeSlot, serial := s.wm.nextSerial, kind := .zone, cause := some .defect, sec := sec
        pos := p, lead := lead, trail := trail, widening := fitLength (if s.uncertain sec then c.cfg.margin else 0)
        conf := .confirmed, reckoned := s.uncertain sec, via := none, verifiedAt := none, origin := none, order := none
        patternChange := false } := by
  have hwiden : s.reckonWidening sec = if s.uncertain sec then c.cfg.margin else 0 := by
    simp only [State.reckonWidening, State.margin, hc]
  simp only [requestedMark, zoneAsked, fitLength_of hl, fitLength_of ht, hwiden, Nat.zero_add]

theorem orElse_eq_ite {α : Type} [DecidableEq α] (a b : Option α) : (a <|> b) = if a = none then b else a := by
  cases a <;> rfl

/-- Settles O39, by the room in the pool and the mark nearest to the position. -/
theorem zoneAddTaken : Obligations.ZoneAddTaken := by
  intro tag level sec form pos lead trail c s h hl1 hl2 hi hc hlead htrail hb result
  have hfault : requestFault .zoneAdd level [sec, form, pos, lead, trail] = none := requestFault_operate rfl hl1 hl2 rfl
  have hanswer {t : State} {words : List Word} (hw : words.length ≤ 24)
      (ht : settledWhen (fun _ => false) (zoneAdd [sec, form, pos, lead, trail]) s = (t, Answer.ok words)) :
      result = .next (t.replied tag 0 0 words) := congrArg Host.Outcome.next (request_replied h hfault ht hw)
  refine ⟨?_, fun hm => ?_⟩
  · intro hr p hp widening marks answered
    have hzone := zoneAdd_eq hr hi hc hlead htrail hp
    have hnoted {m : WebMap} {sp : Span} {words : List Word} (hw : words.length ≤ 24) (hm : m.boardChange = none)
        (hbody : zoneAdd [sec, form, pos, lead, trail] s =
          (noteChange sec.toNat sp (s.withWm m), Answer.ok words)) : answered (s.withWm m) words := by
      obtain ⟨hplain, hboard⟩ := settledWhen_noteChange hbody hm hr
      refine ⟨fun hs => hanswer hw (hplain hs), fun hs ho hn => ?_⟩
      obtain ⟨u, hu, hrest⟩ := hboard hs ho hn
      exact ⟨u, hanswer hw hu, hrest⟩
    refine ⟨?_, fun hfull => ⟨?_, fun hall => ?_⟩⟩
    · intro hroom m listed
      refine hnoted (sp := m.span) (by simp) hb ?_
      rw [hzone, createMark, if_pos hroom, requestedMark_zone hc hlead htrail]
      rfl
    · intro before old after hmarks hsec hk hslots hbefore hafter d front rear merged
      have hnear := nearestZone_eq hk hbefore hafter
      have hmerged : mergedMark old (requestedMark (zoneAsked sec.toNat p lead.toNat trail.toNat) s) = merged := by
        rw [requestedMark_zone hc hlead htrail]
        simp only [mergedMark, orElse_eq_ite]
        rfl
      have hmsec : merged.sec = sec.toNat := hsec
      have hreplace : replaceMark merged s =
          s.adjustMap sec.toNat (fun x => { x with marks := before ++ merged :: after }) :=
        hmsec ▸ replaceMark_eq (m := merged) (old := old) (by rw [hmsec]; exact hmarks) rfl hslots
      refine hnoted (sp := old.span.join merged.span) (by simp) hb ?_
      rw [hzone, createMark, if_neg (Nat.not_lt.mpr hfull)]
      simp only [show (s.mapAt (zoneAsked sec.toNat p lead.toNat trail.toNat).sec).marks = before ++ old :: after
        from hmarks, show nearestZone (zoneAsked sec.toNat p lead.toNat trail.toNat).pos (before ++ old :: after) =
        some old from hnear]
      unfold mergeInto
      rw [hmerged]
      dsimp only
      rw [hreplace, hsec]
      rfl
    · have hnone : nearestZone p (s.mapAt sec.toNat).marks = none := nearestZone_none hall
      refine hanswer (by simp) (settledWhen_sameRecords (f := fun _ => false) ?_ rfl ?_ (raise_pt ..) (raise_op ..) (raise_cp ..))
      · rw [hzone, createMark, if_neg (Nat.not_lt.mpr hfull)]
        simp only [show nearestZone (zoneAsked sec.toNat p lead.toNat trail.toNat).pos
          (s.mapAt (zoneAsked sec.toNat p lead.toNat trail.toNat).sec).marks = none from hnone]
        rw [show natWord (zoneAsked sec.toNat p lead.toNat trail.toNat).sec = sec from natWord_word sec,
          show natWord (zoneAsked sec.toNat p lead.toNat trail.toNat).kind.code = 2 from natWord_eq (n := 2) (by decide)]
        rfl
      · rw [raise_wm]
        exact hb
  · have hbody : zoneAdd [sec, form, pos, lead, trail] s = refuse notInRunCode s := by
      unfold zoneAdd
      rw [State.running_eq_false.mpr hm]
      rfl
    exact congrArg Host.Outcome.next (request_replied h hfault (settledWhen_unchanged (f := fun _ => false) hbody rfl hb))

end Sys2Proof.Machine

/-! Missed values and commands that time out (R54, R55, R69, R70). -/
namespace Sys2Proof.Machine

/-! ### Events that leave the records B_proj depends on -/

/-- R81, R83: an event that leaves path, orders, plan and BOARD list as they were ends as its action left it. -/
theorem event_sameRecords {f : State → State} {s t : State} (hf : f s = t) (hc : t.wm.boardChange = none)
    (hpt : t.pt = s.pt) (hop : t.op = s.op) (hcp : t.cp = s.cp) : event f s = t := by
  unfold event
  simp only [hf, boardCount_congr hpt, bne_self_eq_false]
  exact settle_idle _ t hc (signature_congr hpt hop hcp)

/-! ### Slots (R54) -/

/-- R54: a slot made STALE. -/
def WatchEntry.staled (w : WatchEntry) : WatchEntry := { w with fresh := false }

theorem adjust_id {α : Type} {l : List (Option α)} {i : Nat} {f : α → α} (h : ∀ a, lookup l i = some a → f a = a) :
    adjust l i f = l := by
  unfold adjust
  split
  · next a ha =>
    rw [h a ha]
    refine List.ext_getElem? fun j => ?_
    rw [List.getElem?_set]
    split
    · next hj =>
      subst hj
      have hl := lookup_eq_some.mp ha
      rw [if_pos (List.getElem?_eq_some_iff.mp hl).1, hl]
    · rfl
  · rfl

theorem adjustSlot_id {s : State} {k : Nat} {f : WatchEntry → WatchEntry} (h : ∀ w, s.slotAt k = some w → f w = w) :
    s.adjustSlot k f = s := by
  unfold State.adjustSlot
  rw [adjust_id h]
  rfl

theorem slotAt_adjustSlot {s : State} {k : Nat} {w : WatchEntry} {f : WatchEntry → WatchEntry} (h : s.slotAt k = some w) :
    (s.adjustSlot k f).slotAt k = some (f w) := lookup_adjust (l := s.fr.watch) h

theorem slotAt_adjustSlot_ne {s : State} {k j : Nat} {f : WatchEntry → WatchEntry} (h : j ≠ k) :
    (s.adjustSlot k f).slotAt j = s.slotAt j := lookup_adjust_ne h

/-- No section names a slot as its counter or its speed reference. -/
def State.unnamedSlot (s : State) (k : Nat) : Prop := ∀ i c, s.sectionAt i = some c →
  c.cfg.primarySlot ≠ k ∧ c.cfg.backupSlot ≠ some k ∧ c.cfg.refSlot ≠ some k

theorem trackStale_unnamed {s : State} {k : Nat} (h : s.unnamedSlot k) : trackStale k s = s := by
  refine List.foldl_fixed' (fun sec => ?_) _
  unfold sectionStale
  cases hc : s.sectionAt sec with
  | none => simp [hc]
  | some c =>
    obtain ⟨hp, hb, hr⟩ := h sec c hc
    simp [hc, hp, hb, hr]

/-- R54: an owner that keeps what it holds. -/
theorem ownerStale_keeps {s : State} {o : Owner} {k : Nat} (h : o ≠ .pt ∨ s.unnamedSlot k) : ownerStale o k s = s := by
  cases o with
  | pt => exact trackStale_unnamed (h.resolve_left fun hn => hn rfl)
  | wm => rfl
  | sc => rfl
  | sp => rfl
  | sg => rfl
  | ss => rfl

/-- R54: a slot whose owner keeps what it holds is made STALE, no more. -/
theorem makeStale_eq {s : State} {k : Nat} (hc : s.wm.boardChange = none)
    (h : ∀ w, s.slotAt k = some w → w.owner ≠ .pt ∨ s.unnamedSlot k) :
    makeStale k s = s.adjustSlot k WatchEntry.staled := by
  unfold makeStale
  split
  · next hw => exact (adjustSlot_id fun w hw' => nomatch hw.symm.trans hw').symm
  · next w hw =>
    split
    · refine event_sameRecords ?_ hc rfl rfl rfl
      exact ownerStale_keeps (h w hw)
    · next hf =>
      refine (adjustSlot_id fun w' hw' => ?_).symm
      obtain rfl := Option.some.inj (hw.symm.trans hw')
      have : w.fresh = false := by simpa using hf
      rw [WatchEntry.staled, ← this]

/-! ### Stations (R55) -/

/-- R55: slots that are not the Path Tracker's, made STALE one after another. -/
theorem foldl_makeStale {l : List Nat} {s : State} (hc : s.wm.boardChange = none)
    (h : ∀ k ∈ l, ∀ w, s.slotAt k = some w → w.owner ≠ .pt) :
    l.foldl (fun s k => makeStale k s) s =
      s.withFr { s.fr with watch := l.foldl (fun ws k => adjust ws k WatchEntry.staled) s.fr.watch } := by
  induction l generalizing s with
  | nil => rfl
  | cons k l ih =>
    rw [List.foldl_cons, makeStale_eq hc fun w hw => .inl (h k (List.mem_cons_self ..) w hw)]
    refine (ih (s := s.adjustSlot k WatchEntry.staled) hc fun j hj w hw => ?_).trans rfl
    by_cases hk : j = k
    · subst hk
      cases hs : s.slotAt j with
      | none =>
        rw [adjustSlot_id fun w' hw' => absurd (hs.symm.trans hw') (by simp), hs] at hw
        exact absurd hw (by simp)
      | some v =>
        rw [slotAt_adjustSlot hs] at hw
        obtain rfl := Option.some.inj hw
        exact h j (List.mem_cons_self ..) v hs
    · rw [slotAt_adjustSlot_ne hk] at hw
      exact h j (List.mem_cons_of_mem _ hj) w hw

/-- A change made at every place of a list, where making it again changes nothing. -/
theorem lookup_foldl_adjust {α : Type} {f : α → α} (hf : ∀ a, f (f a) = f a) (l : List Nat) (ws : List (Option α)) (i : Nat) :
    (l.foldl (fun ws k => adjust ws k f) ws)[i]? = if i ∈ l then (ws[i]?).map (Option.map f) else ws[i]? := by
  have hstep (ws : List (Option α)) (k : Nat) :
      (adjust ws k f)[i]? = if i = k then (ws[i]?).map (Option.map f) else ws[i]? := by
    unfold adjust lookup
    by_cases hk : i = k
    · subst hk
      rcases hw : ws[i]? with _ | (_ | a)
      · simp [hw]
      · simp [hw]
      · have hi : i < ws.length := (List.getElem?_eq_some_iff.mp hw).1
        simp [hi]
    · split <;> simp [hk, List.getElem?_set_ne (Ne.symm hk)]
  induction l generalizing ws with
  | nil => simp
  | cons k l ih =>
    rw [List.foldl_cons, ih, hstep]
    have htwice (o : Option (Option α)) : (o.map (Option.map f)).map (Option.map f) = o.map (Option.map f) := by
      rcases o with _ | (_ | a)
      · rfl
      · rfl
      · exact congrArg (fun b => some (some b)) (hf a)
    by_cases hk : i = k
    · rw [if_pos hk, if_pos (List.mem_cons.mpr (.inl hk)), htwice, ite_self]
    · simp [hk]

/-- R55: the slots of a station that has become SUSPECT. -/
theorem suspectStep_staled {s : State} {k : Nat} {h : Health} (hh : s.healthAt k = some h) (ht : h.threshold ≠ 0)
    (hm : h.threshold ≤ h.missRun) (hs : h.suspect = false) (hlen : s.fr.watch.length ≤ 96)
    (hc : s.wm.boardChange = none) (howner : ∀ i w, s.slotAt i = some w → w.key.station.toNat = k → w.owner ≠ .pt) :
    let suspected := raiseNoPosition .stationSuspect (natWord k) (natWord h.missRun)
      (s.adjustHealth k (fun h => { h with suspect := true }))
    suspectStep k s = suspected.withFr { suspected.fr with
      watch := s.fr.watch.map (Option.map (fun w => if w.key.station.toNat = k then w.staled else w)) } := by
  intro suspected
  have hwatch : suspected.fr.watch = s.fr.watch := by
    simp only [suspected, raiseNoPosition, raise_fr, State.adjustHealth, hh, State.withFr_fr]
  have hslot (i : Nat) : suspected.slotAt i = s.slotAt i := congrArg (lookup · i) hwatch
  have hmem (i : Nat) : i ∈ stationSlots k suspected ↔ ∃ w, s.slotAt i = some w ∧ w.key.station.toNat = k := by
    unfold stationSlots
    rw [List.mem_filter, List.mem_range, hslot, Option_any_eq_true]
    simp only [beq_iff_eq, and_iff_right_iff_imp]
    rintro ⟨w, hw, -⟩
    exact lt_of_lt_of_le (List.getElem?_eq_some_iff.mp (lookup_eq_some.mp hw)).1 hlen
  have hstep : suspectStep k s = (stationSlots k suspected).foldl (fun s k => makeStale k s) suspected := by
    unfold suspectStep
    rw [hh]
    exact if_pos ⟨ht, hm, hs⟩
  have hchange : suspected.wm.boardChange = none := by
    simp only [suspected, raiseNoPosition, raise_wm, State.adjustHealth, hh, State.withFr_wm]
    exact hc
  rw [hstep, foldl_makeStale hchange fun i hi w hw => ?_]
  · refine congrArg (fun ws => suspected.withFr { suspected.fr with watch := ws }) (List.ext_getElem? fun i => ?_)
    rw [lookup_foldl_adjust (f := WatchEntry.staled) fun _ => rfl, List.getElem?_map, hwatch]
    rcases hw : s.fr.watch[i]? with _ | (_ | w)
    · simp
    · simp
    · have hat : s.slotAt i = some w := lookup_eq_some.mpr hw
      by_cases hk : w.key.station.toNat = k
      · have hi : i ∈ stationSlots k suspected := (hmem i).mpr ⟨w, hat, hk⟩
        simp [hi, hk]
      · have hi : i ∉ stationSlots k suspected := fun hi => by
          obtain ⟨v, hv, hvk⟩ := (hmem i).mp hi
          obtain rfl := Option.some.inj (hat.symm.trans hv)
          exact hk hvk
        simp [hi, hk]
  · obtain ⟨v, hv, hvk⟩ := (hmem i).mp hi
    obtain rfl := Option.some.inj (hv.symm.trans ((hslot i).symm.trans hw))
    exact howner i v hv hvk

/-- Settles O12, by whether the limit or the threshold has been reached. -/
theorem missesAreActedOn : Obligations.MissesAreActedOn := by
  refine ⟨fun k s w hw => ⟨fun hf hl hc ho => ?_, fun hn => ?_⟩, fun k s h hk1 hk2 hh =>
    ⟨fun hown ht hm hs hlen hc howner => ?_, fun hn => ?_⟩⟩
  · have hstep : staleStep k s = makeStale k s := by
      unfold staleStep
      rw [hw]
      exact if_pos (by simp [hf, hl])
    refine congrArg Host.Outcome.next (hstep.trans (makeStale_eq hc fun v hv => ?_))
    obtain rfl := Option.some.inj (hw.symm.trans hv)
    exact ho
  · refine congrArg Host.Outcome.next ?_
    unfold staleStep
    rw [hw]
    exact if_neg (by simpa using hn)
  · refine congrArg Host.Outcome.next ((if_pos ⟨hk1, hk2, hown⟩).trans ?_)
    exact suspectStep_staled hh ht hm hs hlen hc howner
  · have hstep : suspectStep k s = s ∨ k = s.fr.ownAddr.toNat := by
      rcases hn with hn | hn
      · exact .inr hn
      · refine .inl ?_
        unfold suspectStep
        rw [hh]
        refine if_neg fun hor => ?_
        obtain ⟨ht, hm, hs⟩ := hor
        rcases hn with hn | hn | hn
        · exact ht hn
        · exact absurd hm (Nat.not_le.mpr hn)
        · exact absurd (hs.symm.trans hn) Bool.false_ne_true
    refine congrArg Host.Outcome.next ?_
    rcases hstep with hstep | hstep
    · rw [hstep, ite_self]
    · exact if_neg fun hor => hor.2.2 hstep

/-! ### Commands that time out (R69, R70) -/

theorem adjustChannel_congr {s : State} {ch : Nat} {c : Channel} {f g : Channel → Channel} (hc : s.channelAt ch = some c)
    (h : f c = g c) : s.adjustChannel ch f = s.adjustChannel ch g := by
  unfold State.adjustChannel
  rw [hc]
  dsimp only
  rw [h]

theorem tellJob_none {s : State} {ch : Nat} {t : Told} (h : s.servesNoJob ch) : tellJob ch t s = s := by
  obtain ⟨hknife, hstacker, hweb, hstation⟩ := h
  unfold tellJob
  split
  · split
    · refine List.foldl_fixed' (fun i => if_neg ?_) _
      rw [Option_any_eq_true]
      rintro ⟨w, hw, hch⟩
      exact hweb i w hw (beq_iff_eq.mp hch)
    · refine List.foldl_fixed' (fun i => if_neg ?_) _
      rw [Option_any_eq_true]
      rintro ⟨x, hx, hch⟩
      exact hstation i x hx (beq_iff_eq.mp hch)
    · rfl
    · rfl
    · rfl
  · rfl

theorem timedOut_eq {x : Command} {sent sample : Word} {limit : Nat} (h : x.sendTime = some sent) :
    x.timedOut limit sample = (!x.accepted && decide (limit * 1000 ≤ (sample - sent).toNat)) := by
  unfold Command.timedOut
  rw [h]

theorem isOverdue_eq {x : Command} {acc sample : Word} {limit : Nat} (h : x.acceptTime = some acc) :
    x.isOverdue limit sample = (x.accepted && !x.overdue && decide (limit * 1000 ≤ (sample - acc).toNat)) := by
  unfold Command.isOverdue
  rw [h]

/-- R69: what a timeout step does while the command is due. -/
theorem timeoutStep_due {s : State} {ch : Nat} {tag : Half} {c : Channel} {x : Command} {sent : Word}
    (hr : s.mu.mode = .run) (hc : s.channelAt ch = some c) (hx : c.outstanding.find? (·.tag == tag) = some x)
    (ha : x.accepted = false) (hs : x.sendTime = some sent) (hd : c.acceptTimeout * 1000 ≤ (s.fr.sample - sent).toNat) :
    timeoutStep ch tag s =
      event (fun s => reportTimeout ch tag x.verb (tellJob ch (.timeout tag) (dropTimedOut ch tag s))) s := by
  have hdue : timeoutDue ch tag s = some x := by
    unfold timeoutDue
    rw [hc]
    dsimp only
    rw [hx, Option.filter_some]
    exact if_pos (by rw [State.running_iff.mpr hr, timedOut_eq hs, ha, decide_eq_true hd]; rfl)
  unfold timeoutStep
  rw [hdue]

theorem timeoutStep_early {s : State} {ch : Nat} {tag : Half} {c : Channel} {x : Command} {sent : Word}
    (hc : s.channelAt ch = some c) (hx : c.outstanding.find? (·.tag == tag) = some x)
    (hs : x.sendTime = some sent) (hd : (s.fr.sample - sent).toNat < c.acceptTimeout * 1000) : timeoutStep ch tag s = s := by
  have hdue : timeoutDue ch tag s = none := by
    unfold timeoutDue
    rw [hc]
    dsimp only
    rw [hx, Option.filter_some]
    exact if_neg (by rw [timedOut_eq hs, decide_eq_false (Nat.not_le.mpr hd), Bool.and_false, Bool.and_false]; exact Bool.false_ne_true)
  unfold timeoutStep
  rw [hdue]

/-- R69: the channel of a command that has timed out. -/
theorem dropTimedOut_eq (ch : Nat) (tag : Half) (s : State) : dropTimedOut ch tag s = s.adjustChannel ch (fun c =>
    ({ c with outstanding := c.outstanding.filter (·.tag != tag) } : Channel).promoted (translate s)) :=
  promote_adjustChannel ..

/-- R69: a timeout that no job is told of. -/
theorem timeoutStep_jobless {s : State} {ch : Nat} {tag : Half} {c : Channel} {x : Command} {sent : Word}
    {f : Channel → Channel} (hr : s.mu.mode = .run) (hc : s.channelAt ch = some c)
    (hx : c.outstanding.find? (·.tag == tag) = some x) (ha : x.accepted = false) (hs : x.sendTime = some sent)
    (hd : c.acceptTimeout * 1000 ≤ (s.fr.sample - sent).toNat) (hb : s.wm.boardChange = none) (hj : s.servesNoJob ch)
    (hf : ({ c with outstanding := c.outstanding.filter (·.tag != tag) } : Channel).promoted (translate s) = f c) :
    timeoutStep ch tag s = reportTimeout ch tag x.verb (s.adjustChannel ch f) := by
  have hdrop : dropTimedOut ch tag s = s.adjustChannel ch f :=
    (dropTimedOut_eq ch tag s).trans (adjustChannel_congr hc hf)
  have hnone : (s.adjustChannel ch f).servesNoJob ch := by
    simpa [State.servesNoJob, State.webAt, State.stationAt] using hj
  rw [timeoutStep_due hr hc hx ha hs hd]
  refine event_sameRecords ?_ ?_ ?_ ?_ ?_
  · rw [hdrop, tellJob_none hnone]
  all_goals simp [reportTimeout, hb]

/-- R70: an accepted command past its complete timeout. -/
theorem overdueStep_due {s : State} {ch : Nat} {tag : Half} {c : Channel} {x : Command} {acc : Word}
    (hr : s.mu.mode = .run) (hc : s.channelAt ch = some c) (hx : c.outstanding.find? (·.tag == tag) = some x)
    (ha : x.accepted = true) (ho : x.overdue = false) (ht : x.acceptTime = some acc)
    (hd : c.completeTimeout * 1000 ≤ (s.fr.sample - acc).toNat) : overdueStep ch tag s =
      raise .cmdOverdue (natWord ch) (natWord tag.toNat) (natWord x.verb.place) (s.adjustChannel ch (fun c =>
        { c with outstanding := c.outstanding.map (fun y => if y.tag == tag then { y with overdue := true } else y) })) := by
  unfold overdueStep
  rw [hc]
  dsimp only
  rw [hx]
  exact if_pos (by rw [State.running_iff.mpr hr, isOverdue_eq ht, ha, ho, decide_eq_true hd]; rfl)

/-- R70: a command that is overdue or not yet past its timeout stays as it is. -/
theorem overdueStep_idle {s : State} {ch : Nat} {tag : Half} {c : Channel} {x : Command} (hc : s.channelAt ch = some c)
    (hx : c.outstanding.find? (·.tag == tag) = some x) (hd : x.isOverdue c.completeTimeout s.fr.sample = false) :
    overdueStep ch tag s = s := by
  unfold overdueStep
  rw [hc]
  dsimp only
  rw [hx]
  exact if_neg (by simp [hd])

/-- The command of a tag after all commands of that tag have been changed. -/
theorem find_tag_map {l : List Command} {tag : Half} {x : Command} {f : Command → Command} (hf : ∀ y, (f y).tag = y.tag)
    (h : l.find? (·.tag == tag) = some x) :
    (l.map (fun y => if y.tag == tag then f y else y)).find? (·.tag == tag) = some (f x) := by
  have htag : ((fun y : Command => y.tag == tag) ∘ fun y => if y.tag == tag then f y else y) = fun y => y.tag == tag := by
    funext y
    simp only [Function.comp]
    split <;> simp [hf]
  have hx : (x.tag == tag) = true := List.find?_some (p := fun y : Command => y.tag == tag) h
  rw [List.find?_map, htag, h, Option.map_some, if_pos hx]

/-- Settles O13, by whether the command has been accepted and its time has come. -/
theorem commandTimesOutOrOverdue : Obligations.CommandTimesOutOrOverdue := by
  intro ch tag s c x hr hc hx
  refine ⟨?_, fun acc ha ho ht => ⟨fun hd => ?_, fun hd => ?_⟩⟩
  · intro sent ha hs hb rest timedOut
    refine ⟨fun hj hd => ⟨fun hp => ?_, fun p hp hroom => ?_⟩, fun hd => ?_⟩
    · refine congrArg Host.Outcome.next (timeoutStep_jobless hr hc hx ha hs hd hb hj ?_)
      simp only [Channel.promoted, hp]
      rfl
    · refine congrArg Host.Outcome.next (timeoutStep_jobless hr hc hx ha hs hd hb hj ?_)
      simp only [Channel.promoted, hp]
      exact if_pos hroom
    · exact congrArg Host.Outcome.next (timeoutStep_early hc hx hs hd)
  · have hstep := overdueStep_due hr hc hx ha ho ht hd
    refine ⟨_, congrArg Host.Outcome.next hstep, congrArg Host.Outcome.next ?_, rfl⟩
    refine overdueStep_idle (c := { c with outstanding := c.outstanding.map (fun y =>
      if y.tag == tag then { y with overdue := true } else y) }) (x := { x with overdue := true }) ?_ ?_ ?_
    · unfold State.channelAt
      rw [raise_ccu]
      exact channelAt_adjustChannel hc
    · exact find_tag_map (f := fun y => { y with overdue := true }) (fun _ => rfl) hx
    · exact (isOverdue_eq (x := { x with overdue := true }) ht).trans (by simp)
  · refine congrArg Host.Outcome.next (overdueStep_idle hc hx ?_)
    rw [isOverdue_eq ht, decide_eq_false (Nat.not_le.mpr hd), Bool.and_false]

end Sys2Proof.Machine

/-! Splice counts and jobs told of a timeout (R109, R111, R112, R123, R139, R148, R149). -/
namespace Sys2Proof.Machine

/-! ### Splice counts (R111, R112) -/

theorem raise_events_room {k : EventKind} {a b c : Word} {s : State} (h : s.mu.events.length < Config.eventCapacity) :
    (raise k a b c s).mu.events = s.mu.events ++ [⟨k, a, b, c, s.fr.cycle⟩] := by
  unfold raise
  rw [if_pos h]
  rfl

/-- R22: a mark entered on the list of its section, where no change is announced. -/
def State.entered (s : State) (m : Mark) : State :=
  (listMark m s).withWm { (listMark m s).wm with nextSerial := serialAfter s.wm.nextSerial }

/-- R22, R28: a mark created with room, outside BOARD. -/
theorem createMark_room {q : CreateRequest} {s : State} (hroom : Config.boundaryLimit - s.boundaryCount < s.freeCount)
    (hb : s.isBoard q.sec = false) : (createMark q s).1 = s.entered (requestedMark q s) := by
  unfold createMark
  dsimp only
  rw [if_pos hroom]
  unfold enterMark noteChange
  exact if_neg fun h => Bool.false_ne_true (hb.symm.trans h)

theorem mapAt_entered {s : State} {m : Mark} (h : m.sec < s.wm.maps.length) :
    (s.entered m).mapAt m.sec = { s.mapAt m.sec with marks := insertMark m (s.mapAt m.sec).marks } :=
  (mapAt_adjustMap (f := fun c => { c with marks := insertMark m c.marks }) h).trans (if_pos rfl)

/-- R111: an unsolicited splice of a web with no plan, where the pool has room. -/
theorem spliceUnplanned_idle {i : Nat} {w : Web} {a : Word} {s : State} (hp : w.st.plan = none)
    (ht : w.st.spliceTag = none) (hr : w.st.prepareTag = none) (hm : w.st.mark = none)
    (hroom : Config.boundaryLimit - s.boundaryCount < s.freeCount) (hb : s.isBoard w.cfg.sec = false) :
    spliceUnplanned i w a s =
      (raise .spliceUnplanned (natWord i) a 0
        (s.entered (requestedMark (spliceRequest i w a 0 .confirmed) s))).adjustWeb i (fun x =>
          ({ x with settledTag := x.spliceTag <|> x.settledTag } : WebState).spliceTaken w.cfg.k0 s.fr.cycle) := by
  have hzero : natWord 0 = 0 := natWord_eq (n := 0) (by decide)
  have hplace : placeMark (spliceRequest i w a 0 .confirmed) s = s.entered (requestedMark (spliceRequest i w a 0 .confirmed) s) :=
    createMark_room hroom hb
  unfold spliceUnplanned cancelTags deleteCreated
  rw [hp, ht, hr, hm, hplace]
  dsimp only
  rw [adjustWeb_adjustWeb, hzero, State.adjustWeb_fr, raise_fr]
  rfl

/-- R112: the state of a web whose splice count has been taken. -/
def WebState.counted (x : WebState) (k0 : Nat) (cycle : Half) (n : Half) : WebState :=
  { ({ x with settledTag := x.spliceTag <|> x.settledTag } : WebState).spliceTaken k0 cycle with
    accounted := some n, countWait := 0 }

/-- R112: a count taken with no plan. -/
theorem takeFromCount_idle {i slot : Nat} {w : Web} {s : State} (hmode : s.mu.mode = .run) (hw : s.webAt i = some w)
    (hslot : w.cfg.countSlot = some slot) (hwait : 3 ≤ w.st.countWait) (hp : w.st.plan = none)
    (ht : w.st.spliceTag = none) (hr : w.st.prepareTag = none) (hm : w.st.mark = none)
    (hroom : Config.boundaryLimit - s.boundaryCount < s.freeCount) (hb : s.isBoard w.cfg.sec = false) :
    let a := toTrack s w.cfg.posRole (s.slotValue slot)
    takeFromCount i s = (raise .spliceUnplanned (natWord i) a 0
      (s.entered (requestedMark (spliceRequest i w a 0 .confirmed) s))).adjustWeb i (fun x =>
        x.counted w.cfg.k0 s.fr.cycle ((s.slotAux slot).truncate 16)) := by
  intro a
  unfold takeFromCount
  rw [hw]
  dsimp only
  rw [hslot, State.running_iff.mpr hmode, hp]
  dsimp only
  rw [if_pos (by simpa using hwait), spliceUnplanned_idle hp ht hr hm hroom hb, adjustWeb_adjustWeb]
  have haux : ((raise .spliceUnplanned (natWord i) a 0
      (s.entered (requestedMark (spliceRequest i w a 0 .confirmed) s))).adjustWeb i (fun x =>
        ({ x with settledTag := x.spliceTag <|> x.settledTag } : WebState).spliceTaken w.cfg.k0 s.fr.cycle)).slotAux slot =
      s.slotAux slot := by
    unfold State.slotAux State.slotAt
    rw [State.adjustWeb_fr, raise_fr]
    rfl
  rw [haux]
  rfl

/-- Settles O15, by how long the count has waited. -/
theorem spliceCountIsTaken : Obligations.SpliceCountIsTaken := by
  intro i w slot s hmode hw hslot hc
  refine ⟨fun hwait hp ht hr hm hb hsec hev hroom => ?_, fun hwait => ?_⟩
  · have htake := takeFromCount_idle hmode hw hslot hwait hp ht hr hm hroom hb
    generalize ha : toTrack s w.cfg.posRole (s.slotValue slot) = a at htake ⊢
    have hend : event (takeFromCount i) s = _ := event_sameRecords htake
      (by rw [State.adjustWeb_wm, raise_wm]; exact hc) (by rw [State.adjustWeb_pt, raise_pt]; rfl)
      (by rw [State.adjustWeb_op, raise_op]; rfl) (by rw [State.adjustWeb_cp, raise_cp]; rfl)
    refine ⟨_, _, congrArg Host.Outcome.next hend, webAt_adjustWeb (w := w) ?_, rfl, rfl, rfl, rfl, rfl, rfl, rfl, rfl,
      rfl, ?_, ?_⟩
    · unfold State.webAt
      rw [raise_sc]
      exact hw
    · have hmap := mapAt_entered (s := s) (m := requestedMark (spliceRequest i w a 0 .confirmed) s) hsec
      unfold State.mapAt at hmap ⊢
      rw [State.adjustWeb_wm, raise_wm]
      exact congrArg SectionMap.marks hmap
    · rw [State.adjustWeb_mu, raise_events_room (s := s.entered _) hev]
      rfl
  · refine congrArg Host.Outcome.next (event_sameRecords ?_ hc rfl rfl rfl)
    unfold takeFromCount
    rw [hw]
    dsimp only
    rw [hslot]
    exact if_neg (by simp; omega)

end Sys2Proof.Machine

/-! Faults of a slitter station (R121, R123), and what the end of an event leaves of them. -/
namespace Sys2Proof.Machine

/-! ### The end of an event -/

/-- A property that any swap keeps survives the end of an event when commits keep it. -/
theorem SwapSteps.settles {P : State → Prop} (c : SwapSteps P) (hc : ∀ {s x}, Commits s.op x → P s → P (s.withOp x)) :
    SettleSteps P :=
  { c with on_commits := hc, on_createSwap := fun _ h => c.on_createSwap h }

/-- Events once raised stay in their place while further ones are raised. -/
theorem prefix_raise {l : List Event} {k : EventKind} {a b d : Word} {s : State} (h : l <+: s.mu.events) :
    l <+: (raise k a b d s).mu.events := by
  unfold raise
  split
  · exact h.trans (List.prefix_append _ _)
  · exact h

theorem steps_events (l : List Event) : Steps (fun t => l <+: t.mu.events) where
  on_raise := prefix_raise
  on_wm h := h
  on_sc h := h
  on_sp h := h
  on_sg h := h
  on_ss h := h
  on_ccu _ h := h
  on_cp _ h := h

theorem prefix_cons {l m : List Event} {e : Event} (h : l ++ [e] <+: m) : ∃ later, m = l ++ e :: later := by
  obtain ⟨later, hl⟩ := h
  exact ⟨later, by simpa using hl.symm⟩

/-! ### A repetition of which one step acts -/

theorem foldl_single {α β : Type} {g : β → α → β} {s : β} {i : α} {l : List α} (hl : l.Nodup) (hi : i ∈ l)
    (hbefore : ∀ j ≠ i, g s j = s) (hafter : ∀ j ≠ i, g (g s i) j = g s i) : l.foldl g s = g s i := by
  have hrest (m : List α) (hm : i ∉ m) : m.foldl g (g s i) = g s i := by
    induction m with
    | nil => rfl
    | cons j m ih =>
      have hj : i ≠ j := fun h => hm (h ▸ List.mem_cons_self ..)
      have hm : i ∉ m := fun h => hm (List.mem_cons_of_mem _ h)
      rw [List.foldl_cons, hafter j (Ne.symm hj), ih hm]
  induction l with
  | nil => nomatch hi
  | cons j m ih =>
    obtain ⟨hj, hm⟩ := List.nodup_cons.mp hl
    rw [List.foldl_cons]
    by_cases hji : j = i
    · subst hji
      exact hrest m hj
    · rw [hbefore j hji]
      exact ih hm ((List.mem_cons.mp hi).resolve_left (Ne.symm hji))

/-! ### Stations that a fault leaves alone -/

theorem placeMark_sp (q : CreateRequest) (s : State) : (placeMark q s).sp = s.sp := (createMark_frame q s).2.2.1

theorem coverZone_stations (cause : ZoneCause) (p : Word) (s : State) :
    (coverZone cause p s).sp.stations = s.sp.stations := by
  unfold coverZone
  split
  · rfl
  · show (placeMark _ s).sp.stations = _
    rw [placeMark_sp]

theorem startCover_stations (p : Word) (s : State) : (startCover p s).sp.stations = s.sp.stations := by
  unfold startCover coverStep
  split
  · rfl
  · split
    · split
      · exact coverZone_stations ..
      · rfl
    · rfl

theorem swapEndCheck_stations (s : State) : (swapEndCheck s).sp.stations = s.sp.stations := by
  unfold swapEndCheck
  split
  · rfl
  · split
    · rw [raise_sp]
      rfl
    · rfl

theorem makeLate_stations (s : State) : (makeLate s).sp.stations = s.sp.stations := by
  unfold makeLate
  split
  · rfl
  · rw [startCover_stations, raise_sp]
    rfl

theorem faultOnSwap_stations (i : Nat) (s : State) : (faultOnSwap i s).sp.stations = s.sp.stations := by
  unfold faultOnSwap
  split
  · rfl
  · split
    · split
      · exact makeLate_stations s
      · rfl
    · split
      · exact swapEndCheck_stations _
      · rfl

/-! ### The fault (R123) -/

theorem adjustChannel_eq_withCcu (ch : Nat) (f : Channel → Channel) (s : State) :
    ∃ u, s.adjustChannel ch f = s.withCcu u := by
  unfold State.adjustChannel
  split
  · exact ⟨_, rfl⟩
  · exact ⟨s.ccu, rfl⟩

/-- R68: a cancel changes the records of the command channels alone. -/
theorem cancelOwn_eq (ch : Nat) (tag : Half) (s : State) : ∃ u, cancelOwn ch tag s = s.withCcu u := by
  unfold cancelOwn cancelCommand
  split
  · exact ⟨s.ccu, rfl⟩
  · split
    · exact adjustChannel_eq_withCcu ..
    · split
      · exact adjustChannel_eq_withCcu ..
      · exact ⟨s.ccu, rfl⟩

/-- R123: a station in FAULT. -/
def Slitter.faulted (x : Slitter) : Slitter := { x with state := .fault, atRisk := x.state == .engaged, live := none }

theorem createMark_quiet {q : CreateRequest} {s : State} (hroom : Config.boundaryLimit - s.boundaryCount < s.freeCount) :
    (createMark q s).1.mu = s.mu ∧ (createMark q s).1.fr = s.fr := by
  unfold createMark enterMark noteChange
  dsimp only
  rw [if_pos hroom]
  dsimp only
  split <;> exact ⟨rfl, rfl⟩

/-- R123: a station's fault: its live command is cancelled, the station and the zone made, the event raised; then the
cover run and the swap follow. -/
theorem stationFault_eq {i : Nat} (v : Int) {s : State} {x : Slitter} {b : Nat} (hx : s.stationAt i = some x)
    (hb : s.boardIndex = some b) : ∃ u w q p, w = (s.withCcu u).adjustStation i (fun y =>
      { y with state := .fault, atRisk := x.state == .engaged, live := none }) ∧
      let r := raise .slitterFault (natWord i) (materialAtStation i w) (wordOf v) (placeMark q w)
      stationFault i v s = faultOnSwap i (if x.state == .engaged then startCover p r else r) := by
  unfold stationFault
  rw [hx, hb]
  dsimp only
  cases x.live with
  | none => exact ⟨s.ccu, _, _, _, rfl, rfl⟩
  | some l =>
    obtain ⟨u, hu⟩ := cancelOwn_eq x.cfg.channel l.tag s
    dsimp only
    rw [hu]
    exact ⟨u, _, _, _, rfl, rfl⟩

/-- R123: what a fault leaves, with room in the pool and the event queue. -/
theorem stationFault_spec {i : Nat} {v : Int} {s : State} {x : Slitter} {b : Nat} (hx : s.stationAt i = some x)
    (hb : s.boardIndex = some b) (hev : s.mu.events.length < Config.eventCapacity)
    (hroom : Config.boundaryLimit - s.boundaryCount < s.freeCount) :
    (stationFault i v s).sp.stations = s.sp.stations.set i (some x.faulted) ∧
      s.mu.events ++ [⟨.slitterFault, natWord i, materialAtStation i s, wordOf v, s.fr.cycle⟩] <+:
        (stationFault i v s).mu.events := by
  obtain ⟨u, w, q, p, hw, hfault⟩ := stationFault_eq v hx hb
  dsimp only at hfault
  rw [hfault]
  have hset : w.sp.stations = s.sp.stations.set i (some x.faulted) := by
    rw [hw]
    unfold State.adjustStation adjust
    rw [show lookup (s.withCcu u).sp.stations i = some x from hx]
    rfl
  have hmat : materialAtStation i w = materialAtStation i s := by
    rw [hw]
    rfl
  have hwmu : w.mu = s.mu ∧ w.fr = s.fr ∧ w.wm = s.wm := by
    rw [hw]
    exact ⟨rfl, rfl, rfl⟩
  obtain ⟨hmu, hfr, hwm⟩ := hwmu
  have hwroom : Config.boundaryLimit - w.boundaryCount < w.freeCount := by
    simpa [State.boundaryCount, State.freeCount, State.markCount, State.allMarks, hwm] using hroom
  rw [hmat]
  generalize hq : placeMark q w = z
  have hz : z.mu = s.mu ∧ z.fr = s.fr ∧ z.sp = w.sp := by
    rw [← hq]
    obtain ⟨h1, h2⟩ := createMark_quiet (q := q) hwroom
    exact ⟨h1.trans hmu, h2.trans hfr, placeMark_sp q w⟩
  obtain ⟨hzmu, hzfr, hzsp⟩ := hz
  have hraised : (raise .slitterFault (natWord i) (materialAtStation i s) (wordOf v) z).mu.events =
      s.mu.events ++ [⟨.slitterFault, natWord i, materialAtStation i s, wordOf v, s.fr.cycle⟩] := by
    rw [raise_events_room (by rw [hzmu]; exact hev), hzmu, hzfr]
  have hsp : (raise .slitterFault (natWord i) (materialAtStation i s) (wordOf v) z).sp.stations =
      s.sp.stations.set i (some x.faulted) := by
    rw [raise_sp, hzsp, hset]
  generalize raise .slitterFault (natWord i) (materialAtStation i s) (wordOf v) z = r at hraised hsp
  have hpre : s.mu.events ++ [⟨.slitterFault, natWord i, materialAtStation i s, wordOf v, s.fr.cycle⟩] <+: r.mu.events :=
    hraised ▸ List.prefix_refl _
  refine ⟨?_, ?_⟩
  · rw [faultOnSwap_stations]
    split
    · rw [startCover_stations, hsp]
    · exact hsp
  · refine (steps_events _).on_faultOnSwap ?_
    split
    · exact (steps_events _).on_startCover hpre
    · exact hpre

/-- R123: a station stays in FAULT, and the events as raised, at the end of an event. -/
theorem settleSteps_fault {i : Nat} {z : Slitter} {l : List Event} (hi : i ≤ 1) (hz : z.state = .fault) :
    SettleSteps (fun t => t.stationAt i = some z ∧ l <+: t.mu.events) where
  on_raise h := ⟨by unfold State.stationAt; rw [raise_sp]; exact h.1, prefix_raise h.2⟩
  on_wm h := h
  on_sc h := h
  on_ss h := h
  on_commands _ h := h
  on_plan _ h := h
  on_commits _ h := h
  on_createSwap hs h := by
    obtain ⟨hat, -⟩ := h
    have hfault : ∀ {s : State}, s.stationAt i = some z → (s.stationIs 0 .fault || s.stationIs 1 .fault) = true := by
      intro s hat
      have his : s.stationIs i .fault = true := by simp [State.stationIs, hat, hz]
      have hi : i = 0 ∨ i = 1 := by omega
      rcases hi with rfl | rfl <;> simp [his]
    rw [State.pairState, if_pos (hfault hat)] at hs
    cases hs

end Sys2Proof.Machine

/-! Jobs told of a timeout (R109, R123, R139, R148, R149). -/
namespace Sys2Proof.Machine

/-- A property of what an event's action leaves, at its end. -/
theorem SettleSteps.on_eventEnd {P : State → Prop} (c : SettleSteps P) {f : State → State} {s : State} (h : P (f s)) :
    P (event f s) := c.on_settle h

/-! ### The job of a channel (R69) -/

section
variable {s : State} {ch : Nat} {c : Channel} {t : Told} (hr : s.mu.mode = .run) (hc : s.channelAt ch = some c)
include hr hc

/-- The splicer's channel: one web alone is told. -/
theorem tellJob_web {i : Nat} (hcls : c.cls = some .splicer) (hi : i ≤ 5)
    (hat : (s.webAt i).any (·.cfg.channel == ch) = true)
    (hother : ∀ j ≠ i, (s.webAt j).any (·.cfg.channel == ch) = false)
    (hleft : ∀ j ≠ i, ((splicerTold i t s).webAt j).any (·.cfg.channel == ch) = false) :
    tellJob ch t s = splicerTold i t s := by
  unfold tellJob
  rw [if_pos (State.running_iff.mpr hr), hc, Option.bind_some, hcls]
  have hact : (if (s.webAt i).any (·.cfg.channel == ch) = true then splicerTold i t s else s) = splicerTold i t s :=
    if_pos hat
  refine (foldl_single List.nodup_range (List.mem_range.mpr (by omega)) (fun j hj => ?_) (fun j hj => ?_)).trans hact
  · exact if_neg (by rw [hother j hj]; exact Bool.false_ne_true)
  · rw [hact]
    exact if_neg (by rw [hleft j hj]; exact Bool.false_ne_true)

/-- A slitter station's channel: one station alone is told. -/
theorem tellJob_station {i : Nat} (hcls : c.cls = some .slitter) (hi : i ≤ 1)
    (hat : (s.stationAt i).any (·.cfg.channel == ch) = true)
    (hother : ∀ j ≠ i, (s.stationAt j).any (·.cfg.channel == ch) = false)
    (hleft : ∀ j ≠ i, ((slitterTold i t s).stationAt j).any (·.cfg.channel == ch) = false) :
    tellJob ch t s = slitterTold i t s := by
  unfold tellJob
  rw [if_pos (State.running_iff.mpr hr), hc, Option.bind_some, hcls]
  have hact : (if (s.stationAt i).any (·.cfg.channel == ch) = true then slitterTold i t s else s) = slitterTold i t s :=
    if_pos hat
  refine (foldl_single List.nodup_range (List.mem_range.mpr (by omega)) (fun j hj => ?_) (fun j hj => ?_)).trans hact
  · exact if_neg (by rw [hother j hj]; exact Bool.false_ne_true)
  · rw [hact]
    exact if_neg (by rw [hleft j hj]; exact Bool.false_ne_true)

theorem tellJob_knife (hcls : c.cls = some .knife) (hk : s.cp.knife = some ch) : tellJob ch t s = knifeTold t s := by
  unfold tellJob
  rw [if_pos (State.running_iff.mpr hr), hc, Option.bind_some, hcls]
  exact if_pos hk

theorem tellJob_stacker (hcls : c.cls = some .stacker) (hk : s.sg.channel = some ch) :
    tellJob ch t s = stackerTold t s := by
  unfold tellJob
  rw [if_pos (State.running_iff.mpr hr), hc, Option.bind_some, hcls]
  exact if_pos hk

end

/-! ### The command that has timed out -/

/-- R69: with nothing pending the command leaves its list, no more. -/
theorem dropTimedOut_alone {s : State} {ch : Nat} {tag : Half} {c : Channel} (hc : s.channelAt ch = some c)
    (hp : c.pend = none) : dropTimedOut ch tag s =
      s.adjustChannel ch (fun c => { c with outstanding := c.outstanding.filter (·.tag != tag) }) := by
  refine (dropTimedOut_eq ch tag s).trans (adjustChannel_congr hc ?_)
  unfold Channel.promoted
  rw [hp]

/-- R69: a timeout that leaves path, orders, plan and BOARD list as they were. -/
theorem timeoutStep_told {s u : State} {ch : Nat} {tag : Half} {c : Channel} {x : Command} {sent : Word}
    (hr : s.mu.mode = .run) (hc : s.channelAt ch = some c) (hx : c.outstanding.find? (·.tag == tag) = some x)
    (ha : x.accepted = false) (hs : x.sendTime = some sent) (hd : c.acceptTimeout * 1000 ≤ (s.fr.sample - sent).toNat)
    (hu : tellJob ch (.timeout tag) (dropTimedOut ch tag s) = u) (hb : u.wm.boardChange = none)
    (hpt : u.pt = s.pt) (hop : u.op = s.op) (hcp : u.cp = s.cp) :
    timeoutStep ch tag s = reportTimeout ch tag x.verb u := by
  rw [timeoutStep_due hr hc hx ha hs hd]
  refine event_sameRecords (by rw [hu]) ?_ ?_ ?_ ?_
  all_goals simp [reportTimeout, hb, hpt, hop, hcp]

/-! ### A splice (R109) -/

/-- R109: a plan without a mark, not a GRADE splice, ends with SPLICE_REFUSED. -/
theorem splicerTold_timeout {s : State} {i : Nat} {tag : Half} {w : Web} {p : SplicePlan} (hw : s.webAt i = some w)
    (ht : w.st.spliceTag = some tag) (hp : w.st.plan = some p) (hk : p.kind ≠ .grade) (hm : w.st.mark = none)
    (hreel : w.st.reelKnown = false) : splicerTold i (.timeout tag) s =
      (raise .spliceRefused (natWord i) p.target 2 s).adjustWeb i WebState.endPlan := by
  have htwo : wordOf 2 = 2 := natWord_eq (n := 2) (by decide)
  have hraised : (match p.kind with
      | .grade => raise .gradeSpliceFailed (natWord i) (p.boundary.getD p.target) (wordOf 2)
        (placeMark (failZoneRequest w (p.boundary.getD p.target) w.cfg.failZone) s)
      | _ => raise .spliceRefused (natWord i) p.target (wordOf 2) s) = raise .spliceRefused (natWord i) p.target 2 s := by
    rw [htwo]
    cases hkind : p.kind with
    | grade => exact absurd hkind hk
    | runout => rfl
    | operator => rfl
  have hidle : evaluateWeb i ((raise .spliceRefused (natWord i) p.target 2 s).adjustWeb i WebState.endPlan) =
      (raise .spliceRefused (natWord i) p.target 2 s).adjustWeb i WebState.endPlan := by
    have hat : ((raise .spliceRefused (natWord i) p.target 2 s).adjustWeb i WebState.endPlan).webAt i =
        some { w with st := w.st.endPlan } := by
      refine webAt_adjustWeb ?_
      unfold State.webAt
      rw [raise_sc]
      exact hw
    unfold evaluateWeb
    rw [hat]
    exact if_neg (by simp [WebState.endPlan, hreel])
  have hfailed : spliceFailed i w p 2 s =
      (raise .spliceRefused (natWord i) p.target 2 s).adjustWeb i WebState.endPlan := by
    unfold spliceFailed deleteCreated
    rw [hm]
    refine Eq.trans ?_ hidle
    exact congrArg (fun u : State => evaluateWeb i (u.adjustWeb i WebState.endPlan)) hraised
  unfold splicerTold
  rw [hw]
  dsimp only
  unfold splicerFailed
  rw [if_pos ht, hp]
  exact hfailed

/-! ### A stacker command (R148, R149) -/

/-- R148: with no drop owed none is issued. -/
theorem issueDrops_idle {s : State} (h : s.sg.owed = none) : issueDrops s = s := by
  have hdrop : issueDrop s = (s, false) := by
    unfold issueDrop
    rw [h]
  unfold issueDrops dropStep
  rw [hdrop]
  rfl

theorem stackerTold_timeout {s : State} {tag : Half} {k : StackerCommand} (hk : s.sg.cmds.find? (·.tag == tag) = some k)
    (ho : s.sg.owed = none) : stackerTold (.timeout tag) s = stackerFailed k 2 0 (dropRecord tag s) := by
  have hend : endStacker tag (fun c s => stackerFailed c 2 0 s) s = stackerFailed k 2 0 (dropRecord tag s) := by
    unfold endStacker
    rw [hk]
  show issueDrops (endStacker tag (fun c s => stackerFailed c 2 0 s) s) = _
  rw [hend]
  refine issueDrops_idle ?_
  unfold stackerFailed
  split
  · rw [raise_sg]
    exact ho
  · rw [raise_sg]
    exact ho

/-! ### A cut (R139) -/

theorem record_of_answers {u v : Channels} {i : Nat} {x : Channel}
    (h : v.records.map (fun c => (c.recent, c.fault)) = u.records.map (fun c => (c.recent, c.fault)))
    (hx : u.records[i]? = some x) : ∃ y, v.records[i]? = some y ∧ y.recent = x.recent ∧ y.fault = x.fault := by
  have hmap := congrArg (fun l => l[i]?) h
  simp only [List.getElem?_map, hx, Option.map_some] at hmap
  obtain ⟨y, hy, hsame⟩ := Option.map_eq_some_iff.mp hmap
  exact ⟨y, hy, congrArg Prod.fst hsame, congrArg Prod.snd hsame⟩

theorem CommandChange.record {u v : Channels} {i : Nat} {x : Channel} (h : CommandChange u v)
    (hx : u.records[i]? = some x) : ∃ y, v.records[i]? = some y ∧ y.recent = x.recent ∧ y.fault = x.fault :=
  record_of_answers h.answers hx

/-- R139: what a missed cut leaves: its event, front fault, and the channel in FAULT or not. -/
def CutFaulted (l : List Event) (ch : Nat) (v : Bool) (t : State) : Prop :=
  l <+: t.mu.events ∧ t.cp.frontFault = true ∧ ∃ d, t.channelAt ch = some d ∧ d.fault = v

theorem swapSteps_cutFaulted (l : List Event) (ch : Nat) (v : Bool) : SwapSteps (CutFaulted l ch v) where
  on_raise h := by
    obtain ⟨hl, hf, d, hd, hv⟩ := h
    refine ⟨prefix_raise hl, by rw [raise_cp]; exact hf, d, ?_, hv⟩
    unfold State.channelAt
    rw [raise_ccu]
    exact hd
  on_wm h := h
  on_sc h := h
  on_ss h := h
  on_sp h := h
  on_commands hx h := by
    obtain ⟨hl, hf, d, hd, hv⟩ := h
    obtain ⟨y, hy, -, hfault⟩ := hx.record hd
    exact ⟨hl, hf, y, hy, hfault.trans hv⟩
  on_plan hx h := by
    obtain ⟨hl, hf, hd⟩ := h
    exact ⟨hl, hx.fault hf, hd⟩

theorem settleSteps_cutFaulted (l : List Event) (ch : Nat) (v : Bool) : SettleSteps (CutFaulted l ch v) :=
  (swapSteps_cutFaulted l ch v).settles fun _ h => h

theorem sentPlace_head {e : CutEntry} {rest : List CutEntry} {tag : Half} (h : e.sent = some tag) :
    sentPlace tag (e :: rest) = some 0 := by
  unfold sentPlace firstIndex
  rw [List.length_cons, List.range_succ_eq_map]
  exact List.find?_cons_of_pos (by simp [h])

/-- R139: the head of the plan is missed. -/
theorem knifeTold_timeout {s : State} {tag : Half} {ch : Nat} {e : CutEntry} {rest : List CutEntry} {c : Channel}
    (hc : s.channelAt ch = some c) (hp : s.cp.plan = e :: rest) (he : e.sent = some tag)
    (hev : s.mu.events.length < Config.eventCapacity) :
    CutFaulted (s.mu.events ++ [⟨.cutMissed, natWord tag.toNat, e.target, 3, s.fr.cycle⟩]) ch c.fault
      (knifeTold (.timeout tag) s) := by
  have hthree : wordOf 3 = 3 := natWord_eq (n := 3) (by decide)
  have htag : e.tagWord = natWord tag.toNat := by
    unfold CutEntry.tagWord
    rw [he]
  have hmissed : missHead 3 s = raise .cutMissed (natWord tag.toNat) e.target 3
      (s.withCp { s.cp with plan := rest, base := some e.target, frontFault := true }) := by
    unfold missHead
    rw [hp, ← htag, ← hthree]
  have htold : knifeTold (.timeout tag) s = planAndFeed (missHead 3 s) := by
    show cutFailed tag 3 s = _
    unfold cutFailed
    rw [hp, sentPlace_head he]
    rfl
  rw [htold, hmissed]
  refine (swapSteps_cutFaulted ..).on_planAndFeed ⟨?_, ?_, c, ?_, rfl⟩
  · rw [raise_events_room (by exact hev)]
    exact List.prefix_refl _
  · rw [raise_cp]
    rfl
  · unfold State.channelAt
    rw [raise_ccu]
    exact hc

/-- R69: CMD_TIMEOUT and the channel's FAULT. -/
theorem reportTimeout_cutFaulted {l : List Event} {ch : Nat} {v : Bool} {tag : Half} {verb : Verb} {s : State}
    (h : CutFaulted l ch v s) : CutFaulted l ch true (reportTimeout ch tag verb s) := by
  obtain ⟨hl, hf, d, hd, -⟩ := (swapSteps_cutFaulted l ch v).on_raise (k := .cmdTimeout) (a := natWord ch)
    (b := natWord tag.toNat) (d := natWord verb.place) h
  unfold reportTimeout
  refine ⟨by rw [State.adjustChannel_mu]; exact hl, by rw [State.adjustChannel_cp]; exact hf, _,
    channelAt_adjustChannel hd, rfl⟩

/-! ### The statement -/

/-- Settles O14, by the job that the channel serves. -/
theorem timeoutToldToTheJob : Obligations.TimeoutToldToTheJob := by
  intro ch tag s c x sent hr hc hx ha hs hd hb hp dropped reported
  have hdrop : dropTimedOut ch tag s = dropped := dropTimedOut_alone hc hp
  have hat : dropped.channelAt ch = some { c with outstanding := c.outstanding.filter (·.tag != tag) } :=
    channelAt_adjustChannel hc
  have hmode : dropped.mu.mode = .run := by
    rw [State.adjustChannel_mu]
    exact hr
  have hevents : dropped.mu = s.mu := State.adjustChannel_mu ..
  have hfr : dropped.fr = s.fr := State.adjustChannel_fr ..
  have hstep := timeoutStep_due hr hc hx ha hs hd
  refine ⟨?_, ?_, ?_, ?_⟩
  · intro i w p hcls hi hw hch hone ht hplan hk hm hreel
    have hwebs : dropped.webAt = s.webAt := by
      unfold State.webAt
      rw [State.adjustChannel_sc]
    have htold := splicerTold_timeout (s := dropped) (hwebs ▸ hw) ht hplan hk hm hreel
    have hothers (j : Nat) (hj : j ≠ i) : (s.webAt j).any (·.cfg.channel == ch) = false :=
      Option_any_eq_false fun v hv => by simpa using fun h => hj (hone j v hv h)
    have hjob : tellJob ch (.timeout tag) dropped = splicerTold i (.timeout tag) dropped := by
      refine tellJob_web hmode hat hcls hi ?_ (fun j hj => ?_) fun j hj => ?_
      · rw [hwebs, hw]
        simpa using hch
      · rw [hwebs]
        exact hothers j hj
      · rw [htold]
        have : ((raise .spliceRefused (natWord i) p.target 2 dropped).adjustWeb i WebState.endPlan).webAt j = s.webAt j := by
          unfold State.webAt State.adjustWeb
          rw [State.withSc_sc, lookup_adjust_ne hj, raise_sc, State.adjustChannel_sc]
        rw [this]
        exact hothers j hj
    refine congrArg Host.Outcome.next (timeoutStep_told hr hc hx ha hs hd ((congrArg _ hdrop).trans (hjob.trans htold))
      ?_ ?_ ?_ ?_)
    all_goals simp [dropped, hb]
  · intro i y l b hcls hi hy hch hone hlive hltag hbi hev hroom
    obtain ⟨u, hu⟩ := adjustChannel_eq_withCcu ch
      (fun c : Channel => { c with outstanding := c.outstanding.filter (·.tag != tag) }) s
    replace hu : dropped = s.withCcu u := hu
    have hstations : dropped.sp = s.sp := by rw [hu]; rfl
    have hmat : materialAtStation i dropped = materialAtStation i s := by rw [hu]; rfl
    have hfault := stationFault_spec (i := i) (v := 2) (s := dropped) (x := y) (b := b) (by rw [hu]; exact hy)
      (by rw [hu]; exact hbi) (by rw [hu]; exact hev) (by rw [hu]; exact hroom)
    rw [hstations, hevents, hfr, hmat, show wordOf 2 = 2 from natWord_eq (n := 2) (by decide)] at hfault
    obtain ⟨hset, hpre⟩ := hfault
    generalize hl' : s.mu.events ++ [_] = l' at hpre
    have htold : slitterTold i (.timeout tag) dropped = stationFault i 2 dropped := by
      refine if_pos ?_
      rw [show dropped.stationAt i = some y by rw [hu]; exact hy]
      simp [hlive, hltag]
    have hothers (j : Nat) (hj : j ≠ i) : (s.stationAt j).any (·.cfg.channel == ch) = false :=
      Option_any_eq_false fun v hv => by simpa using fun h => hj (hone j v hv h)
    have hjob : tellJob ch (.timeout tag) dropped = slitterTold i (.timeout tag) dropped := by
      refine tellJob_station hmode hat hcls hi ?_ (fun j hj => ?_) fun j hj => ?_
      · rw [show dropped.stationAt i = some y by rw [hu]; exact hy]
        simpa using hch
      · rw [show dropped.stationAt j = s.stationAt j by rw [hu]; rfl]
        exact hothers j hj
      · have : (stationFault i 2 dropped).stationAt j = s.stationAt j := by
          unfold State.stationAt lookup
          rw [hset, List.getElem?_set_ne (Ne.symm hj)]
        rw [htold, this]
        exact hothers j hj
    have hself : (reportTimeout ch tag x.verb (stationFault i 2 dropped)).stationAt i = some y.faulted := by
      unfold reportTimeout State.stationAt lookup
      rw [State.adjustChannel_sp, raise_sp, hset,
        List.getElem?_set_self (List.getElem?_eq_some_iff.mp (lookup_eq_some.mp hy)).1]
      rfl
    have hevs := prefix_raise (k := .cmdTimeout) (a := natWord ch) (b := natWord tag.toNat) (d := natWord x.verb.place) hpre
    have hend := (settleSteps_fault (l := l') hi (z := y.faulted) rfl).on_eventEnd (s := s)
      (f := fun s => reportTimeout ch tag x.verb (tellJob ch (.timeout tag) (dropTimedOut ch tag s)))
      ⟨by rw [hdrop, hjob, htold]; exact hself,
        by rw [hdrop, hjob, htold]; unfold reportTimeout; rw [State.adjustChannel_mu]; exact hevs⟩
    rw [← hstep] at hend
    obtain ⟨hz, hl⟩ := hend
    obtain ⟨later, hlater⟩ := prefix_cons (hl' ▸ hl)
    exact ⟨_, y.faulted, later, rfl, hz, rfl, rfl, by simp [Slitter.faulted, beq_eq_decide], hlater⟩
  · intro e rest hcls hk hplan he hev
    have hjob := tellJob_knife (t := .timeout tag) hmode hat hcls (by rw [State.adjustChannel_cp]; exact hk)
    have hfault := reportTimeout_cutFaulted (tag := tag) (verb := x.verb) (knifeTold_timeout (s := dropped) (rest := rest)
      hat (by rw [State.adjustChannel_cp]; exact hplan) he (by rw [hevents]; exact hev))
    rw [← hjob, ← hdrop] at hfault
    have hend := (settleSteps_cutFaulted _ ch true).on_eventEnd (s := s)
      (f := fun s => reportTimeout ch tag x.verb (tellJob ch (.timeout tag) (dropTimedOut ch tag s))) hfault
    rw [← hstep, hdrop, hevents, hfr] at hend
    obtain ⟨hl, hfront, d, hd', hdf⟩ := hend
    obtain ⟨later, hlater⟩ := prefix_cons hl
    exact ⟨_, d, later, rfl, hfront, hd', hdf, hlater⟩
  · intro k hcls hch hk ho ended
    have hjob := tellJob_stacker (t := .timeout tag) hmode hat hcls (by rw [State.adjustChannel_sg]; exact hch)
    have htold := stackerTold_timeout (s := dropped) (tag := tag) (k := k) (by rw [State.adjustChannel_sg]; exact hk)
      (by rw [State.adjustChannel_sg]; exact ho)
    have hended : dropRecord tag dropped = ended := by
      unfold dropRecord
      rw [State.adjustChannel_sg]
    have hfail : exec (.cmdTimeout ch tag) s = reported (stackerFailed k 2 0 ended) := by
      refine congrArg Host.Outcome.next (timeoutStep_told hr hc hx ha hs hd
        ((congrArg _ hdrop).trans (hjob.trans (htold.trans (congrArg _ hended)))) ?_ ?_ ?_ ?_)
      all_goals
        unfold stackerFailed
        split <;> simp [ended, dropped, hb]
    have htag : k.tag = tag := by simpa using List.find?_some (p := fun y : StackerCommand => y.tag == tag) hk
    rw [hfail]
    unfold stackerFailed
    rw [htag]
    refine ⟨fun hv => ?_, fun hv => ?_⟩
    · rw [if_pos hv, show k.arg + 256 * (0 : Word).toNat = k.arg from rfl]
    · rw [if_neg hv]

end Sys2Proof.Machine

/-! Loss of the cell controller (R57, R58). -/
namespace Sys2Proof.Machine

/-- An event's words depend on the relay by the cycle alone. -/
theorem raiseNoPosition_withFr {k : EventKind} {a b : Word} {s : State} {x : FieldRelay} (h : x.cycle = s.fr.cycle) :
    raiseNoPosition k a b (s.withFr x) = (raiseNoPosition k a b s).withFr x := by
  unfold raiseNoPosition raise
  simp only [State.withFr_mu, State.withFr_fr, h]
  split <;> rfl

theorem closeWindow_closed {s : State} (h : s.fr.windowOpen = false) : closeWindow s = s := by
  unfold closeWindow
  rw [h]
  rfl

/-- R58: the frame originated in a cycle, sent to the field port. -/
def sendOriginated (now : Word) (begun : State) : State :=
  let own := appendOwn (begun, []) [] 0
  sendField ({ kind := 1, flags := 1, source := 0, cycle := begun.fr.cycle, sample := now, items := own.2 } : Frame).compose
    own.1

theorem originate_eq {now : Word} {s : State} (h : s.fr.windowOpen = false) :
    originate now s = sendOriginated now (s.withFr { s.fr with
      cycle := s.fr.cycle + 1, begun := true, sample := now, windowOpen := true, windowLen := s.fr.window
      health := s.fr.health.map (fun h => { h with heard := false })
      originated := s.fr.originated + 1, lastOriginated := now }) := by
  unfold originate
  rw [closeWindow_closed h]
  rfl

/-- What an originated frame leaves alone. -/
theorem sendOriginated_frame (now : Word) (t : State) : (sendOriginated now t).fr.state = t.fr.state ∧
    (sendOriginated now t).kept = t.kept := by
  have hown : (appendOwn (t, []) [] 0).1.fr.state = t.fr.state :=
    (queueSteps_state _).on_appendOwn (acc := (t, [])) rfl
  exact ⟨hown, (kept_sendField ..).trans (kept_appendOwn ..)⟩

/-- R57: entering LOST_CELL raises CELL_LOST and originates the first frame. -/
theorem loseCell_eq {now : Word} {s : State} (h : s.fr.windowOpen = false) :
    let lost := raiseNoPosition .cellLost (natWord s.fr.cycle.toNat) (now - s.fr.sample)
      (s.withFr { s.fr with state := .lostCell })
    loseCell now (setClock now s) = sendOriginated now (lost.withFr { lost.fr with
      clock := now, cycle := s.fr.cycle + 1, begun := true, sample := now, windowOpen := true, windowLen := s.fr.window
      health := s.fr.health.map (fun h => { h with heard := false }), originated := 1, lastOriginated := now }) := by
  intro lost
  have hlost : lost = (raiseNoPosition .cellLost (natWord s.fr.cycle.toNat) (now - s.fr.sample) s).withFr
      { s.fr with state := .lostCell } := raiseNoPosition_withFr rfl
  have hmodel : raiseNoPosition .cellLost (natWord s.fr.cycle.toNat) (now - s.fr.sample)
      (s.withFr { s.fr with clock := now, state := .lostCell, originated := 0 }) =
      (raiseNoPosition .cellLost (natWord s.fr.cycle.toNat) (now - s.fr.sample) s).withFr
        { s.fr with clock := now, state := .lostCell, originated := 0 } := raiseNoPosition_withFr rfl
  have horiginate : loseCell now (setClock now s) = originate now
      (raiseNoPosition .cellLost (natWord s.fr.cycle.toNat) (now - s.fr.sample)
        (s.withFr { s.fr with clock := now, state := .lostCell, originated := 0 })) := rfl
  rw [horiginate, hmodel, hlost]
  exact originate_eq h

/-- A cycle begun keeps tables, mode and queues. -/
theorem kept_originating {now : Word} {s t : State} {n : Nat} (h : t.fr.health = s.fr.health) : (t.withFr { t.fr with
    clock := now, cycle := s.fr.cycle + 1, begun := true, sample := now, windowOpen := true, windowLen := s.fr.window
    health := s.fr.health.map (fun h => { h with heard := false }), originated := n, lastOriginated := now }).kept =
    t.kept := by
  refine kept_withFr _ ?_
  simp only [FieldRelay.setup, List.map_map, h]
  rfl

/-- Settles O16, by whether the time has come. -/
theorem cellLossOriginates : Obligations.CellLossOriginates := by
  intro now s hw originated
  refine ⟨fun hm hs => ⟨?_, fun hd => ?_⟩, fun hs => ⟨?_, fun hd => ?_⟩⟩
  · intro hd lost
    have hdue : cellLossDue now (setClock now s) = true := by
      have hrun : (setClock now s).running = true := State.running_iff.mpr hm
      unfold cellLossDue
      rw [hrun, show (setClock now s).fr.state = .normal from hs]
      exact decide_eq_true hd
    have hlost : exec (.cellLost now) s = .next (originated lost 1) :=
      congrArg Host.Outcome.next ((if_pos hdue).trans (loseCell_eq hw))
    obtain ⟨hstate, hkept⟩ := sendOriginated_frame now (lost.withFr { lost.fr with
      clock := now, cycle := s.fr.cycle + 1, begun := true, sample := now, windowOpen := true, windowLen := s.fr.window
      health := s.fr.health.map (fun h => { h with heard := false }), originated := 1, lastOriginated := now })
    have hfr : lost.fr = { s.fr with state := .lostCell } := by
      simp only [lost, raiseNoPosition, raise_fr]
      rfl
    have hlostkept : lost.kept = s.kept := (kept_raiseNoPosition ..).trans (kept_withFr _ rfl)
    have hall := hkept.trans ((kept_originating (by rw [hfr])).trans hlostkept)
    exact ⟨hlost, hstate.trans (by rw [State.withFr_fr, hfr]), congrArg Kept.tables hall,
      (congrArg Kept.mode hall).trans hm⟩
  · refine congrArg Host.Outcome.next (if_neg fun h => ?_)
    have hdue := (Bool.and_eq_true_iff.mp h).2
    exact absurd (of_decide_eq_true hdue) (Nat.not_le.mpr hd)
  · intro hd t
    have hdue : originateDue now (setClock now s) = true := by
      unfold originateDue
      rw [show (setClock now s).fr.state = .lostCell from hs]
      exact decide_eq_true hd
    have hnext : exec (.originateFrame now) s = .next t :=
      congrArg Host.Outcome.next ((if_pos hdue).trans (originate_eq hw))
    obtain ⟨hstate, hkept⟩ := sendOriginated_frame now (s.withFr { s.fr with
      clock := now, cycle := s.fr.cycle + 1, begun := true, sample := now, windowOpen := true, windowLen := s.fr.window
      health := s.fr.health.map (fun h => { h with heard := false }), originated := s.fr.originated + 1
      lastOriginated := now })
    have hall := hkept.trans (kept_originating rfl)
    exact ⟨hnext, hstate.trans hs, congrArg Kept.tables hall, congrArg Kept.mode hall⟩
  · refine congrArg Host.Outcome.next (if_neg fun h => ?_)
    have hdue := (Bool.and_eq_true_iff.mp h).2
    exact absurd (of_decide_eq_true hdue) (Nat.not_le.mpr hd)

end Sys2Proof.Machine

/-! Return frames in time (R51), and the answers of a station (R65 to R67, R71). -/
namespace Sys2Proof.Machine

/-! ### An in-time frame of one item (R51) -/

/-- R51: an in-time frame has been heard from a station. -/
def State.heardFrom (s : State) (bytes : List Byte) (station : Nat) : State :=
  (s.withFr { s.fr with cellPort := s.fr.cellPort ++ [bytes] }).adjustHealth station (fun h =>
    { h with missRun := 0, heard := true, suspect := false })

theorem heardFrom_eq {s : State} {bytes : List Byte} {station : Nat} {h : Health} (hh : s.healthAt station = some h) :
    s.heardFrom bytes station = s.withFr { s.fr with
      cellPort := s.fr.cellPort ++ [bytes]
      health := s.fr.health.set (station - 1) { h with missRun := 0, heard := true, suspect := false } } := by
  unfold State.heardFrom State.adjustHealth
  rw [show (s.withFr { s.fr with cellPort := s.fr.cellPort ++ [bytes] }).healthAt station = some h from hh]
  rfl

section
variable {bytes : List Byte} {f : Frame} {s : State} {h : Health} (hg : goodReturn bytes = some f)
  (ho : s.fr.windowOpen = true) (hc : f.cycle = s.fr.cycle) (hw : ¬(s.workingAddress = true ∧ f.source = s.ownByte))
  (hh : s.healthAt f.source.toNat = some h)
include hg ho hc hw hh

theorem exec_returnFrame_inTime : exec (.returnFrame bytes) s = .next (f.items.foldl (readItemIn f.source)
    (if h.suspect then raiseSubject .stationRestored (natWord f.source.toNat) (s.heardFrom bytes f.source.toNat)
      else s.heardFrom bytes f.source.toNat)) := by
  have hcounted := (countedSource_iff f.source s).mpr ⟨goodReturn_source hg, hw⟩
  have hin : inTime f (sendCell bytes s) = true := by
    rw [inTime_sendCell]
    exact (inTime_iff f s).mpr ⟨ho, hc⟩
  have hhear : hearStation f.source.toNat (sendCell bytes s) =
      if h.suspect then raiseSubject .stationRestored (natWord f.source.toNat) (s.heardFrom bytes f.source.toNat)
      else s.heardFrom bytes f.source.toNat := by
    unfold hearStation
    rw [show (sendCell bytes s).healthAt f.source.toNat = some h from hh]
    rfl
  rw [exec_returnFrame, relayReturn_of_good hg hcounted]
  unfold goodReturnStep
  rw [if_pos hin, hhear]

/-- R51: the one item of a frame of a station that is not SUSPECT. -/
theorem exec_returnFrame_item {i : Item} (hi : f.items = [i]) (hs : h.suspect = false) :
    exec (.returnFrame bytes) s = .next (readItemIn f.source (s.heardFrom bytes f.source.toNat) i) := by
  rw [exec_returnFrame_inTime hg ho hc hw hh, hi, hs]
  rfl

end

section
variable {i : Item} {src : Byte} (hst : i.station = src) (s : State)
include hst

theorem readItemIn_report (hk : i.readKind = some .report) : readItemIn src s i = storeItem i .report s := by
  simp only [readItemIn, hst, bne_self_eq_false, Bool.false_eq_true, if_false, hk]

theorem readItemIn_accept (hk : i.readKind = some .accept) : readItemIn src s i = handAnswer i .accept s := by
  simp only [readItemIn, hst, bne_self_eq_false, Bool.false_eq_true, if_false, hk]

theorem readItemIn_done (hk : i.readKind = some .done) : readItemIn src s i = handAnswer i .done s := by
  simp only [readItemIn, hst, bne_self_eq_false, Bool.false_eq_true, if_false, hk]

theorem readItemIn_refuse (hk : i.readKind = some .refuse) : readItemIn src s i = handAnswer i .refuse s := by
  simp only [readItemIn, hst, bne_self_eq_false, Bool.false_eq_true, if_false, hk]

end

/-! ### Answers that no job is told of (R65 to R67) -/

/-- The second state has the mode, the map, the path, the orders and the jobs of the first. -/
structure Unmoved (s t : State) : Prop where
  mode : t.mu.mode = s.mu.mode
  wm : t.wm = s.wm
  pt : t.pt = s.pt
  op : t.op = s.op
  cp : t.cp = s.cp
  sc : t.sc = s.sc
  sp : t.sp = s.sp
  sg : t.sg = s.sg

theorem Unmoved.refl (s : State) : Unmoved s s := ⟨rfl, rfl, rfl, rfl, rfl, rfl, rfl, rfl⟩

theorem Unmoved.withFr (s : State) (x : FieldRelay) : Unmoved s (s.withFr x) := ⟨rfl, rfl, rfl, rfl, rfl, rfl, rfl, rfl⟩

theorem Unmoved.adjustChannel (s : State) (ch : Nat) (f : Channel → Channel) : Unmoved s (s.adjustChannel ch f) := by
  obtain ⟨u, hu⟩ := adjustChannel_eq_withCcu ch f s
  rw [hu]
  exact ⟨rfl, rfl, rfl, rfl, rfl, rfl, rfl, rfl⟩

theorem Unmoved.raise {s t : State} {k : EventKind} {a b c : Word} (h : Unmoved s t) : Unmoved s (raise k a b c t) where
  mode := (congrArg Kept.mode (kept_raise ..)).trans h.mode
  wm := (raise_wm ..).trans h.wm
  pt := (raise_pt ..).trans h.pt
  op := (raise_op ..).trans h.op
  cp := (raise_cp ..).trans h.cp
  sc := (raise_sc ..).trans h.sc
  sp := (raise_sp ..).trans h.sp
  sg := (raise_sg ..).trans h.sg

/-- In SETUP, or with no job on the channel, nothing is told. -/
def State.untold (s : State) (ch : Nat) : Prop := s.mu.mode = .setup ∨ s.servesNoJob ch

theorem Unmoved.untold {s t : State} {ch : Nat} (h : Unmoved s t) (hs : s.untold ch) : t.untold ch := by
  refine hs.imp h.mode.trans fun hjob => ?_
  unfold State.servesNoJob State.webAt State.stationAt at *
  rwa [h.cp, h.sg, h.sc, h.sp]

theorem tellAnswer_untold {ch : Nat} {r : State × Option Told} (h : r.1.untold ch) : tellAnswer ch r = r.1 := by
  unfold tellAnswer
  split
  · rcases h with hm | hj
    · exact if_neg (by rw [State.running_eq_false.mpr hm]; exact Bool.false_ne_true)
    · exact tellJob_none hj
  · rfl

/-- R51: an answer that no job is told of leaves what CCU made of it. -/
theorem event_untold {take : State → State × Option Told} {ch : Nat} {s t : State} {told : Option Told}
    (ht : take s = (t, told)) (hu : Unmoved s t) (hs : s.untold ch) (hb : s.wm.boardChange = none) :
    event (fun s => tellAnswer ch (take s)) s = t := by
  refine event_sameRecords ?_ (by rw [hu.wm]; exact hb) hu.pt hu.op hu.cp
  rw [ht]
  exact tellAnswer_untold (r := (t, told)) (hu.untold hs)

/-! ### What CCU makes of an answer -/

section
variable {s : State} {ch : Nat} {c : Channel} (hc : s.channelAt ch = some c)
include hc

theorem recoverChannel_sound (hf : c.fault = false) : recoverChannel ch s = s := by
  unfold recoverChannel
  rw [hc]
  dsimp only
  rw [hf]
  rfl

theorem recoverChannel_fault (hf : c.fault = true) : recoverChannel ch s =
    raiseSubject .channelRecovered (natWord ch) (s.adjustChannel ch (fun c => { c with fault := false })) := by
  unfold recoverChannel
  rw [hc]
  exact if_pos hf

/-- R65: the first ACCEPT of a command. -/
theorem takeAccept_first {tag : Half} {x : Command} (hf : c.fault = false)
    (hx : c.outstanding.find? (·.tag == tag) = some x) (ha : x.accepted = false) : takeAccept ch tag s =
      (s.adjustChannel ch (fun c => { c with outstanding := c.outstanding.map (fun y =>
        if y.tag == tag then { y with accepted := true, acceptTime := some s.fr.sample } else y) }), some (.accepted tag)) := by
  unfold takeAccept
  rw [recoverChannel_sound hc hf]
  simp only [hc, Option.bind_some, hx, ha, Bool.false_eq_true, if_false]

/-- R71: the commands of a channel stay when its FAULT ends. -/
theorem recoverChannel_commands : ∃ d, (recoverChannel ch s).channelAt ch = some d ∧ d.outstanding = c.outstanding ∧
    d.recent = c.recent := by
  cases hf : c.fault with
  | false =>
    rw [recoverChannel_sound hc hf]
    exact ⟨c, hc, rfl, rfl⟩
  | true =>
    rw [recoverChannel_fault hc hf]
    refine ⟨{ c with fault := false }, ?_, rfl, rfl⟩
    unfold State.channelAt raiseSubject raiseNoValue
    rw [raise_ccu]
    exact channelAt_adjustChannel hc

/-- R65: an ACCEPT that changes no command. -/
theorem takeAccept_other {tag : Half} (hx : ∀ x, c.outstanding.find? (·.tag == tag) = some x → x.accepted = true) :
    takeAccept ch tag s = (recoverChannel ch s, none) := by
  obtain ⟨d, hd, hdo, -⟩ := recoverChannel_commands hc
  unfold takeAccept
  simp only [hd, Option.bind_some, hdo]
  split
  · rfl
  · next x hx' => rw [if_pos (hx x hx')]

/-- R66: the end of a command, its record as given. -/
theorem endCommand_eq {tag : Half} {g : Channel → Channel}
    (h : ({ c with outstanding := c.outstanding.filter (·.tag != tag), recent := rememberTag tag c.recent } :
      Channel).promoted (translate s) = g c) : endCommand ch tag s = s.adjustChannel ch g := by
  unfold endCommand
  rw [promote_adjustChannel]
  exact adjustChannel_congr hc h

/-- R66: the DONE of an outstanding command. -/
theorem takeDone_found {tag : Half} {v : Word} {ws : List Word} {x : Command} (hf : c.fault = false)
    (hx : c.outstanding.find? (·.tag == tag) = some x) :
    takeDone ch tag v ws s = (endCommand ch tag s, some (doneOutcome c.cls x v ws)) := by
  unfold takeDone
  rw [recoverChannel_sound hc hf]
  simp only [hc, hx]

/-- R67: the DONE of a recent tag is ignored. -/
theorem takeDone_recent {tag : Half} {v : Word} {ws : List Word} (hx : c.outstanding.find? (·.tag == tag) = none)
    (hr : c.recent.contains tag = true) : takeDone ch tag v ws s = (recoverChannel ch s, none) := by
  obtain ⟨d, hd, hdo, hdr⟩ := recoverChannel_commands hc
  unfold takeDone
  simp only [hd, hdo, hdr, hx, hr, if_true]

/-- R67: an unsolicited DONE with a tag of its own. -/
theorem takeDone_unsolicited {tag : Half} {v : Word} {ws : List Word} (hf : c.fault = false)
    (hx : c.outstanding.find? (·.tag == tag) = none) (hr : c.recent.contains tag = false) (h0 : tag ≠ 0) :
    takeDone ch tag v ws s = (s.adjustChannel ch (fun c => { c with recent := rememberTag tag c.recent }),
      some (.unsolicited tag v ws)) := by
  unfold takeDone
  rw [recoverChannel_sound hc hf]
  simp only [hc, hx, hr, h0, Bool.false_eq_true, if_false]

/-- R67: an unsolicited DONE with tag 0 is kept, unless it repeats. -/
theorem takeDone_zero {tag : Half} {v : Word} {ws : List Word} (hf : c.fault = false)
    (hx : c.outstanding.find? (·.tag == tag) = none) (hr : c.recent.contains tag = false) (h0 : tag = 0) :
    takeDone ch tag v ws s = if repeatsUnsolicited c s.fr.cycle v ws then (s, none) else
      (s.adjustChannel ch (fun c => { c with lastUnsol := some ⟨v, ws, s.fr.cycle⟩ }), some (.unsolicited 0 v ws)) := by
  subst h0
  unfold takeDone
  rw [recoverChannel_sound hc hf]
  simp only [hc, hx, hr, Bool.false_eq_true, if_false, if_true]

theorem takeRefuse_found {tag : Half} {v : Word} (hx : (c.outstanding.find? (·.tag == tag)).isSome = true) :
    takeRefuse ch tag v s = (endCommand ch tag s, some (.refused tag v)) := by
  unfold takeRefuse
  rw [hc]
  exact if_pos (List.any_eq_true.mpr (List.find?_isSome.mp hx))

theorem takeRefuse_unknown {tag : Half} {v : Word} (hx : c.outstanding.find? (·.tag == tag) = none) :
    takeRefuse ch tag v s = (s, none) := by
  unfold takeRefuse
  rw [hc]
  refine if_neg fun h => ?_
  rw [List.any_eq_true, ← List.find?_isSome, hx] at h
  cases h

end

theorem repeatsUnsolicited_iff {c : Channel} {cycle : Half} {v : Word} {ws : List Word} :
    repeatsUnsolicited c cycle v ws = true ↔
      ∃ u, c.lastUnsol = some u ∧ u.value = v ∧ u.words = ws ∧ (cycle - u.cycle).toNat ≤ 3 := by
  unfold repeatsUnsolicited
  cases hu : c.lastUnsol with
  | none => simp
  | some u => simp [and_assoc]

section
variable {i : Item} {s : State} {ch : Nat} (h : channelOf i.key s = some ch)
include h

theorem handAnswer_accept : handAnswer i .accept s = event (fun s => tellAnswer ch (takeAccept ch i.tag s)) s := by
  unfold handAnswer
  rw [h]

theorem handAnswer_done :
    handAnswer i .done s = event (fun s => tellAnswer ch (takeDone ch i.tag i.value i.words s)) s := by
  unfold handAnswer
  rw [h]

theorem handAnswer_refuse :
    handAnswer i .refuse s = event (fun s => tellAnswer ch (takeRefuse ch i.tag i.value s)) s := by
  unfold handAnswer
  rw [h]

end

theorem adjustHealth_congr {s : State} {k : Nat} {h : Health} {f g : Health → Health} (hh : s.healthAt k = some h)
    (hfg : f h = g h) : s.adjustHealth k f = s.adjustHealth k g := by
  unfold State.adjustHealth
  rw [hh]
  dsimp only
  rw [hfg]

/-- Settles O10, by the kind of the answer and the commands of the channel. -/
theorem commandAnswersTaken : Obligations.CommandAnswersTaken := by
  intro bytes f i ch c h s hg ho hcy hw hb hi hst hh hs hch hc hjob heard found rest recent
  have hheard : s.heardFrom bytes f.source.toNat = heard := adjustHealth_congr (h := h) hh (by rw [← hs])
  have hexec := exec_returnFrame_item hg ho hcy hw hh hi hs
  have hfr := heardFrom_eq (bytes := bytes) hh
  rw [hheard] at hexec hfr
  have hchannel : heard.channelAt ch = some c := by rw [hfr]; exact hc
  have hkey : channelOf i.key heard = some ch := by rw [hfr]; exact hch
  have huntold : heard.untold ch := by rw [hfr]; exact (Unmoved.withFr s _).untold hjob
  have hchange : heard.wm.boardChange = none := by rw [hfr]; exact hb
  have htranslate : translate heard = translate s := translate_congr (by rw [hfr]; rfl)
  have hcycle : heard.fr.cycle = s.fr.cycle := by rw [hfr]; rfl
  have hsample : heard.fr.sample = s.fr.sample := by rw [hfr]; rfl
  have hquiet {take : State → State × Option Told} {t : State} {told : Option Told} (ht : take heard = (t, told))
      (hu : Unmoved heard t) : event (fun s => tellAnswer ch (take s)) heard = t := event_untold ht hu huntold hchange
  have haccept (hk : i.readKind = some .accept) {t : State} {told : Option Told}
      (ht : takeAccept ch i.tag heard = (t, told)) (hu : Unmoved heard t) : exec (.returnFrame bytes) s = .next t := by
    rw [hexec, readItemIn_accept hst heard hk, handAnswer_accept hkey, hquiet ht hu]
  have hdone (hk : i.readKind = some .done) {t : State} {told : Option Told}
      (ht : takeDone ch i.tag i.value i.words heard = (t, told)) (hu : Unmoved heard t) :
      exec (.returnFrame bytes) s = .next t := by
    rw [hexec, readItemIn_done hst heard hk, handAnswer_done hkey, hquiet ht hu]
  have hrefuse (hk : i.readKind = some .refuse) {t : State} {told : Option Told}
      (ht : takeRefuse ch i.tag i.value heard = (t, told)) (hu : Unmoved heard t) :
      exec (.returnFrame bytes) s = .next t := by
    rw [hexec, readItemIn_refuse hst heard hk, handAnswer_refuse hkey, hquiet ht hu]
  have hended {g : Channel → Channel} (hg : ({ c with outstanding := rest, recent := recent } :
      Channel).promoted (translate s) = g c) : endCommand ch i.tag heard = heard.adjustChannel ch g :=
    endCommand_eq hchannel (by rw [htranslate]; exact hg)
  have hfound (hk : i.readKind = some .refuse ∨ i.readKind = some .done ∧ c.fault = false) (hx : found.isSome = true)
      {g : Channel → Channel} (hg : ({ c with outstanding := rest, recent := recent } :
        Channel).promoted (translate s) = g c) : exec (.returnFrame bytes) s = .next (heard.adjustChannel ch g) := by
    rcases hk with hk | ⟨hk, hf⟩
    · exact hended hg ▸ hrefuse hk (takeRefuse_found hchannel hx) (hended hg ▸ Unmoved.adjustChannel ..)
    · obtain ⟨x, hx⟩ := Option.isSome_iff_exists.mp hx
      exact hended hg ▸ hdone hk (takeDone_found hchannel hf hx) (hended hg ▸ Unmoved.adjustChannel ..)
  refine ⟨fun hk hf => ⟨fun x hx ha => ?_, fun hx => ?_⟩, fun hk hx => ⟨fun hp => hfound hk hx ?_, fun p hp hroom =>
    hfound hk hx ?_⟩, fun hk hx => hrefuse hk (takeRefuse_unknown hchannel hx) (.refl _), fun hk hf hx =>
    ⟨fun hr => ?_, fun hr => ⟨fun h0 => ?_, fun h0 => ?_⟩⟩, fun hf hx hk => ?_⟩
  · exact hsample ▸ haccept hk (takeAccept_first hchannel hf hx ha) (.adjustChannel ..)
  · have htake := takeAccept_other hchannel hx
    rw [recoverChannel_sound hchannel hf] at htake
    exact haccept hk htake (.refl _)
  · unfold Channel.promoted
    rw [hp]
  · unfold Channel.promoted
    rw [hp]
    exact if_pos hroom
  · have htake := takeDone_recent (v := i.value) (ws := i.words) hchannel hx hr
    rw [recoverChannel_sound hchannel hf] at htake
    exact hdone hk htake (.refl _)
  · have htake := hdone hk (takeDone_unsolicited hchannel hf hx hr h0) (.adjustChannel ..)
    exact htake.trans (congrArg Host.Outcome.next (adjustChannel_congr hchannel rfl))
  · intro again
    have htake := takeDone_zero (v := i.value) (ws := i.words) hchannel hf hx hr h0
    rw [hcycle] at htake
    refine ⟨fun ha => ?_, fun ha => ?_⟩
    · rw [if_pos (repeatsUnsolicited_iff.mpr ha)] at htake
      exact hdone hk htake (.refl _)
    · rw [if_neg (mt repeatsUnsolicited_iff.mp ha)] at htake
      exact hdone hk htake (.adjustChannel ..)
  · have htake : recoverChannel ch heard = _ := recoverChannel_fault hchannel hf
    have hun : Unmoved heard (raiseSubject .channelRecovered (natWord ch) (heard.adjustChannel ch (fun c =>
        { c with fault := false }))) := (Unmoved.adjustChannel ..).raise
    rcases hk with hk | ⟨hk, hr⟩
    · have hother := takeAccept_other (tag := i.tag) hchannel (fun x hx' => nomatch hx.symm.trans hx')
      rw [htake] at hother
      exact haccept hk hother hun
    · have hother := takeDone_recent (v := i.value) (ws := i.words) hchannel hx hr
      rw [htake] at hother
      exact hdone hk hother hun

end Sys2Proof.Machine

/-! The primary counter in SETUP (R6, R8). -/
namespace Sys2Proof.Machine

/-! ### Changes of one section's track -/

/-- The second state differs from the first in the track of one section, in links and events, and in what a section's map
has last seen. -/
structure Tracks (sec : Nat) (s t : State) : Prop where
  fr : t.fr = s.fr
  mode : t.mu.mode = s.mu.mode
  change : t.wm.boardChange = s.wm.boardChange
  others : ∀ j, j ≠ sec → t.sectionAt j = s.sectionAt j
  marks : ∀ j, (t.mapAt j).marks = (s.mapAt j).marks

theorem Tracks.refl (sec : Nat) (s : State) : Tracks sec s s := ⟨rfl, rfl, rfl, fun _ _ => rfl, fun _ => rfl⟩

theorem sectionAt_adjustTrack {s : State} {sec : Nat} {c : Section} {f : TrackState → TrackState}
    (h : s.sectionAt sec = some c) : (s.adjustTrack sec f).sectionAt sec = some { c with trk := f c.trk } :=
  lookup_adjust (l := s.pt.sections) (f := fun c : Section => { c with trk := f c.trk }) h

theorem marks_adjustMap {s : State} {i : Nat} {f : SectionMap → SectionMap} (hf : (f (s.mapAt i)).marks = (s.mapAt i).marks)
    (j : Nat) : ((s.adjustMap i f).mapAt j).marks = (s.mapAt j).marks := by
  simp only [State.mapAt, State.adjustMap, State.withWm_wm, List.getElem?_set] at hf ⊢
  by_cases hj : i = j
  · subst hj
    by_cases hi : i < s.wm.maps.length
    · simp only [hi, if_true, Option.getD_some]
      exact hf
    · simp [hi]
  · rw [if_neg hj]

section
variable {sec : Nat} {s t : State} (h : Tracks sec s t)
include h

theorem Tracks.raise {k : EventKind} {a b c : Word} : Tracks sec s (raise k a b c t) where
  fr := (raise_fr ..).trans h.fr
  mode := (congrArg Kept.mode (kept_raise ..)).trans h.mode
  change := by rw [raise_wm, h.change]
  others j hj := by
    have := h.others j hj
    unfold State.sectionAt at *
    rwa [raise_pt]
  marks j := by
    have := h.marks j
    unfold State.mapAt at *
    rwa [raise_wm]

theorem Tracks.adjustTrack {f : TrackState → TrackState} : Tracks sec s (t.adjustTrack sec f) where
  fr := h.fr
  mode := h.mode
  change := h.change
  others j hj := (lookup_adjust_ne hj).trans (h.others j hj)
  marks := h.marks

theorem Tracks.adjustLink {i : Nat} {f : Link → Link} : Tracks sec s (t.adjustLink i f) :=
  ⟨h.fr, h.mode, h.change, h.others, h.marks⟩

theorem Tracks.rebaseSection : Tracks sec s (rebaseSection sec t) := by
  unfold Machine.rebaseSection
  split
  · exact h
  · split
    · exact h.adjustLink
    · exact h

theorem Tracks.markSeen : Tracks sec s (markSeen sec t) where
  fr := h.fr
  mode := h.mode
  change := h.change
  others := h.others
  marks j := (marks_adjustMap (s := t) rfl j).trans (h.marks j)

/-- R11: in SETUP an update reaches the counter and its links alone. -/
theorem Tracks.trackUpdate (hm : s.mu.mode = .setup) {count time : Word} :
    Tracks sec s (trackUpdate sec count time t) := by
  have hupdated : Tracks sec s (((if count != t.count sec then Machine.rebaseSection sec (t.adjustTrack sec (fun t =>
      { t with count := count, lastUpdate := time })) else t.adjustTrack sec (fun t =>
        { t with count := count, lastUpdate := time })).adjustTrack sec (TrackState.record time))) := by
    refine Tracks.adjustTrack ?_
    split
    · exact h.adjustTrack.rebaseSection
    · exact h.adjustTrack
  unfold Machine.trackUpdate
  dsimp only
  generalize (if count != t.count sec then Machine.rebaseSection sec (t.adjustTrack sec (fun t =>
      { t with count := count, lastUpdate := time })) else t.adjustTrack sec (fun t =>
        { t with count := count, lastUpdate := time })).adjustTrack sec (TrackState.record time) = u at hupdated ⊢
  split
  · unfold afterUpdate
    rw [State.running_eq_false.mpr (hupdated.mode.trans hm)]
    exact hupdated.markSeen
  · exact hupdated

theorem Tracks.pairBackup {b : Nat} {count : Word} : Tracks sec s (pairBackup sec b count t) := h.adjustTrack

theorem Tracks.takeOver {src : SourceState} {f : TrackState → TrackState} : Tracks sec s (takeOver sec src f t) :=
  h.adjustTrack.raise

theorem Tracks.primaryArrival (hm : s.mu.mode = .setup) {c : Section} {raw : Word} :
    Tracks sec s (primaryArrival sec c raw t) := by
  unfold Machine.primaryArrival
  dsimp only
  have htaken : Tracks sec s (if c.trk.source = .primary then t
      else Machine.takeOver sec .primary (fun t => { t with primaryOffset := t.count - raw }) t) := by
    split
    · exact h
    · exact h.takeOver
  generalize (if c.trk.source = .primary then t
      else Machine.takeOver sec .primary (fun t => { t with primaryOffset := t.count - raw }) t) = u at htaken ⊢
  refine Tracks.trackUpdate ?_ hm
  split
  · split
    · exact htaken.pairBackup
    · exact htaken
  · exact htaken

theorem Tracks.backupArrival (hm : s.mu.mode = .setup) {c : Section} {slot : Nat} {raw : Word} :
    Tracks sec s (backupArrival sec c slot raw t) := by
  unfold Machine.backupArrival
  dsimp only
  split
  · split
    · exact h.pairBackup
    · exact h
  · exact h.trackUpdate hm
  · exact h.takeOver.trackUpdate hm

theorem Tracks.referenceArrival {c : Section} : Tracks sec s (referenceArrival sec c t) := by
  unfold Machine.referenceArrival
  split
  · exact h.adjustTrack.raise
  · exact h

omit h in
/-- R6, R7, R10: a fresh value reaches the sections that name its slot. -/
theorem Tracks.sectionArrival {t : State} (h : Tracks sec s t) (hm : s.mu.mode = .setup) {slot : Nat} :
    Tracks sec s (sectionArrival slot sec t) :=
  sectionLooks_keep (P := Tracks sec s) (fun _ _ hx => hx.primaryArrival hm) (fun _ _ hx => hx.backupArrival hm)
    (fun _ _ hx => hx.referenceArrival) h

end

/-! ### What the section itself becomes -/

/-- A section's record with its counter at a value since a time, in a source state and with a primary offset. -/
structure Section.Holds (c x : Section) (count time offset : Word) (src : SourceState) : Prop where
  cfg : x.cfg = c.cfg
  count : x.trk.count = count
  update : x.trk.lastUpdate = time
  source : x.trk.source = src
  offset : x.trk.primaryOffset = offset

theorem sectionAt_rebaseSection {i j : Nat} {s : State} : (rebaseSection i s).sectionAt j = s.sectionAt j := by
  unfold rebaseSection
  split
  · rfl
  · split <;> rfl

/-- R11: a track update in SETUP. -/
theorem sectionAt_trackUpdate {sec : Nat} {s : State} {c : Section} {n time : Word} (hm : s.mu.mode = .setup)
    (hc : s.sectionAt sec = some c) : ∃ x, (trackUpdate sec n time s).sectionAt sec = some x ∧
      c.Holds x n time c.trk.primaryOffset c.trk.source := by
  have hstart := sectionAt_adjustTrack (f := fun t => { t with count := n, lastUpdate := time }) hc
  have hrebased : (if n != s.count sec then rebaseSection sec (s.adjustTrack sec (fun t =>
      { t with count := n, lastUpdate := time })) else s.adjustTrack sec (fun t =>
        { t with count := n, lastUpdate := time })).sectionAt sec =
      some { c with trk := { c.trk with count := n, lastUpdate := time } } := by
    split
    · exact sectionAt_rebaseSection.trans hstart
    · exact hstart
  have hrecord := sectionAt_adjustTrack (f := TrackState.record time) hrebased
  refine ⟨{ c with trk := TrackState.record time { c.trk with count := n, lastUpdate := time } }, ?_, rfl, rfl, rfl, rfl,
    rfl⟩
  rw [← hrecord]
  unfold trackUpdate
  dsimp only
  split
  · have hmode : ∀ u : State, u.mu.mode = .setup → (afterUpdate sec u).sectionAt sec = u.sectionAt sec := by
      intro u hu
      unfold afterUpdate
      rw [State.running_eq_false.mpr hu]
      rfl
    exact hmode _ ((Tracks.refl sec s).adjustTrack.rebaseSection.adjustTrack.mode.trans hm)
  · rfl

theorem sectionAt_raise {k : EventKind} {a b d : Word} {s : State} (j : Nat) :
    (raise k a b d s).sectionAt j = s.sectionAt j := by
  unfold State.sectionAt
  rw [raise_pt]

/-- R6: a fresh value of the primary counter in SETUP. -/
theorem sectionAt_primaryArrival {sec : Nat} {s : State} {c : Section} {raw : Word} (hm : s.mu.mode = .setup)
    (hc : s.sectionAt sec = some c) : ∃ x, (primaryArrival sec c raw s).sectionAt sec = some x ∧
      c.Holds x (if c.trk.source = .primary then advanceTo c.trk.count (raw + c.trk.primaryOffset) else c.trk.count)
        s.fr.sample (if c.trk.source = .primary then c.trk.primaryOffset else c.trk.count - raw) .primary := by
  unfold primaryArrival
  dsimp only
  have htaken : ∃ u x, (if c.trk.source = .primary then s
      else takeOver sec .primary (fun t => { t with primaryOffset := t.count - raw }) s) = u ∧
      Tracks sec s u ∧ u.sectionAt sec = some x ∧ x.cfg = c.cfg ∧ x.trk.source = .primary ∧
      x.trk.primaryOffset = if c.trk.source = .primary then c.trk.primaryOffset else c.trk.count - raw := by
    by_cases hp : c.trk.source = .primary
    · simp only [hp, if_true]
      exact ⟨s, c, rfl, .refl .., hc, rfl, hp, rfl⟩
    · simp only [hp, if_false]
      exact ⟨_, _, rfl, (Tracks.refl sec s).takeOver, (sectionAt_raise sec).trans (sectionAt_adjustTrack hc), rfl, rfl, rfl⟩
  obtain ⟨u, y, hu, htracks, hy, hcfg, hsrc, hoff⟩ := htaken
  rw [hu]
  have hupdated (n : Word) {v : State} {z : Section} (hv : Tracks sec s v) (hz : v.sectionAt sec = some z)
      (hzcfg : z.cfg = y.cfg) (hzsrc : z.trk.source = y.trk.source) (hzoff : z.trk.primaryOffset = y.trk.primaryOffset) :
      ∃ x, (trackUpdate sec n v.fr.sample v).sectionAt sec = some x ∧ c.Holds x n s.fr.sample
        (if c.trk.source = .primary then c.trk.primaryOffset else c.trk.count - raw) .primary := by
    obtain ⟨x, hx, hxs⟩ := sectionAt_trackUpdate (n := n) (time := v.fr.sample) (hv.mode.trans hm) hz
    exact ⟨x, hx, hxs.cfg.trans (hzcfg.trans hcfg), hxs.count, hxs.update.trans (by rw [hv.fr]),
      hxs.source.trans (hzsrc.trans hsrc), hxs.offset.trans (hzoff.trans hoff)⟩
  generalize (if c.trk.source = .primary then advanceTo c.trk.count (raw + c.trk.primaryOffset) else c.trk.count) = n
  split
  · split
    · exact hupdated n htracks.pairBackup (sectionAt_adjustTrack hy) rfl rfl rfl
    · exact hupdated _ htracks hy rfl rfl rfl
  · exact hupdated _ htracks hy rfl rfl rfl

/-- A section whose primary slot alone is the one that arrived. -/
theorem sectionAt_sectionArrival {sec k : Nat} {s : State} {c : Section} (hm : s.mu.mode = .setup)
    (hc : s.sectionAt sec = some c) (hk : c.cfg.primarySlot = k) (hb : c.cfg.backupSlot ≠ some k) :
    ∃ x, (sectionArrival k sec s).sectionAt sec = some x ∧
      c.Holds x (if c.trk.source = .primary then advanceTo c.trk.count (s.slotValue k + c.trk.primaryOffset)
          else c.trk.count)
        s.fr.sample (if c.trk.source = .primary then c.trk.primaryOffset else c.trk.count - s.slotValue k) .primary := by
  obtain ⟨x, hx, hholds⟩ := sectionAt_primaryArrival (raw := s.slotValue k) hm hc
  refine ⟨x, ?_, hholds⟩
  unfold sectionArrival
  simp only [hc, hk, if_true, hx, hholds.cfg, hb, if_false]
  split
  · unfold referenceArrival
    rw [if_neg (fun h => by rw [hholds.source] at h; exact nomatch h.1)]
    exact hx
  · exact hx

/-- R11: in SETUP an event leaves but a new projection of the open order. -/
theorem settled_setup {f : State → State} {s : State} (hc : (f s).wm.boardChange = none) (hm : (f s).mu.mode = .setup) :
    ∃ b, event f s = (f s).withProjection b := by
  unfold event
  rw [settle_setup _ _ _ _ hc (State.running_eq_false.mpr hm)]
  split
  · exact ⟨projection (f s), rfl⟩
  · exact ⟨(f s).op.bproj, rfl⟩

/-! ### All sections -/

/-- The second state differs from the first in the tracks of sections other than one. -/
structure Beside (sec : Nat) (s t : State) : Prop where
  fr : t.fr = s.fr
  mode : t.mu.mode = s.mu.mode
  change : t.wm.boardChange = s.wm.boardChange
  own : t.sectionAt sec = s.sectionAt sec
  marks : ∀ j, (t.mapAt j).marks = (s.mapAt j).marks

theorem Tracks.beside {sec j : Nat} {s t : State} (h : Tracks j s t) (hj : sec ≠ j) : Beside sec s t :=
  ⟨h.fr, h.mode, h.change, h.others sec hj, h.marks⟩

theorem Beside.trans {sec : Nat} {s t u : State} (h : Beside sec s t) (g : Beside sec t u) : Beside sec s u :=
  ⟨g.fr.trans h.fr, g.mode.trans h.mode, g.change.trans h.change, g.own.trans h.own,
    fun j => (g.marks j).trans (h.marks j)⟩

theorem beside_foldl {sec k : Nat} (l : List Nat) (hl : sec ∉ l) {s : State} (hm : s.mu.mode = .setup) :
    Beside sec s (l.foldl (fun s j => sectionArrival k j s) s) := by
  induction l generalizing s with
  | nil => exact ⟨rfl, rfl, rfl, rfl, fun _ => rfl⟩
  | cons j l ih =>
    rw [List.mem_cons, not_or] at hl
    have hstep := ((Tracks.refl j s).sectionArrival (slot := k) hm).beside hl.1
    exact hstep.trans (ih hl.2 (hstep.mode.trans hm))

/-- R6, R8: a value of the primary counter of a section reaches it once, among all sections. -/
theorem sectionAt_trackArrival {sec k : Nat} {s : State} {c : Section} (hm : s.mu.mode = .setup) (hsec : sec ≤ 11)
    (hc : s.sectionAt sec = some c) (hk : c.cfg.primarySlot = k) (hb : c.cfg.backupSlot ≠ some k) :
    (trackArrival k s).mu.mode = .setup ∧ (trackArrival k s).wm.boardChange = s.wm.boardChange ∧
    (∀ j, ((trackArrival k s).mapAt j).marks = (s.mapAt j).marks) ∧
    ∃ x, (trackArrival k s).sectionAt sec = some x ∧
      c.Holds x (if c.trk.source = .primary then advanceTo c.trk.count (s.slotValue k + c.trk.primaryOffset)
          else c.trk.count)
        s.fr.sample (if c.trk.source = .primary then c.trk.primaryOffset else c.trk.count - s.slotValue k) .primary := by
  obtain ⟨front, back, hsplit⟩ := List.append_of_mem (List.mem_range.mpr (Nat.lt_succ_of_le hsec))
  have hnodup : (front ++ sec :: back).Nodup := hsplit ▸ List.nodup_range
  rw [List.nodup_middle, List.nodup_cons, List.mem_append, not_or] at hnodup
  unfold trackArrival
  rw [hsplit, List.foldl_append, List.foldl_cons]
  have hfront := beside_foldl (k := k) front hnodup.1.1 hm
  generalize front.foldl (fun s j => sectionArrival k j s) s = u at hfront ⊢
  have hmode := hfront.mode.trans hm
  obtain ⟨x, hx, hholds⟩ := sectionAt_sectionArrival hmode (hfront.own.trans hc) hk hb
  have hown := (Tracks.refl sec u).sectionArrival (slot := k) hmode
  have hback := beside_foldl (k := k) back hnodup.1.2 (hown.mode.trans hmode)
  have hvalue : u.slotValue k = s.slotValue k := by
    unfold State.slotValue State.slotAt
    rw [hfront.fr]
  rw [hvalue, hfront.fr] at hholds
  exact ⟨hback.mode.trans (hown.mode.trans hmode), hback.change.trans (hown.change.trans hfront.change),
    fun j => (hback.marks j).trans ((hown.marks j).trans (hfront.marks j)), x, hback.own.trans hx, hholds⟩

/-! ### An item that a slot watches (R51) -/

theorem watchSlot_spec {key : Key} {kind : WatchKind} {s : State} {k : Nat} {w : WatchEntry}
    (h : watchSlot key kind s = some k) (hw : s.slotAt k = some w) : w.key = key ∧ w.kind = kind := by
  have := List.find?_some h
  simpa [hw] using this

section
variable {i : Item} {kind : WatchKind} {s : State} {k : Nat} {w : WatchEntry} (h : watchSlot i.key kind s = some k)
  (hw : s.slotAt k = some w)
include h hw

theorem slotAt_storeValue : (storeValue k i.value i.aux s).slotAt k = some { w with
    value := i.value, aux := i.aux, lastCycle := some s.fr.cycle, lastSample := s.fr.sample
    fresh := !s.suspectStation i.station, missRun := 0 } := by
  refine (slotAt_adjustSlot hw).trans ?_
  rw [(watchSlot_spec h hw).1]
  rfl

/-- R51: the owner of a slot that a value made FRESH is told. -/
theorem storeItem_told (hs : s.suspectStation i.station = false) :
    storeItem i kind s = event (ownerArrival w.owner k) (storeValue k i.value i.aux s) := by
  unfold storeItem
  simp only [h, slotAt_storeValue h hw, hs, Bool.not_false, if_true]

/-- R55: the slot of a SUSPECT station takes its value and stays STALE (log 72). -/
theorem storeItem_suspect (hs : s.suspectStation i.station = true) :
    storeItem i kind s = storeValue k i.value i.aux s := by
  unfold storeItem
  simp only [h, slotAt_storeValue h hw, hs, Bool.not_true, Bool.false_eq_true, if_false]

end

theorem suspectStation_heardFrom {bytes : List Byte} {b : Byte} {h : Health} {s : State}
    (hh : s.healthAt b.toNat = some h) : (s.heardFrom bytes b.toNat).suspectStation b = false := by
  rw [heardFrom_eq hh]
  unfold State.suspectStation State.healthAt at *
  obtain ⟨hlt, -⟩ := List.getElem?_eq_some_iff.mp hh
  simp [State.withFr, hlt]

/-- Settles O44, by what the primary's value does to its section and to no other. -/
theorem trackCounterFollowsPrimary : Obligations.TrackCounterFollowsPrimary := by
  intro bytes f i k w sec c h s hg ho hcy hown hchange hm hi hst hkind hslot hw howner hh hs hc hsec hk hb
  have hexec := exec_returnFrame_item hg ho hcy hown hh hi hs
  have hfr := heardFrom_eq (bytes := bytes) hh
  have hsuspect : (s.heardFrom bytes f.source.toNat).suspectStation i.station = false := by
    rw [hst]
    exact suspectStation_heardFrom hh
  rw [readItemIn_report hst _ hkind] at hexec
  generalize s.heardFrom bytes f.source.toNat = heard at hexec hfr hsuspect
  have hslot' : watchSlot i.key .report heard = some k := by rw [hfr]; exact hslot
  have hw' : heard.slotAt k = some w := by rw [hfr]; exact hw
  rw [storeItem_told hslot' hw' hsuspect, howner, show ownerArrival .pt k = trackArrival k from rfl] at hexec
  have hstored := slotAt_storeValue hslot' hw'
  obtain ⟨hmode, hbc, hmarks, x, hx, hholds⟩ := sectionAt_trackArrival (s := storeValue k i.value i.aux heard)
    (by rw [hfr]; exact hm) hsec (by rw [hfr]; exact hc) hk hb
  have hvalue : (storeValue k i.value i.aux heard).slotValue k = i.value := by
    unfold State.slotValue
    rw [hstored]
  have hsample : (storeValue k i.value i.aux heard).fr.sample = s.fr.sample := by rw [hfr]; rfl
  rw [hvalue, hsample] at hholds
  have hquiet : (trackArrival k (storeValue k i.value i.aux heard)).wm.boardChange = none := by
    rw [hbc, hfr]
    exact hchange
  have hmap : (storeValue k i.value i.aux heard).mapAt sec = s.mapAt sec := by
    rw [hfr]
    rfl
  obtain ⟨b, hb⟩ := settled_setup (f := trackArrival k) hquiet hmode
  rw [hb] at hexec
  generalize trackArrival k (storeValue k i.value i.aux heard) = t at hexec hmarks hx
  refine ⟨_, x, hexec, hx, hholds.cfg, hholds.source, hholds.update, ?_, fun hp => ?_, fun hp => ?_⟩
  · exact (hmarks sec).trans (congrArg SectionMap.marks hmap)
  · refine ⟨by rw [hholds.offset, if_pos hp], ?_⟩
    rw [hholds.count, if_pos hp]
    rfl
  · exact ⟨by rw [hholds.count, if_neg hp], by rw [hholds.offset, if_neg hp]⟩

end Sys2Proof.Machine

/-! Frames of the cell controller that bring nothing of the part's own, and the requests they hold (R45, R164). -/
namespace Sys2Proof.Machine

/-! ### A good outbound frame, up to its items (R45) -/

/-- R45: what FR gathers from a frame's items. -/
def Frame.gathered (f : Frame) (s : State) : Rewrite :=
  f.items.foldl rewriteItem { acc := (s, []), items := [], requests := [], sets := [] }

/-- R45, R49: the frame goes on with what FR gathered and what it appends, and the requests are taken. -/
def Frame.relayed (f : Frame) (bytes : List Byte) (r : Rewrite) : State :=
  let a := appendOwn r.acc r.sets r.items.length
  takeItems r.requests (sendField (f.goesOn bytes (r.items ++ a.2)) a.1)

theorem restartTimer_beginCycle {cycle : Half} {now : Word} {s : State} :
    restartTimer now (beginCycle cycle now (setClock now s)) = s.begun cycle now := by
  unfold restartTimer State.begun
  cases hm : s.mu.mode with
  | setup =>
    rw [State.running_eq_false.mpr (show (beginCycle cycle now (setClock now s)).mu.mode = .setup from hm)]
    rfl
  | run =>
    rw [State.running_iff.mpr (show (beginCycle cycle now (setClock now s)).mu.mode = .run from hm)]
    rfl

/-- R45, R59: a good frame begins its cycle in the state that it finds, or that it restores. -/
theorem exec_outboundFrame_found {bytes : List Byte} {f : Frame} {now : Word} {s t : State}
    (hg : goodOutbound bytes = some f) (ht : closeWindow (restoreCell f.cycle (setClock now s)) = setClock now t) :
    exec (.outboundFrame bytes now) s = .next (f.relayed bytes (f.gathered (t.begun f.cycle now))) := by
  have hrelay : relayOutbound bytes now s = goodOutboundStep bytes f now (setClock now s) := by
    unfold relayOutbound
    rw [hg]
  rw [exec_outboundFrame, hrelay]
  unfold goodOutboundStep
  simp only [ht, restartTimer_beginCycle]
  rfl

theorem exec_outboundFrame_normal {bytes : List Byte} {f : Frame} {now : Word} {s : State}
    (hg : goodOutbound bytes = some f) (hn : s.fr.state = .normal) (hw : s.fr.windowOpen = false) :
    exec (.outboundFrame bytes now) s = .next (f.relayed bytes (f.gathered (s.begun f.cycle now))) := by
  refine exec_outboundFrame_found hg ?_
  have hrestored : restoreCell f.cycle (setClock now s) = setClock now s := by
    unfold restoreCell
    rw [show (setClock now s).fr.state = .normal from hn]
  rw [hrestored]
  exact closeWindow_closed hw

/-! ### The items one by one -/

section
variable {r : Rewrite} {i : Item}

theorem rewriteItem_unread (h : i.readKind = none) : rewriteItem r i = { r with items := r.items ++ [i] } := by
  unfold rewriteItem
  rw [h]

/-- R45: a request to the part is handed to MU. -/
theorem rewriteItem_request (h : i.readKind = some .mreq) (hw : r.acc.1.workingAddress = true)
    (ho : i.station = r.acc.1.ownByte) : rewriteItem r i = { r with requests := r.requests ++ [i] } := by
  unfold rewriteItem
  simp only [h, hw, ho, beq_self_eq_true, Bool.and_true, if_true]

theorem addressed_eq_false {s : State} {b : Byte} (ho : ¬(s.workingAddress = true ∧ b = s.ownByte)) :
    (s.workingAddress && b == s.ownByte) = false := by
  rw [← Bool.not_eq_true, Bool.and_eq_true, beq_iff_eq]
  exact ho

/-- R45, R48: an item that no entry treats goes on, a SET item once it is stored. -/
theorem rewriteItem_passes {kind : ItemKind} {s : State} (h : i.readKind = some kind)
    (ho : ¬(r.acc.1.workingAddress = true ∧ i.station = r.acc.1.ownByte))
    (hs : (if kind = .set then storeItem i .set r.acc.1 else r.acc.1) = s)
    (he : s.running = false ∨ entryOf i.key s = none) : rewriteItem r i = { r with
      acc := (s, r.acc.2), sets := if kind = .set then r.sets ++ [i.key] else r.sets, items := r.items ++ [i] } := by
  unfold rewriteItem
  simp only [h, addressed_eq_false ho, Bool.false_eq_true, if_false, hs]
  rcases he with he | he
  · rw [he]
  · rw [he]
    cases s.running <;> rfl

end

theorem adjustSlot_congr {s : State} {k : Nat} {w : WatchEntry} {f g : WatchEntry → WatchEntry} (h : s.slotAt k = some w)
    (hfg : f w = g w) : s.adjustSlot k f = s.adjustSlot k g := by
  unfold State.adjustSlot adjust
  rw [show lookup s.fr.watch k = some w from h]
  dsimp only
  rw [hfg]

theorem storeItem_unwatched {i : Item} {kind : WatchKind} {s : State} (h : watchSlot i.key kind s = none) :
    storeItem i kind s = s := by
  unfold storeItem
  rw [h]

/-! ### A relay that neither treats nor appends -/

/-- The part is in SETUP or has no channel table entry. -/
def State.relaysPlainly (s : State) : Prop := s.mu.mode = .setup ∨ s.noEntries

theorem entryOf_noEntries {s : State} (h : s.noEntries) (k : Key) : entryOf k s = none := by
  unfold entryOf
  rw [Option.bind_eq_none_iff]
  exact fun i _ => h i

theorem entries_noEntries {s : State} (h : s.noEntries) : s.entries = [] := by
  unfold State.entries
  rw [List.filterMap_eq_nil_iff]
  intro x hx
  obtain ⟨i, hi, rfl⟩ := List.mem_iff_getElem.mp hx
  have := h i
  unfold State.entryAt lookup at this
  rwa [List.getElem?_eq_getElem hi] at this

theorem State.relaysPlainly.untreated {s : State} (h : s.relaysPlainly) (k : Key) :
    s.running = false ∨ entryOf k s = none := h.imp State.running_eq_false.mpr (entryOf_noEntries · k)

theorem placeAppended_nil {n : Nat} {s : State} : placeAppended n [] s = (s, []) := by
  unfold placeAppended
  simp

theorem appendOwn_plainly {acc : State × Asked} {sets : List Key} {n : Nat} (h : acc.1.relaysPlainly) :
    appendOwn acc sets n = (acc.1, []) := by
  unfold appendOwn
  split
  · next hr =>
    rcases h with hm | he
    · rw [State.running_eq_false.mpr hm] at hr
      cases hr
    · unfold appendGroups commandGroup
      simp only [entries_noEntries he, List.foldl_nil, List.flatMap_nil]
      exact placeAppended_nil
  · rfl

/-- What FR gathered goes on as it is. -/
theorem relayed_plainly {f : Frame} {bytes : List Byte} {r : Rewrite} (h : r.acc.1.relaysPlainly) :
    f.relayed bytes r = takeItems r.requests (sendField (f.goesOn bytes r.items) r.acc.1) := by
  unfold Frame.relayed
  rw [appendOwn_plainly h]
  dsimp only
  rw [List.append_nil]

theorem goesOn_unchanged (f : Frame) (bytes : List Byte) : f.goesOn bytes f.items = bytes := if_pos rfl

/-- Items that nothing in the part reads leave the state alone. -/
theorem foldl_rewriteItem_unread {l : List Item} {s : State} (hs : s.relaysPlainly) (h : ∀ i ∈ l,
    (i.readKind.isSome = true → ¬(s.workingAddress = true ∧ i.station = s.ownByte)) ∧
    (i.readKind = some .set → watchSlot i.key .set s = none)) {r : Rewrite} (hr : r.acc.1 = s) :
    ∃ sets, l.foldl rewriteItem r = { r with items := r.items ++ l, sets := sets } := by
  induction l generalizing r with
  | nil => exact ⟨r.sets, by rw [List.append_nil]; rfl⟩
  | cons i l ih =>
    have hi := h i (List.mem_cons_self ..)
    have hrest := fun j hj => h j (List.mem_cons_of_mem i hj)
    have hone : ∃ sets, rewriteItem r i = { r with items := r.items ++ [i], sets := sets } := by
      cases hk : i.readKind with
      | none => exact ⟨_, rewriteItem_unread hk⟩
      | some kind =>
        have hstored : (if kind = .set then storeItem i .set r.acc.1 else r.acc.1) = s := by
          split
          · next hset => exact (storeItem_unwatched (hr ▸ hi.2 (hk.trans (congrArg some hset)))).trans hr
          · exact hr
        have hpasses := rewriteItem_passes hk (hr ▸ hi.1 (by rw [hk]; rfl)) hstored (hs.untreated i.key)
        rw [← hr] at hpasses
        exact ⟨_, hpasses⟩
    obtain ⟨sets, hone⟩ := hone
    rw [List.foldl_cons, hone]
    obtain ⟨sets', hall⟩ := ih hrest (r := { r with items := r.items ++ [i], sets := sets }) hr
    exact ⟨sets', hall.trans (by rw [List.append_assoc]; rfl)⟩

/-- R45: a frame of such items goes on as it came. -/
theorem relayed_unread {f : Frame} {bytes : List Byte} {s : State} (hs : s.relaysPlainly) (h : ∀ i ∈ f.items,
    (i.readKind.isSome = true → ¬(s.workingAddress = true ∧ i.station = s.ownByte)) ∧
    (i.readKind = some .set → watchSlot i.key .set s = none)) :
    f.relayed bytes (f.gathered s) = sendField bytes s := by
  obtain ⟨sets, hall⟩ := foldl_rewriteItem_unread hs h (r := { acc := (s, []), items := [], requests := [], sets := [] }) rfl
  have hgathered : f.gathered s = { acc := (s, []), items := f.items, requests := [], sets := sets } := hall
  rw [relayed_plainly (by rw [hgathered]; exact hs), hgathered]
  exact congrArg (sendField · s) (goesOn_unchanged f bytes)

/-! ### A watched SET item (R45) -/

theorem suspectStation_begun {s : State} {cycle : Half} {now : Word} {b : Byte} :
    (s.begun cycle now).suspectStation b = s.suspectStation b := by
  unfold State.suspectStation State.healthAt
  simp only [State.begun, State.withFr_fr, List.getElem?_map, Option.any_map]

/-- The value is stored in its slot, which a SUSPECT station leaves STALE (log 72). -/
theorem storeValue_eq {i : Item} {kind : WatchKind} {s : State} {k : Nat} {w : WatchEntry} {h : Health}
    (hk : watchSlot i.key kind s = some k) (hw : s.slotAt k = some w) (hh : s.healthAt i.station.toNat = some h) :
    storeValue k i.value i.aux s = s.adjustSlot k (fun w => { w with
      value := i.value, aux := i.aux, lastCycle := some s.fr.cycle, lastSample := s.fr.sample
      fresh := !h.suspect, missRun := 0 }) := by
  have hkey : w.key.station = i.station := congrArg Key.station (watchSlot_spec hk hw).1
  unfold storeValue
  refine adjustSlot_congr hw ?_
  rw [hkey]
  unfold State.suspectStation
  rw [hh]
  rfl

/-- R45, R51: an item is stored, its owner having nothing to do or its station being SUSPECT. -/
theorem storeItem_quiet {i : Item} {kind : WatchKind} {s : State} {k : Nat} {w : WatchEntry}
    (hk : watchSlot i.key kind s = some k) (hw : s.slotAt k = some w) (hb : s.wm.boardChange = none)
    (hq : s.suspectStation i.station = true ∨ w.owner = .sg ∨ w.owner = .ss) :
    storeItem i kind s = storeValue k i.value i.aux s := by
  cases hs : s.suspectStation i.station with
  | true => exact storeItem_suspect hk hw hs
  | false =>
    have hidle : ownerArrival w.owner k (storeValue k i.value i.aux s) = storeValue k i.value i.aux s := by
      rcases hq.resolve_left (by rw [hs]; decide) with ho | ho <;> rw [ho] <;> rfl
    rw [storeItem_told hk hw hs]
    exact event_sameRecords hidle hb rfl rfl rfl

theorem raiseNoPosition_setClock {k : EventKind} {a b now : Word} {s : State} :
    raiseNoPosition k a b (setClock now s) = setClock now (raiseNoPosition k a b s) := by
  unfold setClock
  rw [show (raiseNoPosition k a b s).fr = s.fr from raise_fr ..]
  exact raiseNoPosition_withFr (x := { s.fr with clock := now }) rfl

/-- Settles O5, by what becomes of the frame's items in the cycle it begins. -/
theorem outboundBeginsCycle : Obligations.OutboundBeginsCycle := by
  intro bytes f now s hg hplain hw howned
  have hbegun {t : State} (hm : t.mu.mode = s.mu.mode) (hf : t.fr.channels = s.fr.channels) :
      (t.begun f.cycle now).relaysPlainly := by
    refine hplain.imp hm.trans fun he j => ?_
    rw [← he j]
    exact congrArg (lookup · j) hf
  refine ⟨fun hn hset => ?_, fun i k w h hn hb hi hset hk hslot hh hquiet => ?_, fun hl hi => ?_⟩
  · rw [exec_outboundFrame_normal hg hn hw]
    exact congrArg _ (relayed_unread (hbegun rfl rfl) fun i hi => ⟨howned i hi, hset i hi⟩)
  · rw [exec_outboundFrame_normal hg hn hw]
    have hhealth : (s.begun f.cycle now).healthAt i.station.toNat = some { h with heard := false } := by
      unfold State.healthAt at *
      simp only [State.begun, State.withFr_fr, List.getElem?_map, hh]
      rfl
    have hstored := storeItem_quiet (s := s.begun f.cycle now) (w := w) hk hslot hb
      (hquiet.imp_left fun hs => by rw [suspectStation_begun]; unfold State.suspectStation; rw [hh]; exact hs)
    rw [storeValue_eq (s := s.begun f.cycle now) hk hslot hhealth] at hstored
    have hone := rewriteItem_passes (r := { acc := (s.begun f.cycle now, []), items := [], requests := [], sets := [] })
      hset (howned i (hi ▸ List.mem_singleton_self i) (by rw [hset]; rfl)) hstored
      ((hbegun (t := s) rfl rfl).imp State.running_eq_false.mpr (entryOf_noEntries · i.key))
    have hgathered : f.gathered (s.begun f.cycle now) = _ := (congrArg (List.foldl rewriteItem
      { acc := (s.begun f.cycle now, []), items := [], requests := [], sets := [] }) hi).trans hone
    rw [hgathered, relayed_plainly (hbegun (t := s) rfl rfl)]
    exact congrArg (fun l => Host.Outcome.next (sendField l _)) (by rw [← hi]; exact goesOn_unchanged f bytes)
  · have hrestored : closeWindow (restoreCell f.cycle (setClock now s)) = setClock now (raiseNoPosition .cellRestored
        (natWord f.cycle.toNat) (natWord s.fr.originated) (s.withFr { s.fr with state := .normal })) := by
      have hmodel : restoreCell f.cycle (setClock now s) = raiseNoPosition .cellRestored (natWord f.cycle.toNat)
          (natWord s.fr.originated) (setClock now (s.withFr { s.fr with state := .normal })) := by
        unfold restoreCell
        rw [show (setClock now s).fr.state = .lostCell from hl]
        rfl
      rw [hmodel, raiseNoPosition_setClock]
      refine closeWindow_closed ?_
      rw [← raiseNoPosition_setClock, raiseNoPosition, raise_fr]
      exact hw
    rw [exec_outboundFrame_found hg hrestored]
    refine congrArg _ (relayed_unread (hbegun ?_ ?_) fun i hi' => by rw [hi] at hi'; cases hi')
    · exact congrArg Kept.mode (kept_raise ..)
    · rw [raiseNoPosition, raise_fr]
      rfl

end Sys2Proof.Machine

/-! The requests of a frame (R164, R165). -/
namespace Sys2Proof.Machine

/-! ### The requests of a frame act as the rows they spell (R164, R165) -/

/-- Requests keep reaching MU: no reaction to one changes FR's state or its address. -/
theorem reachable_takeItem {i : Item} {s : State} (h : s.reachable = true) : (takeItem i s).reachable = true :=
  (queueSteps_standing (fun y => ((1 ≤ y.2.toNat && y.2.toNat ≤ 62) && y.1 == .normal) = true)).on_takeItem h

theorem request_reachable {k : RequestKind} {tag : Half} {l : Word} {ws : List Word} {body : State → Outcome} {s : State}
    (h : s.reachable = true) : request k tag l ws body s = takeRequest k tag l ws body s := if_pos h

/-- R164: an honoured request is the command it spells. -/
theorem takeItem_row {i : Item} {c : Instr} {s : State} (hr : requestRow i = some c) (h : s.reachable = true) :
    exec c s = .next (takeItem i s) := by
  unfold requestRow at hr
  unfold takeItem
  cases hk : RequestKind.ofCode i.channel with
  | none =>
    rw [hk] at hr
    cases hr
  | some k =>
    rw [hk] at hr
    have hmode {m : Word} {d : Instr} (hm : i.words = [m])
        (hd : exec d s = .next (request .mode i.tag i.value [m] (modeChange [m]) s)) :
        exec d s = .next (takeRequest .mode i.tag i.value i.words (perform .mode i.value i.words) s) := by
      rw [hd, request_reachable h, hm]
      rfl
    cases k
    case mode =>
      dsimp only at hr ⊢
      split at hr
      · next m hm =>
        split at hr
        · next h0 => exact Option.some.inj hr ▸ hmode hm (h0 ▸ rfl)
        · split at hr
          · next h1 => exact Option.some.inj hr ▸ hmode hm (h1 ▸ rfl)
          · cases hr
      · cases hr
    all_goals exact Option.some.inj hr ▸ congrArg Host.Outcome.next (request_reachable h)

theorem foldl_takeItem {l : List Item} {rows : List Instr} {s : State} (h : l.map requestRow = rows.map some)
    (hs : s.reachable = true) : l.foldl (fun s i => takeItem i s) s = s.afterAll rows := by
  induction l generalizing rows s with
  | nil =>
    rw [List.map_nil, eq_comm, List.map_eq_nil_iff] at h
    rw [h]
    rfl
  | cons i l ih =>
    cases rows with
    | nil => cases h
    | cons c rows =>
      rw [List.map_cons, List.map_cons, List.cons.injEq] at h
      unfold State.afterAll at ih ⊢
      rw [List.foldl_cons, List.foldl_cons, takeItem_row h.1 hs]
      exact ih h.2 (reachable_takeItem hs)

/-- R165: a refusal is a reply of one part, or is lost. -/
theorem answer_refused {tag : Half} {code : Nat} {s : State} (hc : code < 65536) :
    answer tag (refuse code s) s = s.repliedOrLost tag code := by
  have hone : partCount (Answer.refuse code).words.length = 1 := show partCount 0 = 1 by decide
  have hfit : replyFits (refuse code s).2 s = decide (s.mu.replies.length < Config.replyCapacity) := by
    unfold replyFits refuse
    rw [hone]
    rfl
  unfold answer State.repliedOrLost
  rw [hfit]
  by_cases h : s.mu.replies.length < Config.replyCapacity
  · rw [if_pos (decide_eq_true h), if_pos h]
    exact queueReply_one tag (Answer.refuse code) s hone hc (Nat.zero_le 24)
  · rw [if_neg (by simpa using h), if_neg h]
    rfl

/-- Requests to the part are all handed to MU. -/
theorem foldl_rewriteItem_requests {l : List Item} {r : Rewrite} (hw : r.acc.1.workingAddress = true)
    (h : ∀ i ∈ l, i.readKind = some .mreq ∧ i.station = r.acc.1.ownByte) :
    l.foldl rewriteItem r = { r with requests := r.requests ++ l } := by
  induction l generalizing r with
  | nil => rw [List.append_nil]; rfl
  | cons i l ih =>
    obtain ⟨hk, ho⟩ := h i (List.mem_cons_self ..)
    rw [List.foldl_cons, rewriteItem_request hk hw ho,
      ih (r := { r with requests := r.requests ++ [i] }) hw (fun j hj => h j (List.mem_cons_of_mem i hj)),
      List.append_assoc]
    rfl

/-- Settles O7, request by request. -/
theorem frameRequestsTaken : Obligations.FrameRequestsTaken := by
  intro bytes f now s hg hplain hn hw hown hreq relayed
  have hbegun : (s.begun f.cycle now).relaysPlainly := hplain
  have hexec : exec (.outboundFrame bytes now) s = .next (takeItems f.items relayed) := by
    have hgathered : f.gathered (s.begun f.cycle now) =
        { acc := (s.begun f.cycle now, []), items := [], requests := f.items, sets := [] } :=
      foldl_rewriteItem_requests hown hreq
    rw [exec_outboundFrame_normal hg hn hw, hgathered, relayed_plainly hbegun]
  have hreach : relayed.reachable = true := by
    unfold State.reachable
    rw [Bool.and_eq_true]
    exact ⟨hown, (beq_iff_eq).mpr hn⟩
  rw [hexec]
  refine ⟨fun rows hrows => ?_, fun i hi hk => ?_⟩
  · unfold takeItems
    rw [foldl_takeItem hrows hreach]
    have hbusy : (fun (t : State) (i : Item) => answer i.tag (refuse busyCode t) t) = fun t i => t.repliedOrLost i.tag 2 :=
      funext fun t => funext fun i => answer_refused (by decide)
    dsimp only
    rw [hbusy]
  · have hitem : takeItem i relayed = relayed.repliedOrLost i.tag 3 := by
      unfold takeItem
      rw [hk]
      exact answer_refused (by decide)
    rw [hi, ← hitem]
    rfl

end Sys2Proof.Machine

/-! The channel table's rewrite of an outbound frame (R48, R49, R64). -/
namespace Sys2Proof.Machine

/-! ### A channel table of one entry -/

theorem filterMap_single {α : Type} {l : List (Option α)} {k : Nat} {a : α} (h : lookup l k = some a)
    (honly : ∀ j x, lookup l j = some x → j = k) : l.filterMap id = [a] := by
  induction l generalizing k with
  | nil => cases h
  | cons x l ih =>
    cases k with
    | zero =>
      obtain rfl : x = some a := h
      have hrest : l.filterMap id = [] := by
        rw [List.filterMap_eq_nil_iff]
        intro y hy
        obtain ⟨j, hj, rfl⟩ := List.mem_iff_getElem.mp hy
        rw [Option.eq_none_iff_forall_ne_some]
        intro z hz
        have := honly (j + 1) z (by
          unfold lookup
          rw [List.getElem?_cons_succ, List.getElem?_eq_getElem hj]
          exact hz)
        omega
      rw [List.filterMap_cons_some (f := id) rfl, hrest]
    | succ k =>
      have hx : x = none := Option.eq_none_iff_forall_ne_some.mpr fun z hz => nomatch honly 0 z hz
      rw [List.filterMap_cons_none (f := id) hx]
      exact ih h fun j y hy => Nat.succ.inj (honly (j + 1) y hy)

/-- One channel table entry is loaded. -/
structure State.OneEntry (s : State) (k : Nat) (e : ChannelEntry) : Prop where
  loaded : s.entryAt k = some e
  only : ∀ j x, s.entryAt j = some x → j = k
  bound : k ≤ 127

section
variable {s : State} {k : Nat} {e : ChannelEntry} (h : s.OneEntry k e)
include h

theorem State.OneEntry.entries : s.entries = [e] := filterMap_single h.loaded h.only

theorem State.OneEntry.entryOf : entryOf e.key s = some e := by
  unfold Machine.entryOf
  have hfound : (firstIndex 128 (fun i => (s.entryAt i).any (·.key == e.key))).isSome = true := by
    refine List.find?_isSome.mpr ⟨k, List.mem_range.mpr (Nat.lt_succ_of_le h.bound), ?_⟩
    rw [h.loaded]
    exact beq_self_eq_true e.key
  obtain ⟨j, hj⟩ := Option.isSome_iff_exists.mp hfound
  have hany := List.find?_some hj
  rw [hj, Option.bind_some]
  cases hx : s.entryAt j with
  | none =>
    rw [hx] at hany
    cases hany
  | some x =>
    obtain rfl := h.only j x hx
    exact hx.symm.trans h.loaded

theorem State.OneEntry.of_channels {t : State} (ht : t.fr.channels = s.fr.channels) : t.OneEntry k e := by
  have hentry (j : Nat) : t.entryAt j = s.entryAt j := congrArg (lookup · j) ht
  exact ⟨(hentry k).trans h.loaded, fun j x hx => h.only j x ((hentry j).symm.trans hx), h.bound⟩

end

/-! ### What FR appends (R49) -/

section
variable {mode : ChannelMode} {sets : List Key} {r : (State × Asked) × List Appended} {e : ChannelEntry}

theorem setGroup_other (h : e.mode ≠ mode) : setGroup mode sets r e = r := by
  unfold setGroup
  dsimp only
  rw [bne_iff_ne.mpr h]
  rfl

theorem setGroup_command {ch : Nat} (h : e.source = some (.command ch)) : setGroup mode sets r e = r := by
  unfold setGroup
  simp only [h, Bool.or_true, Bool.true_or, if_true]

theorem setGroup_came (hm : mode = .replace) (h : e.key ∈ sets) : setGroup mode sets r e = r := by
  unfold setGroup
  simp only [hm, List.contains_iff_mem.mpr h, beq_self_eq_true, Bool.and_self, Bool.or_true, if_true]

/-- R49: the entry's value, or as an owned setpoint the idle value. -/
def ChannelEntry.given (e : ChannelEntry) (value : Option Word) (s : State) : Option Word :=
  match value with
  | some v => some v
  | none => if e.mode = ChannelMode.own then idleValue e.source s else none

theorem setGroup_given {acc : State × Asked} {value : Option Word} (hm : e.mode = mode)
    (hc : ∀ ch, e.source ≠ some (.command ch)) (hs : mode = .replace → e.key ∉ sets)
    (ha : askEntry e r.1 = (acc, value)) :
    setGroup mode sets r e = (acc, r.2 ++ ((e.given value acc.1).map (setItem e.key)).toList) := by
  have hcame : (mode == .replace && sets.contains e.key) = false := by
    rw [Bool.and_eq_false_imp]
    intro h
    rw [← Bool.not_eq_true, List.contains_iff_mem]
    exact hs (beq_iff_eq.mp h)
  subst hm
  unfold setGroup ChannelEntry.given
  simp only [bne_self_eq_false, hcame, Bool.or_false, Bool.false_eq_true, if_false, ha] <;> rfl

end

theorem appendOwn_entry {acc : State × Asked} {sets : List Key} {n : Nat} {e : ChannelEntry} (hr : acc.1.running = true)
    (he : acc.1.entries = [e]) : appendOwn acc sets n =
      let r := setGroup .replace sets (setGroup .own sets (acc, commandGroup acc.1) e) e
      placeAppended n r.2 r.1.1 := by
  unfold appendOwn appendGroups
  rw [if_pos hr]
  dsimp only
  rw [he]
  rfl

theorem commandGroup_none {s : State} {e : ChannelEntry} (he : s.entries = [e])
    (h : ∀ ch, e.source ≠ some (.command ch)) : commandGroup s = [] := by
  unfold commandGroup
  rw [he, List.flatMap_singleton]
  split
  · next hm hs => exact absurd hs (h _)
  · rfl

/-- R49: one setpoint, where the frame has room for it. -/
theorem placeAppended_room {key : Key} {v : Word} {n : Nat} {s : State} (h : n < Config.outboundItems) :
    placeAppended n [setItem key v] s = (s, [(setItem key v).item]) := by
  have hroom : [setItem key v].length ≤ Config.outboundItems - n := Nat.sub_pos_of_lt h
  unfold placeAppended
  dsimp only
  rw [if_neg (Nat.not_lt.mpr hroom), List.take_of_length_le hroom]
  rfl

/-- R49: one setpoint without room sets FRAME_FULL. -/
theorem placeAppended_full {key : Key} {v : Word} {n : Nat} {s : State} (h : ¬n < Config.outboundItems) :
    placeAppended n [setItem key v] s = (s.withFr { s.fr with frameFull := true }, []) := by
  have hroom : Config.outboundItems - n = 0 := Nat.sub_eq_zero_of_le (Nat.not_lt.mp h)
  unfold placeAppended
  dsimp only
  rw [hroom]
  rfl

/-! ### A source that is asked (R48) -/

/-- A source other than a command channel, asked first in a frame, answers a value and leaves a state. -/
structure ChannelEntry.Asks (e : ChannelEntry) (s t : State) (value : Option Word) : Prop where
  ask : ∃ l, askEntry e (s, []) = ((t, l), value)
  kept : t.kept = s.kept
  quiet : ∀ ch, e.source ≠ some (.command ch)

/-- In RUN with one entry loaded. -/
structure State.Rewrites (s : State) (k : Nat) (e : ChannelEntry) : Prop extends s.OneEntry k e where
  run : s.mu.mode = .run

theorem State.Rewrites.of_kept {s t : State} {k : Nat} {e : ChannelEntry} (h : s.Rewrites k e) (ht : t.kept = s.kept) :
    t.Rewrites k e :=
  ⟨h.toOneEntry.of_channels (congrArg (fun x => x.tables.relay.channels) ht), (congrArg Kept.mode ht).trans h.run⟩

section
variable {s : State} {k : Nat} {e : ChannelEntry} (h : s.Rewrites k e) {sets : List Key} {n : Nat}
include h

/-- An entry that passes or limits appends nothing, nor does one whose item came. -/
theorem appendOwn_none {l : Asked} (hq : ∀ ch, e.source ≠ some (.command ch)) (hown : e.mode ≠ .own)
    (hcame : e.mode = .replace → e.key ∈ sets) : appendOwn (s, l) sets n = (s, []) := by
  have hfirst : setGroup .replace sets ((s, l), ([] : List Appended)) e = ((s, l), []) := by
    by_cases hm : e.mode = .replace
    · exact setGroup_came rfl (hcame hm)
    · exact setGroup_other hm
  rw [appendOwn_entry (State.running_iff.mpr h.run) h.entries, setGroup_other hown, commandGroup_none h.entries hq, hfirst]
  exact placeAppended_nil

/-- An owned setpoint, or one that completes the frame. -/
theorem appendOwn_given {t : State} {value : Option Word} (ha : e.Asks s t value)
    (hm : e.mode = .own ∨ e.mode = .replace ∧ e.key ∉ sets) :
    appendOwn (s, []) sets n = placeAppended n ((e.given value t).map (setItem e.key)).toList t := by
  obtain ⟨l, hask⟩ := ha.ask
  rw [appendOwn_entry (State.running_iff.mpr h.run) h.entries, commandGroup_none h.entries ha.quiet]
  rcases hm with hm | ⟨hm, hs⟩
  · rw [setGroup_given hm ha.quiet (fun hr => by cases hr) hask, setGroup_other (by rw [hm]; decide)]
    rfl
  · rw [setGroup_other (mode := .own) (by rw [hm]; decide), setGroup_given hm ha.quiet (fun _ => hs) hask]
    rfl

end

/-! ### The rewrite of a frame (R48, R49) -/

section
variable {s t : State} {k : Nat} {e : ChannelEntry} {f : Frame} {bytes : List Byte} {value : Option Word}
  (h : s.Rewrites k e)
include h

/-- R48: the one item of a frame, a SET item under the entry. -/
theorem gathered_item {i : Item} {r : (State × Asked) × Option Item} (hi : f.items = [i]) (hk : i.readKind = some .set)
    (hkey : i.key = e.key) (hw : watchSlot i.key .set s = none) (ho : ¬(s.workingAddress = true ∧ i.station = s.ownByte))
    (hr : treatItem i .set e (s, []) = r) :
    f.gathered s = { acc := r.1, sets := [e.key], items := r.2.toList, requests := [] } := by
  unfold Frame.gathered
  rw [hi, List.foldl_cons, List.foldl_nil]
  unfold rewriteItem
  simp only [hk, addressed_eq_false ho, Bool.false_eq_true, if_false, if_true, storeItem_unwatched hw,
    State.running_iff.mpr h.run, hkey, h.toOneEntry.entryOf, hr]
  rfl

omit h in
/-- Items that are not read go on as they are (log 18). -/
theorem gathered_unread (hi : ∀ i ∈ f.items, i.readKind = none) :
    f.gathered s = { acc := (s, []), sets := [], items := f.items, requests := [] } := by
  have hall (l : List Item) : (∀ i ∈ l, i.readKind = none) → ∀ r : Rewrite,
      l.foldl rewriteItem r = { r with items := r.items ++ l } := by
    induction l with
    | nil =>
      intro _ r
      rw [List.append_nil]
      rfl
    | cons i l ih =>
      intro hl r
      rw [List.foldl_cons, rewriteItem_unread (hl i (List.mem_cons_self ..)),
        ih (fun j hj => hl j (List.mem_cons_of_mem i hj)), List.append_assoc]
      rfl
  exact hall f.items hi _

end

/-- The frame goes on with what is appended. -/
theorem relayed_appended {f : Frame} {bytes : List Byte} {s : State} {r : Rewrite} {a : State × List Item}
    (hr : f.gathered s = r) (hq : r.requests = []) (ha : appendOwn r.acc r.sets r.items.length = a) :
    f.relayed bytes (f.gathered s) = sendField (f.goesOn bytes (r.items ++ a.2)) a.1 := by
  unfold Frame.relayed
  rw [hr, ha, hq]
  rfl

/-- R48: what becomes of the item of an entry that is not OWN. -/
def ChannelEntry.rewritten (e : ChannelEntry) (i : Item) (value : Option Word) : Item :=
  match value with
  | some y => { i with value := if e.mode = .replace then y else clampValue i.value y (e.band.getD 0) }
  | none => i

theorem treatItem_asked {e : ChannelEntry} {i : Item} {r : State × Asked} {acc : State × Asked} {value : Option Word}
    (hm : e.mode = .replace ∨ e.mode = .clamp) (ha : askEntry e r = (acc, value)) :
    treatItem i .set e r = (acc, some (e.rewritten i value)) := by
  unfold treatItem ChannelEntry.rewritten
  rcases hm with hm | hm
  · cases value <;> simp only [hm, ha, if_true]
  · simp only [hm, ha, if_true]
    cases value <;> rfl

section
variable {s t : State} {k : Nat} {e : ChannelEntry} {f : Frame} {value : Option Word} (h : s.Rewrites k e)
  (ha : e.Asks s t value) (bytes : List Byte)
include h ha

/-- R48: a SET item that came under an entry that is not OWN. -/
theorem relayed_treated {i : Item} (hi : f.items = [i]) (hk : i.readKind = some .set) (hkey : i.key = e.key)
    (hw : watchSlot i.key .set s = none) (ho : ¬(s.workingAddress = true ∧ i.station = s.ownByte)) :
    (e.mode = .pass → f.relayed bytes (f.gathered s) = sendField (f.goesOn bytes [i]) s) ∧
    (e.mode = .replace ∨ e.mode = .clamp →
      f.relayed bytes (f.gathered s) = sendField (f.goesOn bytes [e.rewritten i value]) t) := by
  refine ⟨fun hm => ?_, fun hm => ?_⟩
  · have htreat : treatItem i .set e (s, []) = ((s, []), some i) := by
      unfold treatItem
      rw [hm]
    exact relayed_appended (gathered_item h hi hk hkey hw ho htreat) rfl
      (appendOwn_none h ha.quiet (by rw [hm]; decide) (fun hr => by rw [hm] at hr; cases hr))
  · obtain ⟨l, hask⟩ := ha.ask
    have hown : e.mode ≠ .own := fun hown => by
      rw [hown] at hm
      exact hm.elim (by decide) (by decide)
    exact relayed_appended (gathered_item h hi hk hkey hw ho (treatItem_asked hm hask)) rfl
      (appendOwn_none (h.of_kept ha.kept) ha.quiet hown (fun _ => List.mem_singleton_self _))

omit ha in
/-- R48: the item of an OWN entry gives way. -/
theorem gathered_owned {i : Item} (hi : f.items = [i]) (hk : i.readKind = some .set) (hkey : i.key = e.key)
    (hw : watchSlot i.key .set s = none) (ho : ¬(s.workingAddress = true ∧ i.station = s.ownByte)) (hm : e.mode = .own) :
    f.gathered s = { acc := (s, []), sets := [e.key], items := [], requests := [] } := by
  have htreat : treatItem i .set e (s, []) = ((s, []), none) := by
    unfold treatItem
    rw [hm]
  exact gathered_item h hi hk hkey hw ho htreat

/-- R49: an owned or completing setpoint goes behind the items, where there is room for it. -/
theorem relayed_filled {items : List Item} {sets : List Key}
    (hg : f.gathered s = { acc := (s, []), sets := sets, items := items, requests := [] })
    (hm : e.mode = .own ∨ e.mode = .replace ∧ e.key ∉ sets) :
    (e.given value t = none → f.relayed bytes (f.gathered s) = sendField (f.goesOn bytes items) t) ∧
    ∀ v, e.given value t = some v → f.relayed bytes (f.gathered s) =
      if items.length < Config.outboundItems then sendField (f.goesOn bytes (items ++ [(setItem e.key v).item])) t
      else sendField (f.goesOn bytes items) (t.withFr { t.fr with frameFull := true }) := by
  have happend := appendOwn_given h (n := items.length) ha hm
  refine ⟨fun hv => ?_, fun v hv => ?_⟩ <;> rw [hv] at happend
  · have hnone := happend.trans placeAppended_nil
    exact (relayed_appended hg rfl hnone).trans (congrArg (fun l => sendField (f.goesOn bytes l) t) (List.append_nil _))
  · split
    · next hroom => exact relayed_appended hg rfl (happend.trans (placeAppended_room hroom))
    · next hroom =>
      exact (relayed_appended hg rfl (happend.trans (placeAppended_full hroom))).trans
        (congrArg (fun l => sendField (f.goesOn bytes l) _) (List.append_nil _))

/-- R48, R49: an entry that passes or limits adds nothing to items that are not read. -/
theorem relayed_untouched (hi : ∀ i ∈ f.items, i.readKind = none) (hm : e.mode = .pass ∨ e.mode = .clamp) :
    f.relayed bytes (f.gathered s) = sendField (f.goesOn bytes f.items) s := by
  have hown : e.mode ≠ .own ∧ e.mode ≠ .replace := by rcases hm with hm | hm <;> rw [hm] <;> decide
  exact (relayed_appended (gathered_unread hi) rfl (appendOwn_none h ha.quiet hown.1 (fun hr => absurd hr hown.2))).trans
    (congrArg (fun l => sendField (f.goesOn bytes l) s) (List.append_nil _))

end

/-! ### The commands of a channel (R64) -/

/-- R64: a command placed in a frame takes its send time, once. -/
def Command.stamped (now : Word) (placed : List Item) (x : Command) : Command :=
  if placed.any (fun i => i.tag == x.tag) then { x with sendTime := some (x.sendTime.getD now) } else x

/-- R64: the commands of a channel after a frame. -/
def Channel.stamped (now : Word) (placed : List Item) (c : Channel) : Channel :=
  { c with outstanding := c.outstanding.map (Command.stamped now placed) }

theorem Command.stamped_cons (now : Word) (i : Item) (l : List Item) (x : Command) :
    (x.stamped now [i]).stamped now l = x.stamped now (i :: l) := by
  by_cases hi : (i.tag == x.tag) = true
  · have hone : x.stamped now [i] = { x with sendTime := some (x.sendTime.getD now) } :=
      if_pos (by rw [List.any_cons, hi, Bool.true_or])
    have hall : x.stamped now (i :: l) = { x with sendTime := some (x.sendTime.getD now) } :=
      if_pos (by rw [List.any_cons, hi, Bool.true_or])
    rw [hone, hall]
    unfold Command.stamped
    split <;> rfl
  · have hone : x.stamped now [i] = x := if_neg (by rw [List.any_cons, List.any_nil, Bool.or_false]; exact hi)
    rw [hone]
    unfold Command.stamped
    rw [List.any_cons, Bool.eq_false_iff.mpr hi, Bool.false_or]

theorem Channel.stamped_nil (now : Word) (c : Channel) : c.stamped now [] = c := by
  have hnone : Command.stamped now [] = id := rfl
  unfold Channel.stamped
  rw [hnone, List.map_id]

theorem Channel.stamped_cons (now : Word) (i : Item) (l : List Item) (c : Channel) :
    (c.stamped now [i]).stamped now l = c.stamped now (i :: l) := by
  unfold Channel.stamped
  rw [List.map_map]
  exact congrArg (fun l => { c with outstanding := l }) (List.map_congr_left fun x _ => Command.stamped_cons now i l x)

theorem markSent_eq {ch : Nat} {i : Item} {s : State} :
    markSent ch i.tag s = s.adjustChannel ch (Channel.stamped s.fr.sample [i]) := by
  unfold markSent Channel.stamped
  refine congrArg (s.adjustChannel ch) (funext fun c => ?_)
  refine congrArg (fun l => { c with outstanding := l }) (List.map_congr_left fun x _ => ?_)
  unfold Command.stamped
  rw [List.any_cons, List.any_nil, Bool.or_false, Bool.beq_comm (a := i.tag)]
  cases hx : x.sendTime with
  | none => simp only [Option.isNone_none, Bool.and_true, Option.getD_none]
  | some y =>
    have hkept : { x with sendTime := some y } = x := by rw [← hx]
    simp only [Option.isNone_some, Bool.and_false, Bool.false_eq_true, if_false, Option.getD_some, hkept, ite_self]

theorem adjustChannel_id {s : State} {ch : Nat} {f : Channel → Channel} (h : ∀ c, f c = c) : s.adjustChannel ch f = s := by
  unfold State.adjustChannel
  split
  · next c hc =>
    obtain ⟨hlt, hget⟩ := List.getElem?_eq_some_iff.mp hc
    have hset : s.ccu.records.set ch (f c) = s.ccu.records := by
      rw [h c, ← hget, List.set_getElem_self]
    rw [hset]
    rfl
  · rfl

/-- R64: the commands placed take their send time. -/
theorem foldl_markSent {ch : Nat} (l : List Item) (s : State) :
    l.foldl (fun s i => markSent ch i.tag s) s = s.adjustChannel ch (Channel.stamped s.fr.sample l) := by
  induction l generalizing s with
  | nil => exact (adjustChannel_id fun c => c.stamped_nil _).symm
  | cons i l ih =>
    have hsample : (s.adjustChannel ch (Channel.stamped s.fr.sample [i])).fr = s.fr := by
      obtain ⟨u, hu⟩ := adjustChannel_eq_withCcu ch (Channel.stamped s.fr.sample [i]) s
      rw [hu]
      rfl
    rw [List.foldl_cons, ih, markSent_eq, State.adjustChannel_adjustChannel, hsample]
    exact congrArg (s.adjustChannel ch) (funext fun c => c.stamped_cons ..)

theorem adjustChannel_withFr {s : State} {ch : Nat} {f : Channel → Channel} (g : FieldRelay → FieldRelay) :
    (s.withFr (g s.fr)).adjustChannel ch f = (s.adjustChannel ch f).withFr (g (s.adjustChannel ch f).fr) := by
  unfold State.adjustChannel
  rw [show (s.withFr (g s.fr)).channelAt ch = s.channelAt ch from rfl]
  cases s.channelAt ch <;> rfl

/-- R49, R64: as many commands as the frame has room for are placed. -/
theorem placeAppended_commands {ch n : Nat} {l : List Item} {s : State} :
    placeAppended n (l.map (fun i => ⟨i, some (ch, i.tag)⟩)) s =
      let placed := l.take (Config.outboundItems - n)
      let stamped := s.adjustChannel ch (Channel.stamped s.fr.sample placed)
      (if placed.length < l.length then stamped.withFr { stamped.fr with frameFull := true } else stamped, placed) := by
  have hfull : (l.take (Config.outboundItems - n)).length < l.length ↔ Config.outboundItems - n < l.length := by
    rw [List.length_take]
    omega
  have hitems (l : List Item) : (l.map (fun i => (⟨i, some (ch, i.tag)⟩ : Appended))).map (·.item) = l := by
    rw [List.map_map]
    exact List.map_id l
  unfold placeAppended
  dsimp only
  rw [← List.map_take, hitems, List.length_map, List.foldl_map]
  refine congrArg (·, _) ((foldl_markSent ..).trans ?_)
  simp only [hfull]
  split
  · exact adjustChannel_withFr (fun x => { x with frameFull := true })
  · rfl

/-- R64: an OWN entry of a command channel sends its commands. -/
theorem relayed_commands {s : State} {k ch : Nat} {e : ChannelEntry} {f : Frame} {bytes : List Byte} {l : List Item}
    (h : s.Rewrites k e) (hi : ∀ i ∈ f.items, i.readKind = none) (hm : e.mode = .own)
    (hs : e.source = some (.command ch)) (hl : s.commandItems ch = l) :
    f.relayed bytes (f.gathered s) =
      let placed := l.take (Config.outboundItems - f.items.length)
      let stamped := s.adjustChannel ch (Channel.stamped s.fr.sample placed)
      sendField (f.goesOn bytes (f.items ++ placed))
        (if placed.length < l.length then stamped.withFr { stamped.fr with frameFull := true } else stamped) := by
  have hgroup : commandGroup s = l.map (fun i => ⟨i, some (ch, i.tag)⟩) := by
    unfold commandGroup
    rw [h.entries, List.flatMap_singleton, ← hl]
    simp only [hm, hs]
  have happend := appendOwn_entry (acc := (s, [])) (sets := []) (n := f.items.length) (State.running_iff.mpr h.run) h.entries
  dsimp only at happend
  rw [setGroup_command hs, setGroup_command hs, hgroup] at happend
  exact relayed_appended (gathered_unread hi) rfl (happend.trans placeAppended_commands)

/-! ### The sources (R48) -/

theorem asks_generator {e : ChannelEntry} {g : Nat} (h : e.source = some (.generator g)) (s : State) :
    e.Asks s (generatorValue g s).1 ((generatorValue g s).2.map natWord) where
  ask := by
    unfold askEntry askSource
    rw [h]
    exact ⟨_, rfl⟩
  kept := kept_generatorValue g s
  quiet ch hs := by rw [h] at hs; cases hs

theorem asks_gate {e : ChannelEntry} (h : e.source = some .gate) (s : State) :
    e.Asks s s (s.ccu.gate.map Gate.word) where
  ask := by
    unfold askEntry askSource
    rw [h]
    exact ⟨_, rfl⟩
  kept := rfl
  quiet ch hs := by rw [h] at hs; cases hs

theorem asks_nothing {e : ChannelEntry} (h : e.source = none) (s : State) : e.Asks s s none where
  ask := by
    unfold askEntry
    rw [h]
    exact ⟨_, rfl⟩
  kept := rfl
  quiet ch hs := by rw [h] at hs; cases hs

/-- The idle value of a generator is a table's field. -/
theorem idle_of_kept {s t : State} (h : t.kept = s.kept) (g : Nat) :
    (t.generatorAt g).map (·.cfg.idle) = (s.generatorAt g).map (·.cfg.idle) := by
  have hcfg : t.ss.generators.map (Option.map (·.cfg)) = s.ss.generators.map (Option.map (·.cfg)) :=
    congrArg (fun x => x.tables.setpoints.generators) h
  have hlookup (u : State) : (u.generatorAt g).map (·.cfg) = lookup (u.ss.generators.map (Option.map (·.cfg))) g := by
    unfold State.generatorAt lookup
    rw [List.getElem?_map]
    cases u.ss.generators[g]? <;> rfl
  have hone (u : State) : (u.generatorAt g).map (·.cfg.idle) = ((u.generatorAt g).map (·.cfg)).map (·.idle) := by
    rw [Option.map_map]
    rfl
  rw [hone, hone, hlookup, hlookup, hcfg]

theorem idleValue_generator (g : Nat) (t : State) :
    idleValue (some (.generator g)) t = ((t.generatorAt g).map (·.cfg.idle)).map natWord := by
  unfold idleValue
  dsimp only
  cases t.generatorAt g <;> rfl

/-- Settles O6: the source is asked once, and then the entry's mode decides on items that came and on items to add. -/
theorem outboundRewritten : Obligations.OutboundRewritten := by
  intro bytes f now s k e hg hm hn hw hk he honly begun sent own treats
  have hexec : exec (.outboundFrame bytes now) s = .next (f.relayed bytes (f.gathered begun)) :=
    exec_outboundFrame_normal hg hn hw
  have hrewrites : begun.Rewrites k e := ⟨⟨he, honly, hk⟩, hm⟩
  have htreats {t : State} {value : Option Word} {owned : List Item} (ha : e.Asks begun t value)
      (howned : e.mode = .own → ((e.given value t).map own).toList = owned) : treats t value owned := by
    have hgiven (hr : e.mode = .replace) : e.given value t = value := by
      unfold ChannelEntry.given
      cases value with
      | some v => rfl
      | none => exact if_neg (by rw [hr]; decide)
    refine ⟨fun i hi hset hkey hwatch hother => ?_, fun hunread => ?_⟩
    · obtain ⟨hpass, htreat⟩ := relayed_treated hrewrites ha bytes hi hset hkey hwatch hother
      refine ⟨fun h => hexec.trans (congrArg _ (hpass h)), fun h => ?_, fun band h hband => ?_, fun h => ?_⟩
      · refine hexec.trans (congrArg _ ((htreat (.inl h)).trans ?_))
        unfold ChannelEntry.rewritten
        cases value <;> simp only [h, if_true]
      · refine hexec.trans (congrArg _ ((htreat (.inr h)).trans ?_))
        unfold ChannelEntry.rewritten
        simp only [h, hband]
        cases value <;> rfl
      · obtain ⟨hnone, hsome⟩ := relayed_filled hrewrites ha bytes (gathered_owned hrewrites hi hset hkey hwatch hother h)
          (.inl h)
        rw [hexec, ← howned h]
        cases hv : e.given value t with
        | none => rw [hnone hv]; rfl
        | some v => rw [hsome v hv]; rfl
    · intro fills
      have hfills (hmode : e.mode = .own ∨ e.mode = .replace ∧ e.key ∉ []) :
          exec (.outboundFrame bytes now) s = fills ((e.given value t).map own).toList := by
        obtain ⟨hnone, hsome⟩ := relayed_filled hrewrites ha bytes (gathered_unread hunread) hmode
        rw [hexec]
        cases hv : e.given value t with
        | none => exact congrArg _ (hnone hv)
        | some v =>
          rw [hsome v hv]
          exact apply_ite Host.Outcome.next ..
      exact ⟨fun h => hexec.trans (congrArg _ (relayed_untouched hrewrites ha bytes hunread h)),
        fun h => hgiven h ▸ hfills (.inr ⟨h, List.not_mem_nil⟩), fun h => howned h ▸ hfills (.inl h)⟩
  refine ⟨?_, ?_, fun hs hp => ?_, ?_⟩
  · intro g hs r
    refine htreats (asks_generator hs begun) fun hown => ?_
    unfold ChannelEntry.given
    cases hv : r.2 with
    | some y => rfl
    | none =>
      have hidle : (r.1.generatorAt g).map (·.cfg.idle) = (s.generatorAt g).map (·.cfg.idle) :=
        idle_of_kept (kept_generatorValue g begun) g
      dsimp only [Option.map_none]
      rw [if_pos hown, hs, idleValue_generator, hidle, Option.map_map, Option.map_map]
      rfl
  · intro hs value
    have hword : begun.ccu.gate.map Gate.word = value := by
      refine congrArg (s.ccu.gate.map ·) (funext fun x => ?_)
      cases x <;> rfl
    refine htreats (hword ▸ asks_gate hs begun) fun hown => ?_
    unfold ChannelEntry.given idleValue
    cases value with
    | some v => rfl
    | none => rw [hs, ite_self]
  · exact htreats (asks_nothing hs begun) fun h => by rw [h] at hp; cases hp
  · intro ch c key hs hown hunread hch hkey _ given placed stamped
    have hcommands : begun.commandItems ch = given := by
      unfold State.commandItems
      rw [show begun.channelAt ch = some c from hch]
      simp only [hkey]
      rfl
    exact hexec.trans (congrArg _ (relayed_commands hrewrites hunread hown hs hcommands))

end Sys2Proof.Machine

/-! The expiry of the return window (R53 to R56). -/
namespace Sys2Proof.Machine

/-! ### The timer (R53) -/

theorem windowDue_iff {now : Word} {s : State} : windowDue now (setClock now s) = true ↔
    s.fr.windowOpen = true ∧ s.fr.windowLen ≤ (now - s.fr.sample).toNat := by
  unfold windowDue
  rw [Bool.and_eq_true, decide_eq_true_iff]
  exact Iff.rfl

theorem exec_windowExpiry_due {now : Word} {s : State} (h : windowDue now (setClock now s) = true) :
    exec (.returnWindowExpiry now) s = .next (expiry (setClock now s)) := congrArg Host.Outcome.next (if_pos h)

/-- R56: the own return frame of a part with a working address. -/
def State.ownFrame (s : State) : Frame :=
  let room := 23 - min 6 s.mu.events.length
  { kind := 2, flags := 0, source := s.ownByte, cycle := s.fr.cycle, sample := s.fr.sample
    items := statusItem s (s.mu.events.drop 6).length (s.mu.replies.drop room).length ::
      ((s.mu.events.take 6).map (Event.item s.ownByte) ++ (s.mu.replies.take room).map (Reply.item s.ownByte)) }

theorem ownReturn_working {s : State} (h : s.workingAddress = true) :
    ownReturn s = sendCell s.ownFrame.compose (s.withMu { s.mu with
      events := s.mu.events.drop 6, replies := s.mu.replies.drop (23 - min 6 s.mu.events.length) }) := by
  have hroom : Config.ownReturnItems - 1 - (s.mu.events.take 6).length = 23 - min 6 s.mu.events.length := by
    rw [List.length_take]
    rfl
  unfold ownReturn
  rw [if_pos h]
  simp only [hroom]
  rfl

theorem ownReturn_homeless {s : State} (h : s.workingAddress = false) : ownReturn s = s := by
  unfold ownReturn
  rw [if_neg (by rw [h]; exact Bool.false_ne_true)]

/-! ### What an expiry keeps of FR -/

theorem workingAddress_congr {s t : State} (h : t.fr.ownAddr = s.fr.ownAddr) : t.workingAddress = s.workingAddress := by
  unfold State.workingAddress
  rw [h]

theorem ownByte_congr {s t : State} (h : t.fr.ownAddr = s.fr.ownAddr) : t.ownByte = s.ownByte := by
  unfold State.ownByte
  rw [h]

/-! ### The expiry as rows (log 7) -/

theorem foldl_slotStale (l : List Nat) (s : State) :
    l.foldl (fun s k => staleStep k s) s = s.afterAll (l.map .slotStale) := by
  unfold State.afterAll
  rw [List.foldl_map]
  rfl

/-- R55: a station counts a miss when it was not heard. -/
def Health.counted (h : Health) : Health := if h.heard = true then h else { h with missRun := min 255 (h.missRun + 1) }

/-- R54: a slot counts a miss when it has no value in the cycle. -/
def WatchEntry.counted (cycle : Half) (w : WatchEntry) : WatchEntry :=
  if w.lastCycle = some cycle then w else { w with missRun := min 255 (w.missRun + 1) }

theorem stationExpiry_eq (k : Nat) (s : State) : stationExpiry k s =
    if k = s.fr.ownAddr.toNat then s else suspectStep k (s.adjustHealth k Health.counted) := by
  have hcount : (fun (h : Health) => if h.heard then h else { h with missRun := bump 255 h.missRun }) = Health.counted :=
    funext fun h => by rw [bump_eq_min]; rfl
  unfold stationExpiry
  rw [hcount]

theorem countMisses_eq (s : State) :
    countMisses s = s.withFr { s.fr with watch := s.fr.watch.map (Option.map (WatchEntry.counted s.fr.cycle)) } := by
  have hcount : (fun (w : WatchEntry) => if w.lastCycle = some s.fr.cycle then w else
      { w with missRun := bump 255 w.missRun }) = WatchEntry.counted s.fr.cycle :=
    funext fun w => by rw [bump_eq_min]; rfl
  unfold countMisses
  rw [hcount]

theorem adjustHealth_standing (k : Nat) (f : Health → Health) (s : State) :
    (s.adjustHealth k f).fr.standing = s.fr.standing :=
  (queueSteps_standing (fun y => y = s.fr.standing)).on_adjustHealth (s := s) rfl

/-- R55: a station's row, after its count. -/
theorem stationExpiry_row {k : Nat} {s : State} (h1 : 1 ≤ k) (h2 : k ≤ 62) : stationExpiry k s =
    if k = s.fr.ownAddr.toNat then s else (s.adjustHealth k Health.counted).afterAll [.stationSuspect k] := by
  rw [stationExpiry_eq]
  split
  · rfl
  · next hown =>
    have haddr : (s.adjustHealth k Health.counted).fr.ownAddr = s.fr.ownAddr :=
      congrArg Prod.snd (adjustHealth_standing k Health.counted s)
    exact (if_pos ⟨h1, h2, by rw [haddr]; exact hown⟩).symm

theorem foldl_stations {s : State} {own : BitVec 6} (hs : s.fr.ownAddr = own) :
    (List.range 62).foldl (fun s k => stationExpiry (k + 1) s) s =
      (List.range' 1 62).foldl (fun t k => if k = own.toNat then t else
        (t.adjustHealth k Health.counted).afterAll [.stationSuspect k]) s := by
  rw [List.range'_eq_map_range, List.foldl_map]
  have hall (l : List Nat) (hl : ∀ k ∈ l, k < 62) (t : State) (ht : t.fr.ownAddr = own) :
      l.foldl (fun s k => stationExpiry (k + 1) s) t = l.foldl (fun t k => if 1 + k = own.toNat then t else
        (t.adjustHealth (1 + k) Health.counted).afterAll [.stationSuspect (1 + k)]) t := by
    induction l generalizing t with
    | nil => rfl
    | cons k l ih =>
      have hk := hl k (List.mem_cons_self ..)
      have hrow := stationExpiry_row (k := k + 1) (s := t) (by omega) (by omega)
      have haddr : (stationExpiry (k + 1) t).fr.ownAddr = t.fr.ownAddr :=
        congrArg (fun x => x.tables.relay.ownAddr) (kept_stationExpiry (k + 1) t)
      rw [List.foldl_cons, List.foldl_cons, ih (fun j hj => hl j (List.mem_cons_of_mem k hj)) _ (haddr.trans ht), hrow, ht,
        Nat.add_comm k 1]
  exact hall _ (fun k hk => List.mem_range.mp hk) s hs

/-- No section is RECKONED. -/
def State.noneReckoned (s : State) : Prop := ∀ i c, s.sectionAt i = some c → c.trk.source ≠ .reckoned

theorem reckonStep_idle {s : State} (h : s.noneReckoned) (sec : Nat) : reckonStep sec s = s := by
  unfold reckonStep
  split
  · rfl
  · next c hc => exact if_neg fun hr => h sec c hc hr.1

theorem trackExpiry_idle {s : State} (h : s.noneReckoned) (hb : s.wm.boardChange = none) :
    trackExpiry s = takeSnapshots s := by
  unfold trackExpiry
  rw [List.foldl_fixed' (fun sec => event_sameRecords (reckonStep_idle h sec) hb rfl rfl rfl)]

theorem examineCommands_rows (s : State) : examineCommands s = (List.range 24).foldl
    (fun t ch => (((t.channelAt ch).map (fun c => c.outstanding.map (·.tag))).getD []).foldl
      (fun t tag => t.afterAll [.cmdTimeout ch tag, .cmdOverdue ch tag]) t) s := by
  unfold examineCommands
  congr 1
  funext t ch
  cases t.channelAt ch <;> rfl

/-- R112: a web whose count is not ahead waits for nothing. -/
theorem countWaitStep_idle {s : State} (i : Nat)
    (h : s.mu.mode = .setup ∨ ∀ i w, s.webAt i = some w → w.cfg.countSlot ≠ none → w.st.countAhead = false) :
    countWaitStep i s = s := by
  unfold countWaitStep
  split
  · rfl
  · next w hw =>
    refine if_neg fun hall => ?_
    obtain ⟨⟨hr, hs⟩, ha⟩ : (s.running = true ∧ w.cfg.countSlot.isSome = true) ∧ w.st.countAhead = true := by
      simpa using hall
    rcases h with hm | h
    · rw [State.running_eq_false.mpr hm] at hr
      cases hr
    · rw [h i w hw (fun hn => by rw [hn] at hs; cases hs)] at ha
      cases ha

/-- R53: where no section is RECKONED and no splice count is ahead, an expiry is the rows of slots, stations and commands
with the cycle snapshots between them. -/
theorem expirySteps_rows {s stations examined : State}
    (hs : (List.range' 1 62).foldl (fun t k => if k = s.fr.ownAddr.toNat then t else
        (t.adjustHealth k Health.counted).afterAll [.stationSuspect k])
      ((countMisses s).afterAll ((List.range 96).map .slotStale)) = stations)
    (he : examineCommands (takeSnapshots stations) = examined) (hn : stations.noneReckoned)
    (hb : stations.wm.boardChange = none) (hbe : examined.wm.boardChange = none)
    (hc : s.mu.mode = .setup ∨ ∀ i w, examined.webAt i = some w → w.cfg.countSlot ≠ none → w.st.countAhead = false) :
    expirySteps s = examined := by
  have hslots : (countMisses s).afterAll ((List.range 96).map .slotStale) =
      (List.range 96).foldl (fun s k => staleStep k s) (countMisses s) := (foldl_slotStale ..).symm
  have hkept : ((List.range 96).foldl (fun s k => staleStep k s) (countMisses s)).kept = s.kept :=
    (kept_foldl _ (fun s k => by simp) ..).trans (kept_countMisses s)
  rw [hslots, ← foldl_stations (own := s.fr.ownAddr) (congrArg (fun x => x.tables.relay.ownAddr) hkept)] at hs
  have hstations : stations.kept = s.kept := by
    rw [← hs, kept_foldl _ (fun s k => by simp)]
    exact hkept
  have hmode : examined.mu.mode = s.mu.mode := by
    have hexamined : examined.kept = stations.kept := by
      rw [← he, kept_examineCommands]
      exact kept_takeSnapshots stations
    exact congrArg Kept.mode (hexamined.trans hstations)
  unfold expirySteps
  dsimp only
  rw [hs, trackExpiry_idle hn hb, he]
  exact List.foldl_fixed' (fun i => event_sameRecords (countWaitStep_idle i (hc.imp_left hmode.trans)) hbe rfl rfl rfl) _

/-! ### An expiry where no limit is reached -/

theorem staleStep_below {s : State} (h : ∀ k w, s.slotAt k = some w → w.fresh = true → w.missRun < w.limit) (k : Nat) :
    staleStep k s = s := by
  unfold staleStep
  split
  · rfl
  · next w hw =>
    refine if_neg fun hor => ?_
    rw [Bool.and_eq_true, decide_eq_true_iff] at hor
    exact absurd hor.2 (Nat.not_le.mpr (h k w hw hor.1))

theorem healthAt_adjustHealth {s : State} {k : Nat} {f : Health → Health} (j : Nat) (hk : 1 ≤ k) (hj : 1 ≤ j) :
    (s.adjustHealth k f).healthAt j = if j = k then (s.healthAt k).map f else s.healthAt j := by
  unfold State.adjustHealth
  cases hh : s.healthAt k with
  | none =>
    dsimp only
    split
    · next h => exact h ▸ hh
    · rfl
  | some h =>
    unfold State.healthAt at hh ⊢
    obtain ⟨hlt, -⟩ := List.getElem?_eq_some_iff.mp hh
    simp only [State.withFr_fr, List.getElem?_set]
    by_cases hjk : j = k
    · rw [if_pos (by rw [hjk]), if_pos hlt, if_pos hjk]
      rfl
    · rw [if_neg (by omega), if_neg hjk]

theorem adjustHealth_withFr (k : Nat) (f : Health → Health) (s : State) :
    s.adjustHealth k f = s.withFr { s.fr with health := (s.adjustHealth k f).fr.health } := by
  unfold State.adjustHealth
  cases s.healthAt k <;> rfl

/-- The second state differs from the first in the health of the first stations, the own address apart, which have counted
a miss. -/
structure StationsCounted (n : Nat) (s t : State) : Prop where
  frame : t = s.withFr { s.fr with health := t.fr.health }
  health : ∀ j, 1 ≤ j → t.healthAt j =
    if j ≤ n ∧ j ≠ s.fr.ownAddr.toNat then (s.healthAt j).map Health.counted else s.healthAt j

theorem suspectStep_below {k : Nat} {s : State} (h : ∀ x, s.healthAt k = some x → x.threshold ≠ 0 → x.suspect = false →
    x.missRun < x.threshold) : suspectStep k s = s := by
  unfold suspectStep
  split
  · rfl
  · next x hx => exact if_neg fun hor => absurd hor.2.1 (Nat.not_le.mpr (h x hx hor.1 hor.2.2))

/-- R55: stations that stay below their thresholds. -/
theorem stationsCounted_foldl {s : State} {n : Nat} (h : ∀ k x, 1 ≤ k → k ≤ n → k ≠ s.fr.ownAddr.toNat →
    s.healthAt k = some x → x.threshold ≠ 0 → x.suspect = false → x.counted.missRun < x.threshold) :
    StationsCounted n s ((List.range n).foldl (fun s k => stationExpiry (k + 1) s) s) := by
  induction n with
  | zero => exact ⟨rfl, fun j hj => by rw [if_neg (by omega)]; rfl⟩
  | succ n ih =>
    have ih := ih fun k x h1 hk => h k x h1 (Nat.le_succ_of_le hk)
    rw [List.range_succ, List.foldl_append, List.foldl_cons, List.foldl_nil]
    generalize (List.range n).foldl (fun s k => stationExpiry (k + 1) s) s = t at ih
    have haddr : t.fr.ownAddr = s.fr.ownAddr := by rw [ih.frame]; rfl
    rw [stationExpiry_eq, haddr]
    by_cases hown : n + 1 = s.fr.ownAddr.toNat
    · rw [if_pos hown]
      refine ⟨ih.frame, fun j hj => (ih.health j hj).trans ?_⟩
      refine if_congr ?_ rfl rfl
      constructor
      · exact fun ⟨h1, h2⟩ => ⟨by omega, h2⟩
      · exact fun ⟨h1, h2⟩ => ⟨by omega, h2⟩
    · have hsame : t.healthAt (n + 1) = s.healthAt (n + 1) := by
        rw [ih.health (n + 1) (by omega), if_neg (by omega)]
      have hbelow : suspectStep (n + 1) (t.adjustHealth (n + 1) Health.counted) = t.adjustHealth (n + 1) Health.counted := by
        refine suspectStep_below fun x hx ht hs => ?_
        rw [healthAt_adjustHealth _ (by omega) (by omega), if_pos rfl, hsame] at hx
        obtain ⟨y, hy, rfl⟩ := Option.map_eq_some_iff.mp hx
        have hfields : y.counted.threshold = y.threshold ∧ y.counted.suspect = y.suspect := by
          unfold Health.counted
          split <;> exact ⟨rfl, rfl⟩
        rw [hfields.1] at ht ⊢
        exact h (n + 1) y (by omega) (Nat.le_refl _) hown hy ht (hfields.2.symm.trans hs)
      rw [if_neg hown, hbelow]
      refine ⟨?_, fun j hj => ?_⟩
      · rw [adjustHealth_withFr, ih.frame]
        rfl
      · rw [healthAt_adjustHealth j (by omega) hj]
        by_cases hj' : j = n + 1
        · rw [if_pos hj', if_pos ⟨by omega, hj' ▸ hown⟩, hsame, hj']
        · rw [if_neg hj', ih.health j hj]
          exact if_congr (and_congr_left fun _ => by omega) rfl rfl

/-- R69, R70: no command of the outstanding lists is due. -/
def State.noneDue (s : State) : Prop := s.mu.mode = .setup ∨ ∀ ch c, s.channelAt ch = some c → ∀ y ∈ c.outstanding,
  (∀ sent, y.accepted = false → y.sendTime = some sent → (s.fr.sample - sent).toNat < c.acceptTimeout * 1000) ∧
  (∀ acc, y.accepted = true → y.overdue = false → y.acceptTime = some acc →
    (s.fr.sample - acc).toNat < c.completeTimeout * 1000)

section
variable {s : State} (h : s.noneDue) (ch : Nat) (tag : Half)
include h

theorem timeoutStep_none : timeoutStep ch tag s = s := by
  have hdue : timeoutDue ch tag s = none := by
    unfold timeoutDue
    split
    · next c hc =>
      rw [Option.filter_eq_none_iff]
      intro x hx hor
      obtain ⟨hr, ht⟩ := Bool.and_eq_true_iff.mp hor
      rcases h with hm | h
      · rw [State.running_eq_false.mpr hm] at hr
        cases hr
      · cases hsent : x.sendTime with
        | none =>
          unfold Command.timedOut at ht
          rw [hsent] at ht
          cases ht
        | some sent =>
          rw [timedOut_eq hsent, Bool.and_eq_true, Bool.not_eq_true', decide_eq_true_iff] at ht
          exact absurd ht.2 (Nat.not_le.mpr ((h ch c hc x (List.mem_of_find?_eq_some hx)).1 sent ht.1 hsent))
    · rfl
  unfold timeoutStep
  rw [hdue]

theorem overdueStep_none : overdueStep ch tag s = s := by
  unfold overdueStep
  split
  · rfl
  · next c hc =>
    split
    · rfl
    · next x hx =>
      refine if_neg fun hor => ?_
      obtain ⟨hr, ht⟩ := Bool.and_eq_true_iff.mp hor
      rcases h with hm | h
      · rw [State.running_eq_false.mpr hm] at hr
        cases hr
      · cases hacc : x.acceptTime with
        | none =>
          unfold Command.isOverdue at ht
          rw [hacc] at ht
          cases ht
        | some acc =>
          rw [isOverdue_eq hacc, Bool.and_eq_true, Bool.and_eq_true, Bool.not_eq_true', decide_eq_true_iff] at ht
          exact absurd ht.2 (Nat.not_le.mpr ((h ch c hc x (List.mem_of_find?_eq_some hx)).2 acc ht.1.1 ht.1.2 hacc))

end

theorem examineCommands_none {s : State} (h : s.noneDue) : examineCommands s = s := by
  unfold examineCommands
  refine List.foldl_fixed' (fun ch => ?_) _
  split
  · rfl
  · refine List.foldl_fixed' (fun tag => ?_) _
    rw [timeoutStep_none h, overdueStep_none h]

/-! ### Splice counts that wait (R112) -/

/-- R112: a web whose count is ahead in RUN waits one expiry more. -/
def Web.waited (run : Prop) [Decidable run] (w : Web) : Web :=
  if run ∧ w.cfg.countSlot ≠ none ∧ w.st.countAhead = true then { w with st := { w.st with countWait := w.st.countWait + 1 } }
  else w

/-- The second state differs from the first in the webs alone, of which the first have waited. -/
structure WebsWaited (n : Nat) (s t : State) : Prop where
  frame : t = s.withSc t.sc
  webs : ∀ i, t.webAt i = (s.webAt i).map (fun w => if i < n then w.waited (s.mu.mode = .run) else w)

theorem webAt_adjustWeb_ne {s : State} {i j : Nat} {f : WebState → WebState} (h : j ≠ i) :
    (s.adjustWeb i f).webAt j = s.webAt j := lookup_adjust_ne h

theorem takeFromCount_early {i : Nat} {s : State} {w : Web} (hw : s.webAt i = some w) (h : w.st.countWait < 3) :
    takeFromCount i s = s := by
  unfold takeFromCount
  rw [hw]
  dsimp only
  split
  · rfl
  · exact if_neg fun hor => absurd (of_decide_eq_true (Bool.and_eq_true_iff.mp hor).2) (Nat.not_le.mpr h)

/-- R112: one web at an expiry. -/
theorem countWaitStep_webs {i : Nat} {s : State}
    (hlow : s.mu.mode = .setup ∨ ∀ w, s.webAt i = some w → w.st.countWait < 2) :
    ∃ t, countWaitStep i s = t ∧ t = s.withSc t.sc ∧ ∀ j, t.webAt j =
      if j = i then (s.webAt i).map (Web.waited (s.mu.mode = .run)) else s.webAt j := by
  have hcond (w : Web) : (s.running && w.cfg.countSlot.isSome && w.st.countAhead) = true ↔
      s.mu.mode = .run ∧ w.cfg.countSlot ≠ none ∧ w.st.countAhead = true := by
    rw [Bool.and_eq_true, Bool.and_eq_true, State.running_iff, Option.isSome_iff_ne_none, and_assoc]
  have hstays (h : (s.webAt i).map (Web.waited (s.mu.mode = .run)) = s.webAt i) (j : Nat) : s.webAt j =
      if j = i then (s.webAt i).map (Web.waited (s.mu.mode = .run)) else s.webAt j := by
    split
    · next hj => rw [h, hj]
    · rfl
  unfold countWaitStep
  cases hw : s.webAt i with
  | none => exact ⟨s, rfl, rfl, hw ▸ hstays (by rw [hw]; rfl)⟩
  | some w =>
    by_cases h : (s.running && w.cfg.countSlot.isSome && w.st.countAhead) = true
    · obtain ⟨hr, -⟩ := (hcond w).mp h
      have hlow : w.st.countWait < 2 := hlow.resolve_left (by rw [hr]; decide) w hw
      have hmin : min 3 (w.st.countWait + 1) = w.st.countWait + 1 := by omega
      have hearly := takeFromCount_early (webAt_adjustWeb (f := fun x => { x with countWait := min 3 (x.countWait + 1) }) hw)
        (show min 3 (w.st.countWait + 1) < 3 by omega)
      refine ⟨_, (if_pos h).trans hearly, rfl, fun j => ?_⟩
      split
      · next hj =>
        subst hj
        refine (webAt_adjustWeb hw).trans (congrArg some ?_)
        unfold Web.waited
        rw [if_pos ((hcond w).mp h), hmin]
      · next hj => exact webAt_adjustWeb_ne hj
    · have hkept : w.waited (s.mu.mode = .run) = w := if_neg (mt (hcond w).mpr h)
      refine ⟨s, if_neg h, rfl, ?_⟩
      exact hw ▸ hstays (by rw [hw, Option.map_some, hkept])

theorem WebsWaited.refl (s : State) : WebsWaited 0 s s :=
  ⟨rfl, fun i => by simp⟩

/-- R112: the webs wait one by one. -/
theorem websWaited_foldl {s : State} {n : Nat} (hb : s.wm.boardChange = none)
    (hlow : s.mu.mode = .setup ∨ ∀ i w, s.webAt i = some w → w.st.countWait < 2) :
    WebsWaited n s ((List.range n).foldl (fun s i => event (countWaitStep i) s) s) := by
  induction n with
  | zero => exact WebsWaited.refl s
  | succ n ih =>
    rw [List.range_succ, List.foldl_append, List.foldl_cons, List.foldl_nil]
    generalize (List.range n).foldl (fun s i => event (countWaitStep i) s) s = t at ih
    have hmode : t.mu.mode = s.mu.mode := by rw [ih.frame]; rfl
    have hchange : t.wm.boardChange = none := by rw [ih.frame]; exact hb
    have hsame : t.webAt n = s.webAt n := by
      rw [ih.webs n]
      simp
    obtain ⟨u, hu, huframe, huwebs⟩ := countWaitStep_webs (i := n) (s := t)
      (hlow.imp hmode.trans fun h w hw => h n w (hsame.symm.trans hw))
    rw [event_sameRecords hu (by rw [huframe]; exact hchange) (by rw [huframe]; rfl) (by rw [huframe]; rfl)
      (by rw [huframe]; rfl)]
    refine ⟨?_, fun j => ?_⟩
    · rw [huframe, ih.frame]
      rfl
    · rw [huwebs j, hmode, hsame]
      by_cases hj : j = n
      · subst hj
        simp
      · have hlt : (j < n) = (j < n + 1) := propext ⟨by omega, by omega⟩
        rw [if_neg hj, ih.webs j]
        simp only [hlt]

end Sys2Proof.Machine

/-! What an expiry does (R53 to R56, R112). -/
namespace Sys2Proof.Machine

/-- R53: an expiry where no slot, station or command reaches its limit. -/
theorem expirySteps_quiet {s : State}
    (hslots : ∀ k w, s.slotAt k = some w → w.fresh = true → (w.counted s.fr.cycle).missRun < w.limit)
    (hstations : ∀ k x, 1 ≤ k → k ≤ 62 → k ≠ s.fr.ownAddr.toNat → s.healthAt k = some x → x.threshold ≠ 0 →
      x.suspect = false → x.counted.missRun < x.threshold)
    (hn : s.noneReckoned) (hb : s.wm.boardChange = none) (hd : s.noneDue)
    (hw : s.mu.mode = .setup ∨ ∀ i w, s.webAt i = some w → w.st.countWait < 2) :
    expirySteps s = (takeSnapshots ((countMisses s).withFr { (countMisses s).fr with
      health := (expirySteps s).fr.health })).withSc (expirySteps s).sc ∧
    (∀ k, 1 ≤ k → (expirySteps s).healthAt k =
      if k ≤ 62 ∧ k ≠ s.fr.ownAddr.toNat then (s.healthAt k).map Health.counted else s.healthAt k) ∧
    ∀ i, (expirySteps s).webAt i = (s.webAt i).map (fun w => if i < 6 then w.waited (s.mu.mode = .run) else w) := by
  have hstale (k : Nat) : staleStep k (countMisses s) = countMisses s := by
    refine staleStep_below (fun j w hj hf => ?_) k
    have hmap : (countMisses s).slotAt j = (s.slotAt j).map (WatchEntry.counted s.fr.cycle) := by
      rw [countMisses_eq]
      unfold State.slotAt lookup
      rw [State.withFr_fr, List.getElem?_map]
      cases s.fr.watch[j]? <;> rfl
    rw [hmap] at hj
    obtain ⟨v, hv, rfl⟩ := Option.map_eq_some_iff.mp hj
    have hfields : (v.counted s.fr.cycle).fresh = v.fresh ∧ (v.counted s.fr.cycle).limit = v.limit := by
      unfold WatchEntry.counted
      split <;> exact ⟨rfl, rfl⟩
    rw [hfields.2]
    exact hslots j v hv (hfields.1.symm.trans hf)
  have hcounted := stationsCounted_foldl (s := countMisses s) (n := 62) (by rw [countMisses_eq]; exact hstations)
  have hsteps : expirySteps s = (List.range 6).foldl (fun s i => event (countWaitStep i) s) (examineCommands (trackExpiry
      ((List.range 62).foldl (fun s k => stationExpiry (k + 1) s) (countMisses s)))) := by
    have hall : (List.range 96).foldl (fun s k => staleStep k s) (countMisses s) = countMisses s :=
      List.foldl_fixed' hstale _
    unfold expirySteps
    simp only [hall]
  generalize (List.range 62).foldl (fun s k => stationExpiry (k + 1) s) (countMisses s) = t at hcounted hsteps
  have ht : t = (countMisses s).withFr { (countMisses s).fr with health := t.fr.health } := hcounted.frame
  have htrack : trackExpiry t = takeSnapshots t := trackExpiry_idle (by rw [ht, countMisses_eq]; exact hn)
    (by rw [ht, countMisses_eq]; exact hb)
  have hcommands : examineCommands (takeSnapshots t) = takeSnapshots t :=
    examineCommands_none (by rw [ht, countMisses_eq]; exact hd)
  rw [htrack, hcommands] at hsteps
  have hwaited := websWaited_foldl (s := takeSnapshots t) (n := 6) (by rw [ht, countMisses_eq]; exact hb)
    (by rw [ht, countMisses_eq]; exact hw)
  rw [← hsteps] at hwaited
  generalize expirySteps s = x at hwaited
  have hfr : x.fr = t.fr := by rw [hwaited.frame]; rfl
  have hmode : (takeSnapshots t).mu.mode = s.mu.mode := by rw [ht, countMisses_eq]; rfl
  refine ⟨?_, fun k hk => ?_, fun i => ?_⟩
  · rw [hfr, ← ht]
    exact hwaited.frame
  · have hhealth : x.healthAt k = t.healthAt k := by
      unfold State.healthAt
      rw [hfr]
    rw [hhealth, hcounted.health k hk, countMisses_eq]
    rfl
  · have hwebs : (takeSnapshots t).webAt i = s.webAt i := by rw [ht, countMisses_eq]; rfl
    rw [hwaited.webs i, hwebs, hmode]

/-- R112: the webs of an expiry are the 6 there are. -/
theorem waited_below (run : Prop) [Decidable run] (w : Web) (i : Nat) : (if i < 6 then w.waited run else w) =
    if run ∧ i ≤ 5 ∧ w.cfg.countSlot ≠ none ∧ w.st.countAhead = true then
      { w with st := { w.st with countWait := w.st.countWait + 1 } }
    else w := by
  unfold Web.waited
  by_cases hi : i < 6
  · rw [if_pos hi]
    exact if_congr (by simp only [Nat.lt_succ_iff.mp hi, true_and]) rfl rfl
  · rw [if_neg hi, if_neg (fun h => hi (Nat.lt_succ_of_le h.2.1))]

/-- Settles O11: the timer, the own return frame, and the steps as rows or, below every limit, as counts. -/
theorem windowExpires : Obligations.WindowExpires := by
  intro now s
  refine ⟨fun hn => ?_, fun ho hl => ?_⟩
  · exact congrArg Host.Outcome.next (if_neg (mt windowDue_iff.mp hn))
  · intro x room left frame
    have hexec := exec_windowExpiry_due (windowDue_iff.mpr ⟨ho, hl⟩)
    have hx : expirySteps (setClock now s) = x := rfl
    have hkept : x.kept = s.kept := hx ▸ (kept_beforeReturn _).trans (kept_setClock now s)
    unfold expiry at hexec
    rw [hx] at hexec
    clear_value x
    have haddr : x.fr.ownAddr = s.fr.ownAddr := congrArg (fun x => x.tables.relay.ownAddr) hkept
    have hframe : x.ownFrame = frame := by
      unfold State.ownFrame
      rw [ownByte_congr haddr]
      rfl
    refine ⟨fun hw => ?_, fun hw => ?_, congrArg Kept.tables hkept, congrArg Kept.mode hkept,
      congrArg Kept.replies hkept, congrArg Kept.pending hkept, ?_, ?_⟩
    · rw [hexec, ownReturn_working ((workingAddress_congr haddr).trans hw), hframe]
      rfl
    · rw [hexec, ownReturn_homeless ((workingAddress_congr haddr).trans hw)]
    · intro examinedStations examined hn hb hbe hc
      refine hx.symm.trans (expirySteps_rows (stations := examinedStations) ?_ (examineCommands_rows _) hn hb hbe hc)
      rw [countMisses_eq]
      rfl
    · intro hslots hstations hn hb hd hw
      obtain ⟨hframe, hhealth, hwebs⟩ := expirySteps_quiet (s := setClock now s) hslots hstations hn hb hd hw
      rw [hx, countMisses_eq] at hframe
      rw [hx] at hhealth hwebs
      refine ⟨hframe, hhealth, fun i => (hwebs i).trans (congrArg (Option.map · (s.webAt i)) (funext fun w => ?_))⟩
      exact waited_below (s.mu.mode = .run) w i

end Sys2Proof.Machine

/-! A cut that is done (R138, R140, R145). -/
namespace Sys2Proof.Machine

/-! ### What planning and the end of the event leave (R134, R137) -/

/-- The second state differs from the first as planning, feeding and the end of an event may change it: the pieces, the last
cut, the stacker and what the channels remember stay, a SENT head of the plan with the base before it too, and events are
added alone. -/
structure FedFrom (u t : State) : Prop where
  answers : t.ccu.records.map (fun c => (c.recent, c.fault)) = u.ccu.records.map (fun c => (c.recent, c.fault))
  pieces : t.cp.pieces = u.cp.pieces
  lastCut : t.cp.lastCut = u.cp.lastCut
  gate : t.sg = u.sg
  head : ∀ e rest, u.cp.plan = e :: rest → e.sent.isSome = true →
    (∃ later, t.cp.plan = e :: later) ∧ t.cp.base = u.cp.base ∧ t.cp.frontFault = u.cp.frontFault
  events : u.mu.events <+: t.mu.events

theorem FedFrom.refl (u : State) : FedFrom u u :=
  ⟨rfl, rfl, rfl, rfl, fun _ rest h _ => ⟨⟨rest, h⟩, rfl, rfl⟩, List.prefix_refl _⟩

theorem swapSteps_fedFrom (u : State) : SwapSteps (FedFrom u) where
  on_raise h := by
    obtain ⟨hans, hp, hl, hg, hh, he⟩ := h
    exact ⟨by rw [raise_ccu, hans], by rw [raise_cp, hp], by rw [raise_cp, hl], by rw [raise_sg, hg],
      by rw [raise_cp]; exact hh, prefix_raise he⟩
  on_wm h := ⟨h.answers, h.pieces, h.lastCut, h.gate, h.head, h.events⟩
  on_sc h := ⟨h.answers, h.pieces, h.lastCut, h.gate, h.head, h.events⟩
  on_ss h := ⟨h.answers, h.pieces, h.lastCut, h.gate, h.head, h.events⟩
  on_sp h := ⟨h.answers, h.pieces, h.lastCut, h.gate, h.head, h.events⟩
  on_commands hx h := ⟨hx.answers.trans h.answers, h.pieces, h.lastCut, h.gate, h.head, h.events⟩
  on_plan hx h := ⟨h.answers, hx.pieces.trans h.pieces, hx.lastCut.trans h.lastCut, h.gate, fun e rest hu hs => by
    obtain ⟨⟨later, hlater⟩, hbase, hfault⟩ := h.head e rest hu hs
    obtain ⟨hplan, hbase', hfault'⟩ := hx.head e later hlater hs
    exact ⟨hplan, hbase'.trans hbase, hfault'.trans hfault⟩, h.events⟩

theorem settleSteps_fedFrom (u : State) : SettleSteps (FedFrom u) :=
  (swapSteps_fedFrom u).settles fun _ h => ⟨h.answers, h.pieces, h.lastCut, h.gate, h.head, h.events⟩

/-! ### The piece that a cut forms (R140, R145) -/

/-- R145: the route of a piece that its list takes: a PASS that it no longer merits is withdrawn before the gate. -/
def Piece.withdrawn (p : Piece) (gate : Word) (s : State) : Option Route :=
  if p.route = some .pass then
    match pieceFault s p with
    | some r => if 0 < sdist gate p.lead then some (.divert r) else some .pass
    | none => some .pass
  else p.route

theorem publishRoute_frame (r : Route) (s : State) : (publishRoute r s).ccu.records = s.ccu.records ∧
    (publishRoute r s).sg.forward = s.sg.forward ∧ (publishRoute r s).fr = s.fr := by
  unfold publishRoute
  split <;> exact ⟨rfl, rfl, rfl⟩

theorem withdrawCheck_spec {p : Piece} {gate : Word} {s : State} (hg : s.materialAt .gate = some gate) :
    (withdrawCheck p s).2 = { p with route := p.withdrawn gate s } ∧
    (withdrawCheck p s).1.cp = s.cp ∧ (withdrawCheck p s).1.ccu.records = s.ccu.records ∧
    (withdrawCheck p s).1.sg.forward = s.sg.forward ∧ (withdrawCheck p s).1.fr = s.fr ∧
    (p.route ≠ some .pass → (withdrawCheck p s).1 = s) := by
  unfold withdrawCheck Piece.withdrawn
  by_cases hp : p.route = some .pass
  · rw [if_pos hp, if_pos hp]
    cases hf : pieceFault s p with
    | none => exact ⟨by rw [← hp], rfl, rfl, rfl, rfl, fun _ => rfl⟩
    | some r =>
      rw [hg]
      dsimp only
      by_cases hd : 0 < sdist gate p.lead
      · rw [if_pos hd, if_pos hd]
        obtain ⟨hccu, hsg, hfr⟩ := publishRoute_frame (.divert r) (raise .gateWithdrawn (match p.order with
          | some k => k.number
          | none => 0) p.lead (natWord r.code) s)
        exact ⟨rfl, (publishRoute_cp ..).trans (raise_cp ..), hccu.trans (congrArg Channels.records (raise_ccu ..)),
          hsg.trans (congrArg StackGate.forward (raise_sg ..)), hfr.trans (raise_fr ..), fun h => absurd hp h⟩
      · rw [if_neg hd, if_neg hd]
        exact ⟨by rw [← hp], rfl, rfl, rfl, rfl, fun _ => rfl⟩
  · rw [if_neg hp, if_neg hp]
    exact ⟨rfl, rfl, rfl, rfl, rfl, fun _ => rfl⟩

/-- R140: the route that was decided for a leading edge. -/
def State.forwardRoute (s : State) (lead : Word) : Option Route :=
  (s.sg.forward.filter (·.lead == lead)).map (·.route)

theorem admitPiece_spec {p : Piece} {gate : Word} {s : State} (hg : s.materialAt .gate = some gate) :
    (admitPiece p s).cp = { s.cp with pieces := s.cp.pieces ++
      [{ p with route := ({ p with route := s.forwardRoute p.lead } : Piece).withdrawn gate s }] } ∧
    (admitPiece p s).ccu.records = s.ccu.records ∧ (admitPiece p s).sg.forward = none ∧ (admitPiece p s).fr = s.fr ∧
    (s.sg.forward = none → (admitPiece p s).mu = s.mu) := by
  obtain ⟨hpiece, hcp, hccu, hforward, hfr, hkept⟩ := withdrawCheck_spec (p := { p with route := s.forwardRoute p.lead })
    (s := s.withSg { s.sg with forward := none }) (gate := gate) hg
  have hroute : ({ p with route := s.forwardRoute p.lead } : Piece).withdrawn gate (s.withSg { s.sg with forward := none }) =
      ({ p with route := s.forwardRoute p.lead } : Piece).withdrawn gate s := rfl
  rw [hroute] at hpiece
  unfold admitPiece
  dsimp only
  rw [show (s.sg.forward.filter (·.lead == p.lead)).map (·.route) = s.forwardRoute p.lead from rfl]
  refine ⟨?_, hccu, hforward, hfr, fun hnone => ?_⟩
  · rw [hpiece, hcp]
    rfl
  · have hunrouted : s.forwardRoute p.lead ≠ some .pass := by
      unfold State.forwardRoute
      rw [hnone]
      exact Option.some_ne_none _ ∘ Eq.symm
    rw [hkept hunrouted]
    rfl

/-! ### A cut made (R138) -/

/-- R138: where the piece that ends at a cut begins. -/
def State.cutFrom (s : State) (a : Word) : Word := (s.cp.lastCut <|> s.cp.base).getD a

/-- R138: the piece that a cut at `a` ends. -/
def State.cutPiece (s : State) (e : CutEntry) (a : Word) : Piece :=
  { lead := s.cutFrom a, trail := a, good := e.good, cause := e.cause, order := e.order
    cutFault := s.cp.frontFault || decide (s.cp.cutTol < (sdist e.target a).natAbs), route := none, tallied := false }

/-- What a cut leaves of the Cut Planner, the stacker, the channels and the events. -/
structure CutLeaves (s t : State) (e : CutEntry) (a gate : Word) (forms off : Bool) : Prop where
  records : t.ccu.records = s.ccu.records
  plan : t.cp.plan = s.cp.plan.tail
  base : t.cp.base = some e.target
  fault : t.cp.frontFault = (off || !forms)
  formed : forms = true → t.cp.pieces = s.cp.pieces ++ [{ s.cutPiece e a with
    route := ({ s.cutPiece e a with route := s.forwardRoute (s.cutFrom a) } : Piece).withdrawn gate s }] ∧
    t.cp.lastCut = some a ∧ t.sg.forward = none
  unformed : forms = false → t.cp.pieces = s.cp.pieces ∧ t.sg.forward = s.sg.forward ∧
    t.cp.lastCut = (s.cp.lastCut <|> s.cp.base)
  events : s.mu.events.length < Config.eventCapacity → s.sg.forward = none → (off || !forms) = true →
    t.mu.events = s.mu.events ++ [⟨.cutOffTol, e.tagWord, a, wordOf (sdist e.target a), s.fr.cycle⟩]

/-- An event that is raised or not. -/
theorem raiseIf_frame {v : Bool} {k : EventKind} {x y z : Word} {u : State} :
    (if v = true then raise k x y z u else u).ccu = u.ccu ∧ (if v = true then raise k x y z u else u).cp = u.cp ∧
    (if v = true then raise k x y z u else u).sg = u.sg ∧ (u.mu.events.length < Config.eventCapacity → v = true →
      (if v = true then raise k x y z u else u).mu.events = u.mu.events ++ [⟨k, x, y, z, u.fr.cycle⟩]) := by
  cases v with
  | false => exact ⟨rfl, rfl, rfl, fun _ h => nomatch h⟩
  | true =>
    rw [if_pos rfl]
    exact ⟨raise_ccu .., raise_cp .., raise_sg .., fun h _ => raise_events_room h⟩

/-- R138: the end of a cut, once its piece is formed or not. -/
def cutEnded (e : CutEntry) (a : Word) (raised : Bool) (u : State) : State :=
  let v := if raised = true then raise .cutOffTol e.tagWord a (wordOf (sdist e.target a)) u else u
  v.withCp { v.cp with plan := v.cp.plan.tail, base := some e.target }

theorem cutMade_eq (e : CutEntry) (a : Word) (s : State) : cutMade e a s =
    let off := decide (s.cp.cutTol < (sdist e.target a).natAbs)
    if decide ((s.cp.minPiece : Int) ≤ sdist (s.cutFrom a) a) = true then
      cutEnded e a off ((admitPiece (s.cutPiece e a) s).withCp { (admitPiece (s.cutPiece e a) s).cp with
        lastCut := some a, frontFault := off })
    else cutEnded e a true (s.withCp { s.cp with lastCut := s.cp.lastCut <|> s.cp.base, frontFault := true }) := by
  unfold cutMade cutEnded
  dsimp only
  rw [show (s.cp.lastCut <|> s.cp.base).getD a = s.cutFrom a from rfl]
  by_cases h : decide ((s.cp.minPiece : Int) ≤ sdist (s.cutFrom a) a) = true
  · simp only [h, if_true, Bool.not_true, Bool.or_false]
    rfl
  · simp only [h, Bool.not_false, Bool.or_true, if_true]
    rfl

theorem cutEnded_frame (e : CutEntry) (a : Word) (v : Bool) (u : State) :
    (cutEnded e a v u).ccu = u.ccu ∧ (cutEnded e a v u).cp = { u.cp with plan := u.cp.plan.tail, base := some e.target } ∧
    (cutEnded e a v u).sg = u.sg ∧ (u.mu.events.length < Config.eventCapacity → v = true → (cutEnded e a v u).mu.events =
      u.mu.events ++ [⟨.cutOffTol, e.tagWord, a, wordOf (sdist e.target a), u.fr.cycle⟩]) := by
  obtain ⟨hccu, hcp, hsg, hevents⟩ := raiseIf_frame (v := v) (k := .cutOffTol) (x := e.tagWord) (y := a)
    (z := wordOf (sdist e.target a)) (u := u)
  unfold cutEnded
  dsimp only
  refine ⟨hccu, ?_, hsg, hevents⟩
  rw [State.withCp_cp, hcp]

theorem cutMade_leaves {s : State} {e : CutEntry} {a gate : Word} (hg : s.materialAt .gate = some gate) :
    CutLeaves s (cutMade e a s) e a gate (decide ((s.cp.minPiece : Int) ≤ sdist (s.cutFrom a) a))
      (decide (s.cp.cutTol < (sdist e.target a).natAbs)) := by
  obtain ⟨hcp, hccu, hforward, hfr, hmu⟩ := admitPiece_spec (p := s.cutPiece e a) (s := s) hg
  rw [cutMade_eq]
  dsimp only
  by_cases h : decide ((s.cp.minPiece : Int) ≤ sdist (s.cutFrom a) a) = true
  · rw [if_pos h, h]
    obtain ⟨hc, hp, hs, he⟩ := cutEnded_frame e a (decide (s.cp.cutTol < (sdist e.target a).natAbs))
      ((admitPiece (s.cutPiece e a) s).withCp { (admitPiece (s.cutPiece e a) s).cp with
        lastCut := some a, frontFault := decide (s.cp.cutTol < (sdist e.target a).natAbs) })
    generalize cutEnded e a _ _ = t at hc hp hs he
    rw [State.withCp_cp, hcp] at hp
    refine ⟨?_, ?_, ?_, ?_, fun _ => ⟨?_, ?_, ?_⟩, (nomatch ·), fun hroom hnone hoff => ?_⟩
    · exact (congrArg Channels.records hc).trans hccu
    · rw [hp]
    · rw [hp]
    · rw [hp, Bool.not_true, Bool.or_false]
    · rw [hp]
      rfl
    · rw [hp]
    · rw [hs]
      exact hforward
    · have hevents : ((admitPiece (s.cutPiece e a) s).withCp { (admitPiece (s.cutPiece e a) s).cp with
          lastCut := some a, frontFault := decide (s.cp.cutTol < (sdist e.target a).natAbs) }).mu.events = s.mu.events :=
        congrArg Management.events (hmu hnone)
      rw [hevents] at he
      rw [he hroom (by simpa using hoff), State.withCp_fr, hfr]
  · rw [if_neg h, Bool.eq_false_iff.mpr h]
    obtain ⟨hc, hp, hs, he⟩ := cutEnded_frame e a true
      (s.withCp { s.cp with lastCut := s.cp.lastCut <|> s.cp.base, frontFault := true })
    generalize cutEnded e a _ _ = t at hc hp hs he
    refine ⟨congrArg Channels.records hc, ?_, ?_, ?_, (nomatch ·), fun _ => ⟨?_, ?_, ?_⟩, fun hroom _ _ => he hroom rfl⟩
    · rw [hp]
      rfl
    · rw [hp]
    · rw [hp, Bool.not_false, Bool.or_true]
      rfl
    · rw [hp]
      rfl
    · rw [hs]
      rfl
    · rw [hp]
      rfl

/-- R138: COMPLETE for the head of the plan. -/
theorem knifeTold_complete {s : State} {tag : Half} {verb : Verb} {ws : List Word} {first : Option Word} {b : Nat}
    {e : CutEntry} {rest : List CutEntry} (hp : s.cp.plan = e :: rest) (he : e.sent = some tag) (hb : s.boardIndex = some b) :
    knifeTold (.complete tag verb ws first) s = planAndFeed (cutMade e (match first with
      | some w => toTrack s ⟨b, s.cp.role⟩ w
      | none => e.target) s) := by
  show cutComplete tag first s = _
  unfold cutComplete
  rw [hp, sentPlace_head he, hb]
  dsimp only [missAhead]
  rw [hp] <;> cases first <;> rfl

theorem promoted_stays (enter : Command → Command) (c : Channel) :
    (c.promoted enter).cls = c.cls ∧ (c.promoted enter).recent = c.recent := by
  unfold Channel.promoted
  split
  · split <;> exact ⟨rfl, rfl⟩
  · exact ⟨rfl, rfl⟩

/-- R66: the channel of a command that has ended. -/
theorem endCommand_leaves {s : State} {ch : Nat} {tag : Half} {c : Channel} (hc : s.channelAt ch = some c) :
    ∃ v d, endCommand ch tag s = s.withCcu v ∧ (s.withCcu v).channelAt ch = some d ∧ d.cls = c.cls ∧
      d.recent = rememberTag tag c.recent := by
  let g : Channel → Channel := fun c => ({ c with
    outstanding := c.outstanding.filter (·.tag != tag), recent := rememberTag tag c.recent } : Channel).promoted (translate s)
  obtain ⟨v, hv⟩ := adjustChannel_eq_withCcu ch g s
  have hat : (s.withCcu v).channelAt ch = some (g c) := hv ▸ channelAt_adjustChannel hc
  refine ⟨v, g c, (endCommand_eq hc rfl).trans hv, hat, (promoted_stays ..).1, (promoted_stays ..).2⟩

/-- Settles O52, through what the cut leaves and what planning and the event's end keep of it. -/
theorem knifeDoneFormsPiece : Obligations.KnifeDoneFormsPiece := by
  intro bytes f i ch b c x e rest gate h s hg ho hcy hown hbc hi hst hh hs hk hv hm hch hc hcls hf hknife hx hplan he hb
    hgate a dev off last forms piece forward route
  have hexec := exec_returnFrame_item hg ho hcy hown hh hi hs
  rw [readItemIn_done hst _ hk] at hexec
  obtain ⟨y, hheard, hcycle⟩ : ∃ y, s.heardFrom bytes f.source.toNat = s.withFr y ∧ y.cycle = s.fr.cycle :=
    ⟨_, heardFrom_eq hh, rfl⟩
  have hchannel : (s.withFr y).channelAt ch = some c := hc
  rw [hheard, handAnswer_done (s := s.withFr y) (ch := ch) hch] at hexec
  obtain ⟨v, d, hend, hd, hdcls, hdrecent⟩ := endCommand_leaves (tag := i.tag) hchannel
  have htag : x.tag = i.tag := by simpa using List.find?_some hx
  have houtcome : doneOutcome c.cls x i.value i.words = .complete i.tag x.verb i.words i.words.head? := by
    unfold doneOutcome
    rw [hv, htag]
    rfl
  have htold : tellAnswer ch (takeDone ch i.tag i.value i.words (s.withFr y)) =
      planAndFeed (cutMade e a ((s.withFr y).withCcu v)) := by
    rw [takeDone_found (v := i.value) (ws := i.words) hchannel hf hx, hend, houtcome]
    refine (tellJob_knife (s := (s.withFr y).withCcu v) hm hd (hdcls.trans hcls) hknife).trans
      ((knifeTold_complete (s := (s.withFr y).withCcu v) hplan he hb).trans ?_)
    refine congrArg (fun a => planAndFeed (cutMade e a _)) ?_
    simp only [a]
    cases i.words <;> rfl
  have hleaves := cutMade_leaves (s := (s.withFr y).withCcu v) (e := e) (a := a) (gate := gate) hgate
  have hfed := (settleSteps_fedFrom (cutMade e a ((s.withFr y).withCcu v))).on_eventEnd (s := s.withFr y)
    (f := fun s => tellAnswer ch (takeDone ch i.tag i.value i.words s))
    (by rw [htold]; exact (swapSteps_fedFrom _).on_planAndFeed (FedFrom.refl _))
  generalize cutMade e a ((s.withFr y).withCcu v) = u at hleaves hfed
  generalize event (fun s => tellAnswer ch (takeDone ch i.tag i.value i.words s)) (s.withFr y) = t at hexec hfed
  have hlast : last = s.cutFrom a := by
    unfold State.cutFrom
    cases hc : s.cp.lastCut <;> cases hb : s.cp.base <;> simp only [last, hc, hb] <;> rfl
  have hforms : forms = decide (((s.cp.minPiece : Nat) : Int) ≤ sdist (s.cutFrom a) a) := by rw [← hlast]
  have hpiece : piece = s.cutPiece e a := by
    unfold State.cutPiece
    rw [← hlast]
  have hforward : forward = s.forwardRoute (s.cutFrom a) := by
    rw [← hlast]
    unfold State.forwardRoute
    simp only [forward]
    cases s.sg.forward with
    | none => rfl
    | some d =>
      by_cases hd : d.lead = last
      · rw [Option.filter_some, beq_iff_eq.mpr hd]
        exact if_pos hd
      · rw [Option.filter_some, beq_eq_false_iff_ne.mpr hd]
        exact if_neg hd
  have hroute : route = ({ s.cutPiece e a with route := s.forwardRoute (s.cutFrom a) } : Piece).withdrawn gate s := by
    have hfault : pieceFault s { s.cutPiece e a with route := s.forwardRoute (s.cutFrom a) } = pieceFault s piece := by
      rw [hpiece]
      rfl
    unfold Piece.withdrawn
    rw [hfault, ← hforward]
    simp only [route]
    rcases forward with _ | (_ | r)
    · rfl
    · cases pieceFault s piece
      · rfl
      · rw [hlast]
        rfl
    · rfl
  have hleaves : CutLeaves ((s.withFr y).withCcu v) u e a gate forms off := hforms ▸ hleaves
  obtain ⟨d', hd', hrecent, -⟩ := record_of_answers (i := ch) hfed.answers (by rw [hleaves.records]; exact hd)
  refine ⟨t, d', hexec, (tablesChangeOnlyByWrites _ s t hexec).2 rfl, (exec_mode rfl hexec).trans hm, hd',
    hrecent.trans hdrecent, fun hforms => ?_, fun hforms => ?_, fun next more hrest hsent => ?_, fun hroom hnone hoff => ?_⟩
  · obtain ⟨hpieces, hcut, hgone⟩ := hleaves.formed hforms
    refine ⟨hfed.pieces.trans (hpieces.trans ?_), hfed.lastCut.trans hcut, by rw [hfed.gate]; exact hgone⟩
    rw [hpiece, hroute]
    rfl
  · obtain ⟨hpieces, hstays, hcut⟩ := hleaves.unformed hforms
    refine ⟨hfed.pieces.trans hpieces, by rw [hfed.gate]; exact hstays, hfed.lastCut.trans (hcut.trans ?_)⟩
    cases hc : s.cp.lastCut <;> simp only [State.withCcu_cp, State.withFr_cp, hc] <;> rfl
  · obtain ⟨hlater, hbase, hfault⟩ := hfed.head next more (hleaves.plan.trans (by
      rw [State.withCcu_cp, State.withFr_cp, hplan, hrest]
      rfl)) hsent
    exact ⟨hlater, hbase.trans hleaves.base, hfault.trans hleaves.fault⟩
  · have htagWord : e.tagWord = natWord i.tag.toNat := by
      unfold CutEntry.tagWord
      rw [he]
    have hevents := hleaves.events hroom hnone (by simpa using hoff)
    obtain ⟨later, hlater⟩ := prefix_cons (hevents ▸ hfed.events)
    refine ⟨later, hlater.trans ?_⟩
    rw [htagWord, ← hcycle]
    rfl

end Sys2Proof.Machine

/-! Reports in time (R51), and those of joint sensors (R35 to R38). -/
namespace Sys2Proof.Machine

/-! ### A REPORT in its slot (R51) -/

/-- R51: a report has been heard and stored in its slot, which it makes FRESH. -/
def State.reported (s : State) (bytes : List Byte) (station k : Nat) (i : Item) : State :=
  (s.heardFrom bytes station).adjustSlot k (fun w =>
    { w with value := i.value, aux := i.aux, lastCycle := some s.fr.cycle, lastSample := s.fr.sample
             fresh := true, missRun := 0 })

section
variable {bytes : List Byte} {f : Frame} {s : State} {h : Health} {i : Item} {k : Nat} {w : WatchEntry}
  (hh : s.healthAt f.source.toNat = some h) (hk : watchSlot i.key .report s = some k) (hw : s.slotAt k = some w)
include hh

theorem reported_withFr : ∃ y, s.reported bytes f.source.toNat k i = s.withFr y ∧ y.cycle = s.fr.cycle := by
  unfold State.reported
  rw [heardFrom_eq hh]
  exact ⟨_, rfl, rfl⟩

include hw

theorem slotAt_reported : (s.reported bytes f.source.toNat k i).slotAt k = some { w with
    value := i.value, aux := i.aux, lastCycle := some s.fr.cycle, lastSample := s.fr.sample, fresh := true, missRun := 0 } :=
  slotAt_adjustSlot (by rw [heardFrom_eq hh]; exact hw)

include hk

/-- R51: the owner of the report's slot is told. -/
theorem exec_returnFrame_report (hg : goodReturn bytes = some f) (ho : s.fr.windowOpen = true) (hc : f.cycle = s.fr.cycle)
    (hown : ¬(s.workingAddress = true ∧ f.source = s.ownByte)) (hi : f.items = [i]) (hst : i.station = f.source)
    (hkind : i.readKind = some .report) (hs : h.suspect = false) : exec (.returnFrame bytes) s =
      .next (event (ownerArrival w.owner k) (s.reported bytes f.source.toNat k i)) := by
  have hk' : watchSlot i.key .report (s.heardFrom bytes f.source.toNat) = some k := by rw [heardFrom_eq hh]; exact hk
  have hw' : (s.heardFrom bytes f.source.toNat).slotAt k = some w := by rw [heardFrom_eq hh]; exact hw
  have hhealth : (s.heardFrom bytes f.source.toNat).healthAt i.station.toNat =
      some { h with missRun := 0, heard := true, suspect := false } := by
    rw [hst, heardFrom_eq hh]
    unfold State.healthAt at hh ⊢
    obtain ⟨hlt, -⟩ := List.getElem?_eq_some_iff.mp hh
    rw [State.withFr_fr, List.getElem?_set_self hlt]
  have hstored : storeValue k i.value i.aux (s.heardFrom bytes f.source.toNat) = s.reported bytes f.source.toNat k i := by
    rw [storeValue_eq hk' hw' hhealth]
    unfold State.reported
    refine adjustSlot_congr hw' ?_
    rw [heardFrom_eq hh]
    rfl
  rw [exec_returnFrame_item hg ho hc hown hh hi hs, readItemIn_report hst _ hkind, storeItem_told hk' hw'
    (by rw [hst]; exact suspectStation_heardFrom hh), hstored]

end

/-- An event that leaves the signature as it was ends there. -/
theorem event_sameSignature {f : State → State} {s t : State} (hf : f s = t) (hc : t.wm.boardChange = none)
    (hs : t.signature = s.signature) (hb : t.boardCount = s.boardCount) : event f s = t := by
  unfold event
  simp only [hf, hb, bne_self_eq_false]
  exact settle_idle _ t hc hs

/-- R51: blocks that read their slots when they need them, and in SETUP Splice Controller and Slitter Pair Controller. -/
theorem ownerArrival_idle {o : Owner} {k : Nat} {s : State}
    (h : o = .sg ∨ o = .ss ∨ (o = .sc ∨ o = .sp) ∧ s.mu.mode = .setup) : ownerArrival o k s = s := by
  rcases h with rfl | rfl | ⟨rfl | rfl, hm⟩
  · rfl
  · rfl
  · exact if_neg (by rw [State.running_eq_false.mpr hm]; exact Bool.false_ne_true)
  · exact if_neg (by rw [State.running_eq_false.mpr hm]; exact Bool.false_ne_true)

/-! ### The joint sensor of a slot (R35) -/

theorem mem_indexedPoints {c : SectionCfg} {ip : Nat × Point} : ip ∈ indexedPoints c ↔ c.points[ip.1]? = some ip.2 := by
  unfold indexedPoints
  rw [List.mem_iff_getElem?]
  constructor
  · rintro ⟨n, hn⟩
    obtain ⟨h1, h2⟩ := List.getElem?_zip_eq_some.mp hn
    obtain ⟨hlt, hget⟩ := List.getElem?_eq_some_iff.mp h1
    rw [List.getElem_range] at hget
    exact hget ▸ h2
  · intro h
    obtain ⟨hlt, -⟩ := List.getElem?_eq_some_iff.mp h
    refine ⟨ip.1, List.getElem?_zip_eq_some.mpr ⟨?_, h⟩⟩
    rw [List.getElem?_range hlt]

theorem nodup_indexedPoints (c : SectionCfg) : (indexedPoints c).Nodup := by
  unfold indexedPoints
  refine List.Nodup.of_map Prod.fst ?_
  rw [List.map_fst_zip (by rw [List.length_range])]
  exact List.nodup_range

/-- The look of one point at a slot. -/
def pointArrival (slot sec : Nat) (s : State) (ip : Nat × Point) : State :=
  match ip.2.use with
  | .jointSensor k _ _ _ _ => if k = slot then jointArrival sec ip.1 ip.2 slot s else s
  | _ => s

/-- The look of one section at a slot. -/
def pointsArrival (slot sec : Nat) (s : State) : State :=
  match s.sectionAt sec with
  | none => s
  | some c => (indexedPoints c.cfg).foldl (pointArrival slot sec) s

theorem mapArrival_eq (slot : Nat) (s : State) :
    mapArrival slot s = (List.range 12).foldl (fun s sec => pointsArrival slot sec s) s := rfl

/-- The points of each section stay. -/
theorem cfg_of_kept {s t : State} (h : t.kept = s.kept) (j : Nat) :
    (t.sectionAt j).map (·.cfg) = (s.sectionAt j).map (·.cfg) := by
  have hcfg : t.pt.sections.map (Option.map (·.cfg)) = s.pt.sections.map (Option.map (·.cfg)) :=
    congrArg (fun x => x.tables.path.sections) h
  have hlookup (u : State) : (u.sectionAt j).map (·.cfg) = lookup (u.pt.sections.map (Option.map (·.cfg))) j := by
    unfold State.sectionAt lookup
    rw [List.getElem?_map]
    cases u.pt.sections[j]? <;> rfl
  rw [hlookup, hlookup, hcfg]

/-- A point is no joint sensor with a slot. -/
def Point.passesBy (p : Point) (slot : Nat) : Prop := ∀ a b d e, p.use ≠ .jointSensor slot a b d e

theorem foldl_pointArrival_idle {slot sec : Nat} {l : List (Nat × Point)} {s : State} (h : ∀ ip ∈ l, ip.2.passesBy slot) :
    l.foldl (pointArrival slot sec) s = s := by
  induction l with
  | nil => rfl
  | cons ip l ih =>
    have hone : pointArrival slot sec s ip = s := by
      unfold pointArrival
      split
      · next k a b d e hu =>
        refine if_neg fun hk => ?_
        rw [hk] at hu
        exact h ip (List.mem_cons_self ..) a b d e hu
      · rfl
    rw [List.foldl_cons, hone]
    exact ih fun jp hj => h jp (List.mem_cons_of_mem ip hj)

/-- No point of a section is a joint sensor with a slot. -/
theorem pointsArrival_idle {slot sec : Nat} {s : State} (h : ∀ (c : Section) (point : Nat) (p : Point),
    s.sectionAt sec = some c → c.cfg.points[point]? = some p → p.passesBy slot) : pointsArrival slot sec s = s := by
  unfold pointsArrival
  split
  · rfl
  · next c hc => exact foldl_pointArrival_idle fun ip hip => h c ip.1 ip.2 hc (mem_indexedPoints.mp hip)

/-- R35: a slot that one joint sensor alone names. -/
theorem mapArrival_single {slot sec point : Nat} {s : State} {c : Section} {p : Point} {window link lead trail : Nat}
    (hsec : sec ≤ 11) (hc : s.sectionAt sec = some c) (hp : c.cfg.points[point]? = some p)
    (hu : p.use = .jointSensor slot window link lead trail)
    (hone : ∀ (sec' : Nat) (c' : Section) (point' : Nat) (p' : Point) a b d e, s.sectionAt sec' = some c' →
      c'.cfg.points[point']? = some p' → p'.use = .jointSensor slot a b d e → sec' = sec ∧ point' = point) :
    mapArrival slot s = jointArrival sec point p slot s := by
  have hown : pointsArrival slot sec s = jointArrival sec point p slot s := by
    obtain ⟨front, back, hsplit⟩ := List.append_of_mem (mem_indexedPoints (ip := (point, p)).mpr hp)
    have hnodup : (front ++ (point, p) :: back).Nodup := hsplit ▸ nodup_indexedPoints c.cfg
    rw [List.nodup_middle, List.nodup_cons, List.mem_append, not_or] at hnodup
    have hother {ip : Nat × Point} (hip : ip ∈ indexedPoints c.cfg) (hne : ip ≠ (point, p)) : ip.2.passesBy slot := by
      intro a b d e hu'
      have hget := mem_indexedPoints.mp hip
      have hindex := (hone sec c ip.1 ip.2 a b d e hc hget hu').2
      rw [hindex, hp] at hget
      exact hne (Prod.ext hindex (Option.some.inj hget).symm)
    have hat : pointArrival slot sec s (point, p) = jointArrival sec point p slot s := by
      unfold pointArrival
      rw [hu]
      exact if_pos rfl
    unfold pointsArrival
    rw [hc]
    dsimp only
    have hfront : ∀ ip ∈ front, ip.2.passesBy slot := fun ip hip =>
      hother (by rw [hsplit]; exact List.mem_append_left _ hip) fun h => hnodup.1.1 (h ▸ hip)
    have hback : ∀ ip ∈ back, ip.2.passesBy slot := fun ip hip =>
      hother (by rw [hsplit]; exact List.mem_append_right _ (List.mem_cons_of_mem _ hip)) fun h => hnodup.1.2 (h ▸ hip)
    rw [hsplit, List.foldl_append, List.foldl_cons, foldl_pointArrival_idle hfront, hat, foldl_pointArrival_idle hback]
  rw [mapArrival_eq, ← hown]
  refine foldl_single (g := fun s sec => pointsArrival slot sec s) List.nodup_range (List.mem_range.mpr (by omega))
    (fun j hj => ?_) (fun j hj => ?_)
  · exact pointsArrival_idle fun c' point' p' hc' hp' a b d e hu' => hj (hone j c' point' p' a b d e hc' hp' hu').1
  · refine pointsArrival_idle fun c' point' p' hc' hp' a b d e hu' => ?_
    rw [hown] at hc'
    have hcfg := cfg_of_kept (kept_jointArrival sec point p slot s) j
    rw [hc', Option.map_some, eq_comm] at hcfg
    obtain ⟨c'', hc'', hsame⟩ := Option.map_eq_some_iff.mp hcfg
    exact hj (hone j c'' point' p' a b d e hc'' (by rw [hsame]; exact hp') hu').1

/-! ### One detection (R35 to R38) -/

section
variable {s : State} {sec point slot window link lead trail : Nat} {p : Point} (hu : p.use = .jointSensor slot window link lead trail)
include hu

/-- R35: a count that tells of no new joint, or in SETUP, becomes the baseline. -/
theorem jointArrival_quiet {seen : Half} (hseen : (s.slotAux slot).truncate 16 = seen)
    (h : s.mu.mode = .setup ∨ ((s.mapAt sec).baselines[point]?).join = none ∨
      ((s.mapAt sec).baselines[point]?).join = some seen) :
    jointArrival sec point p slot s =
      s.adjustMap sec (fun m => { m with baselines := m.baselines.set point (some seen) }) := by
  unfold jointArrival
  rw [hu]
  dsimp only
  rw [hseen]
  split
  · rfl
  · next b hb =>
    refine if_pos ?_
    rcases h with hm | hnone | hsame
    · exact .inr (by rw [State.running_eq_false.mpr (show (s.adjustMap sec _).mu.mode = .setup from hm)]; rfl)
    · rw [hnone] at hb
      cases hb
    · exact .inl (Option.some.inj (hsame.symm.trans hb))

/-- R35: a count that changed in RUN is a detection. -/
theorem jointArrival_detects {seen before : Half} {based : State} (hseen : (s.slotAux slot).truncate 16 = seen)
    (hbased : s.adjustMap sec (fun m => { m with baselines := m.baselines.set point (some seen) }) = based)
    (hm : s.mu.mode = .run) (hold : ((s.mapAt sec).baselines[point]?).join = some before) (hne : before ≠ seen) :
    jointArrival sec point p slot s = jointDetection sec point p.dist window lead trail (seen - before).toNat
      (shiftBy (toTrack s ⟨sec, .primary⟩ (s.slotValue slot)) (-p.dist)) based := by
  unfold jointArrival
  rw [hu]
  dsimp only
  rw [hseen, hold, hbased]
  dsimp only
  have hrun : based.running = true := by
    rw [← hbased]
    exact State.running_iff.mpr hm
  have hgo : ¬(seen = before ∨ (!based.running) = true) := by
    rw [hrun]
    exact fun h => h.elim (fun h => hne h.symm) (by decide)
  rw [if_neg hgo, ← hbased]
  rfl

end

theorem sdist_natAbs_comm (a b : Word) : (sdist a b).natAbs = (sdist b a).natAbs := by
  have h : a - b = -(b - a) := by simp
  unfold sdist
  rw [h]
  generalize b - a = x
  have hlow := BitVec.le_toInt x
  have hhigh := BitVec.toInt_lt (x := x)
  rw [BitVec.toInt_neg, Int.bmod_def]
  omega

/-- R36: the mark that a detection at a place matches. -/
def Mark.meets (m : Mark) (point window : Nat) (pj : Word) : Prop :=
  m.kind = .splice ∧ m.verifiedAt ≠ some point ∧ (sdist pj m.pos).natAbs ≤ window

theorem filter_meets {point window : Nat} {pj : Word} {m : Mark} : (m.kind == .splice && m.verifiedAt != some point &&
    decide ((sdist pj m.pos).natAbs ≤ window)) = true ↔ m.meets point window pj := by
  unfold Mark.meets
  rw [Bool.and_eq_true, Bool.and_eq_true, beq_iff_eq, bne_iff_ne, decide_eq_true_iff, and_assoc]

theorem matchJoint_none {point window : Nat} {pj : Word} {marks : List Mark} (h : ∀ y ∈ marks, ¬y.meets point window pj) :
    matchJoint point window pj marks = none := by
  have hnone : marks.filter (fun m => m.kind == .splice && m.verifiedAt != some point &&
      decide ((sdist pj m.pos).natAbs ≤ window)) = [] :=
    List.filter_eq_nil_iff.mpr fun y hy => mt filter_meets.mp (h y hy)
  unfold matchJoint
  rw [hnone]
  rfl

/-- R36: the nearest of the splices in the window. -/
theorem matchJoint_some {point window : Nat} {pj : Word} {marks : List Mark} {m : Mark} (hm : m ∈ marks)
    (hmeets : m.meets point window pj) (hnear : ∀ y ∈ marks, y.meets point window pj → y = m ∨
      (sdist pj m.pos).natAbs < (sdist pj y.pos).natAbs) : matchJoint point window pj marks = some m := by
  have hmem : m ∈ marks.filter (fun m => m.kind == .splice && m.verifiedAt != some point &&
      decide ((sdist pj m.pos).natAbs ≤ window)) := List.mem_filter.mpr ⟨hm, filter_meets.mpr hmeets⟩
  obtain ⟨front, back, hsplit, hfirst⟩ := List.eq_append_cons_of_mem hmem
  have hin {y : Mark} (hy : y ∈ front ++ m :: back) : y = m ∨ (sdist m.pos pj).natAbs < (sdist y.pos pj).natAbs := by
    rw [← hsplit, List.mem_filter, filter_meets] at hy
    rw [sdist_natAbs_comm m.pos, sdist_natAbs_comm y.pos]
    exact hnear y hy.1 hy.2
  unfold matchJoint
  rw [hsplit]
  refine nearestZone_eq (by rw [hmeets.1]; decide) (fun y hy _ => ?_) (fun y hy _ => ?_)
  · exact (hin (List.mem_append_left _ hy)).resolve_left fun h => hfirst (h ▸ hy)
  · exact (hin (List.mem_append_right _ (List.mem_cons_of_mem _ hy))).elim (fun h => h ▸ Nat.le_refl _) Nat.le_of_lt

theorem adjustMap_adjustMap {s : State} {i : Nat} {f g : SectionMap → SectionMap} (h : i < s.wm.maps.length) :
    (s.adjustMap i f).adjustMap i g = s.adjustMap i (fun x => g (f x)) := by
  have hat := mapAt_adjustMap (f := f) (j := i) h
  rw [if_pos rfl] at hat
  unfold State.adjustMap at hat ⊢
  rw [hat]
  simp only [State.withWm_wm, List.set_set]
  rfl

theorem lt_of_mem_marks {s : State} {sec : Nat} {m : Mark} (h : m ∈ (s.mapAt sec).marks) : sec < s.wm.maps.length := by
  by_contra hn
  have hnone : s.wm.maps[sec]? = none := List.getElem?_eq_none (Nat.not_lt.mp hn)
  unfold State.mapAt at h
  rw [hnone] at h
  exact List.not_mem_nil h

theorem noteChange_elsewhere {sec : Nat} {sp : Span} {s : State} (h : s.isBoard sec = false) : noteChange sec sp s = s :=
  if_neg (by rw [h]; exact Bool.false_ne_true)

/-- R36: a matched mark at its detected place. -/
def Mark.verified (m : Mark) (point : Nat) (pj : Word) (widening : Nat) (unsure : Bool) : Mark :=
  { m with pos := pj, conf := .verified, widening := fitLength widening, reckoned := unsure, verifiedAt := some point }

/-- R36: the matched mark is inserted again and announced. -/
def State.matched (s : State) (sec : Nat) (m v : Mark) : State :=
  raise .jointMatched (natWord m.slot) v.pos (wordOf (sdist m.pos v.pos)) (s.adjustMap sec (fun x =>
    { x with marks := insertMark v ((s.mapAt sec).marks.filter (·.slot != m.slot)) }))

/-- R37: a matched mark corrects its via-link. -/
def correctVia (sec : Nat) (x : Int) (pj : Word) (m : Mark) (t : State) : State :=
  match m.via with
  | none => t
  | some link =>
    match t.linkAt link with
    | none => t
    | some l =>
      let c := clampInt (-(l.maxCorr : Int)) l.maxCorr (sdist m.pos pj)
      correctLink sec link m.slot c x (if c = sdist m.pos pj then t
        else raise .correctionClamped (natWord link) pj (wordOf (sdist m.pos pj - c)) t)

section
variable {s : State} {sec point : Nat} {x : Int} {pj : Word} {m v : Mark} (hm : m ∈ (s.mapAt sec).marks) (hsec : m.sec = sec)
  (hb : s.isBoard sec = false) (hv : m.verified point pj (s.reckonWidening sec) (s.uncertain sec) = v)
include hm hsec hb hv

theorem matchedJoint_eq : matchedJoint sec point x pj m s = correctVia sec x pj m (s.matched sec m v) := by
  have hlisted : listMark v (unlistMark sec m.slot s) = s.adjustMap sec (fun x =>
      { x with marks := insertMark v ((s.mapAt sec).marks.filter (·.slot != m.slot)) }) := by
    have hvsec : v.sec = sec := by rw [← hv]; exact hsec
    unfold listMark unlistMark
    rw [hvsec, adjustMap_adjustMap (lt_of_mem_marks hm)]
    exact adjustMap_congr rfl
  have hboard : (listMark v (unlistMark sec m.slot s)).isBoard sec = false := hb
  have hmatched : raise .jointMatched (natWord m.slot) pj (wordOf (sdist m.pos pj))
      (noteChange sec (m.span.join v.span) (listMark v (unlistMark sec m.slot s))) = s.matched sec m v := by
    rw [noteChange_elsewhere hboard, hlisted, ← hv]
    rfl
  rw [← hmatched, ← hv]
  rfl

end

/-- R37: a correction that the link allows, with no other mark of the link. -/
theorem correctVia_link {sec via : Nat} {x : Int} {pj : Word} {m : Mark} {t : State} {l : Link} (hvia : m.via = some via)
    (hl : t.linkAt via = some l) (hcorr : (sdist m.pos pj).natAbs ≤ l.maxCorr)
    (hother : ∀ y ∈ (t.mapAt sec).marks, y.slot ≠ m.slot → y.via ≠ some via) : correctVia sec x pj m t =
      t.adjustLink via (fun l => { l with aDown := shiftBy l.aDown (sdist m.pos pj) }) := by
  have hclamp : clampInt (-(l.maxCorr : Int)) l.maxCorr (sdist m.pos pj) = sdist m.pos pj := by
    unfold clampInt
    rw [if_neg (by omega), if_neg (by omega)]
  unfold correctVia
  rw [hvia]
  dsimp only
  rw [hl]
  dsimp only
  rw [hclamp, if_pos rfl]
  unfold correctLink
  dsimp only
  have hnone (v : Word) : ((t.adjustLink via (fun l => { l with aDown := shiftBy l.aDown (sdist m.pos pj) })).mapAt
      sec).marks.filter (fun y => y.slot != m.slot && y.via == some via && decide (0 < sdist v y.pos)) = [] := by
    refine List.filter_eq_nil_iff.mpr fun y hy hor => ?_
    rw [Bool.and_eq_true, Bool.and_eq_true, bne_iff_ne, beq_iff_eq] at hor
    exact hother y hy hor.1.1 hor.1.2
  rw [hnone]
  rfl

theorem signature_adjustLink (s : State) (i : Nat) (f : Link → Link) : (s.adjustLink i f).signature = s.signature := rfl

theorem allMarks_baselines {s : State} {sec : Nat} {l : List (Option Half)} :
    (s.adjustMap sec (fun m => { m with baselines := l })).allMarks = s.allMarks := by
  have hmap : (s.wm.maps.set sec { s.mapAt sec with baselines := l }).map (·.marks) = s.wm.maps.map (·.marks) := by
    rw [List.map_set]
    refine List.ext_getElem? fun j => ?_
    rw [List.getElem?_set]
    split
    · next hj =>
      subst hj
      split
      · next hlt =>
        rw [List.length_map] at hlt
        rw [List.getElem?_map, List.getElem?_eq_getElem hlt]
        unfold State.mapAt
        rw [List.getElem?_eq_getElem hlt]
        rfl
      · next hlt => rw [List.getElem?_eq_none (Nat.not_lt.mp hlt)]
    · rfl
  unfold State.allMarks
  rw [List.flatMap_def, List.flatMap_def]
  exact congrArg List.flatten hmap

/-- R22: the record that a creation takes depends on the marks held and the serial. -/
theorem freeSlot_congr {s t : State} (hm : t.allMarks = s.allMarks) (hs : t.wm.nextSerial = s.wm.nextSerial) :
    t.freeSlot = s.freeSlot := by
  unfold State.freeSlot State.freeSlots
  rw [hm, hs]

theorem room_congr {s t : State} (hm : t.allMarks = s.allMarks) :
    Config.boundaryLimit - t.boundaryCount < t.freeCount ↔ Config.boundaryLimit - s.boundaryCount < s.freeCount := by
  unfold State.boundaryCount State.freeCount State.markCount
  rw [hm]

/-- R35: a report of a joint sensor's slot outside BOARD ends as the sensor left it. -/
theorem event_mapArrival {r t : State} {k sec point : Nat} {p : Point} (harrival : mapArrival k r = jointArrival sec point p k r)
    (ht : jointArrival sec point p k r = t) (hb : t.wm.boardChange = none) (hpt : t.pt = r.pt) (hop : t.op = r.op)
    (hcp : t.cp = r.cp) : event (ownerArrival .wm k) r = t :=
  event_sameRecords (harrival.trans ht) hb hpt hop hcp

/-- R38: what an unmatched detection asks of the map. -/
def unmatchedZone (sec : Nat) (pj : Word) (lead trail : Nat) : CreateRequest :=
  { kind := .zone, cause := some .jointUnknown, sec := sec, pos := pj, lead := lead, trail := trail, widening := 0
    conf := .confirmed, origin := none }

/-- R38: a detection that no splice matches makes a zone. -/
theorem jointDetection_unexpected {s : State} {sec point : Nat} {x : Int} {window lead trail news : Nat} {pj : Word}
    (h : ∀ y ∈ (s.mapAt sec).marks, ¬y.meets point window pj) (hb : s.isBoard sec = false)
    (hroom : Config.boundaryLimit - s.boundaryCount < s.freeCount) :
    jointDetection sec point x window lead trail news pj s = raise .jointUnexpected (natWord (sec * 8 + point)) pj
      (natWord news) (s.entered (requestedMark (unmatchedZone sec pj lead trail) s)) := by
  unfold jointDetection
  rw [matchJoint_none h]
  exact congrArg (raise .jointUnexpected (natWord (sec * 8 + point)) pj (natWord news)) (createMark_room hroom hb)

end Sys2Proof.Machine

/-! Diameters that the Splice Controller is told (R97, R98, R100). -/
namespace Sys2Proof.Machine

/-! ### What the estimator holds (R97 to R100) -/

/-- The estimator's part of a web: no plan, tags, mark or count. -/
def WebState.reel (x : WebState) : WebState :=
  { x with plan := none, spliceTag := none, prepareTag := none, settledTag := none, mark := none, blocked := false
           accounted := none, countWait := 0, countSeen := none }

/-- R100: the length and the reserve that an evaluation leaves. -/
def WebState.measured (cfg : WebCfg) (c : Word) (x : WebState) : WebState :=
  if x.reelKnown = true then { x with lastLength := remainingLength cfg x c, lastReserve := reserveOf cfg x } else x

theorem WebState.reel_measured (cfg : WebCfg) (c : Word) (x : WebState) :
    (x.measured cfg c).reel = x.reel.measured cfg c := by
  unfold WebState.measured
  rw [apply_ite WebState.reel]
  rfl

theorem WebState.measured_measured (cfg : WebCfg) (c : Word) (x : WebState) :
    (x.measured cfg c).measured cfg c = x.measured cfg c := by
  by_cases h : x.reelKnown = true
  · have hx : x.measured cfg c = { x with lastLength := remainingLength cfg x c, lastReserve := reserveOf cfg x } := if_pos h
    rw [hx]
    exact if_pos h
  · have hx : x.measured cfg c = x := if_neg h
    rw [hx, hx]

theorem WebState.reel_learn (tol : Nat) (x : WebState) : (x.learn tol).reel = x.reel.learn tol := by
  unfold WebState.learn
  show _ = match estimateK x.samples with | none => _ | some e => _
  cases estimateK x.samples with
  | none => rfl
  | some e =>
    dsimp only
    rw [apply_ite WebState.reel]
    rfl

theorem WebState.reel_takeDiameter (cfg : WebCfg) (held : Bool) (cycle : Half) (c : Word) (d : Nat) (x : WebState) :
    (x.takeDiameter cfg held cycle c d).reel = x.reel.takeDiameter cfg held cycle c d := by
  unfold WebState.takeDiameter
  dsimp only
  rw [apply_ite WebState.reel, WebState.reel_learn]
  rfl

/-! ### The reactions of one web -/

/-- The second state differs from the first as the reactions of one web may change it, the estimator's part of the web by
the function given: path, map, orders, plan and the other webs stay. -/
structure WebStep (i : Nat) (g : WebState → WebState) (s t : State) : Prop where
  mode : t.mu.mode = s.mu.mode
  fr : t.fr = s.fr
  pt : t.pt = s.pt
  wm : t.wm = s.wm
  op : t.op = s.op
  cp : t.cp = s.cp
  others : ∀ j, j ≠ i → t.webAt j = s.webAt j
  own : ∀ v, s.webAt i = some v → ∃ x, t.webAt i = some { v with st := x } ∧ x.reel = g v.st.reel

namespace WebStep
variable {i : Nat} {g h : WebState → WebState} {s t u : State}

theorem trans (a : WebStep i g s t) (b : WebStep i h t u) : WebStep i (fun x => h (g x)) s u where
  mode := b.mode.trans a.mode
  fr := b.fr.trans a.fr
  pt := b.pt.trans a.pt
  wm := b.wm.trans a.wm
  op := b.op.trans a.op
  cp := b.cp.trans a.cp
  others j hj := (b.others j hj).trans (a.others j hj)
  own v hv := by
    obtain ⟨x, hx, hg⟩ := a.own v hv
    obtain ⟨y, hy, hh⟩ := b.own _ hx
    exact ⟨y, hy, hh.trans (congrArg h hg)⟩

/-- A change of events and command channels. -/
theorem of_sc (hm : t.mu.mode = s.mu.mode) (hfr : t.fr = s.fr) (hpt : t.pt = s.pt) (hwm : t.wm = s.wm) (hop : t.op = s.op)
    (hcp : t.cp = s.cp) (hsc : t.sc = s.sc) : WebStep i id s t where
  mode := hm
  fr := hfr
  pt := hpt
  wm := hwm
  op := hop
  cp := hcp
  others j _ := by unfold State.webAt; rw [hsc]
  own v hv := ⟨v.st, by unfold State.webAt; rw [hsc]; exact hv, rfl⟩

theorem refl : WebStep i id s s := of_sc rfl rfl rfl rfl rfl rfl rfl

theorem of_adjustWeb {f : WebState → WebState} (hf : ∀ v, s.webAt i = some v → (f v.st).reel = g v.st.reel) :
    WebStep i g s (s.adjustWeb i f) where
  mode := congrArg Management.mode (State.adjustWeb_mu ..)
  fr := State.adjustWeb_fr ..
  pt := State.adjustWeb_pt ..
  wm := State.adjustWeb_wm ..
  op := State.adjustWeb_op ..
  cp := State.adjustWeb_cp ..
  others _ hj := webAt_adjustWeb_ne hj
  own v hv := ⟨f v.st, webAt_adjustWeb hv, hf v hv⟩

theorem adjustWeb {f : WebState → WebState} (a : WebStep i id s t) (hf : ∀ x, (f x).reel = x.reel) :
    WebStep i id s (t.adjustWeb i f) := a.trans (of_adjustWeb (g := id) fun v _ => hf v.st)

theorem raise {k : EventKind} {a b d : Word} (c : WebStep i id s t) : WebStep i id s (raise k a b d t) :=
  c.trans (of_sc (by unfold Machine.raise; split <;> rfl) (raise_fr ..) (raise_pt ..) (raise_wm ..) (raise_op ..) (raise_cp ..) (raise_sc ..))

theorem adjustChannel {ch : Nat} {f : Channel → Channel} (c : WebStep i id s t) : WebStep i id s (t.adjustChannel ch f) :=
  c.trans (of_sc (congrArg Management.mode (State.adjustChannel_mu ..)) (State.adjustChannel_fr ..) (State.adjustChannel_pt ..)
    (State.adjustChannel_wm ..) (State.adjustChannel_op ..) (State.adjustChannel_cp ..) (State.adjustChannel_sc ..))

theorem issueCommand {ch : Nat} {v : Verb} {args : List Word} {role : Option PosRole} (c : WebStep i id s t) :
    WebStep i id s (issueCommand ch v args role t).1 := by
  unfold Machine.issueCommand
  split
  · exact c
  · split
    · exact c
    · dsimp only
      split
      · exact c.adjustChannel
      · split
        · exact c.adjustChannel.raise
        · exact c.adjustChannel

theorem prepareSuperseded {old : Option Half} (c : WebStep i id s t) : WebStep i id s (prepareSuperseded i old t) := by
  unfold Machine.prepareSuperseded
  split
  · exact c
  · split
    · exact raise (adjustWeb c fun _ => rfl)
    · exact c

theorem issueCheck (c : WebStep i id s t) : WebStep i id s (issueCheck i t) := by
  unfold Machine.issueCheck
  split
  · exact c
  · split
    · exact c
    · split
      · dsimp only
        split
        · exact prepareSuperseded (adjustWeb (issueCommand c) fun _ => rfl)
        · exact issueCommand c
      · exact c

theorem paperCheck {target standby : Word} (c : WebStep i id s t) : WebStep i id s (paperCheck i target standby t) := by
  unfold Machine.paperCheck
  split
  · split
    · exact c
    · exact c.raise
  · exact c

theorem planRunout {w : Web} {p : Word} {len reserve : Nat} (c : WebStep i id s t) :
    WebStep i id s (planRunout i w p len reserve t) := by
  unfold Machine.planRunout
  split
  · exact issueCheck (paperCheck (adjustWeb c fun _ => rfl))
  · split
    · exact c
    · exact raise (adjustWeb c fun _ => rfl)

theorem advanceGrade {w : Web} {p : SplicePlan} {x : Word} {len reserve : Nat} (c : WebStep i id s t) :
    WebStep i id s (advanceGrade i w p x len reserve t) := by
  unfold Machine.advanceGrade
  split
  · exact c
  · exact issueCheck (raise (adjustWeb c fun _ => rfl))

/-- R100: an evaluation in RUN measures the reel, when it is known. -/
theorem evaluateWeb {w : Web} (hr : s.mu.mode = .run) (hw : s.webAt i = some w) :
    WebStep i (WebState.measured w.cfg (webCount w s)) s (evaluateWeb i s) := by
  have hrun : s.running = true := State.running_iff.mpr hr
  by_cases hk : w.st.reelKnown = true
  · have hlength : WebStep i (WebState.measured w.cfg (webCount w s)) s (s.adjustWeb i (fun x =>
        { x with lastLength := remainingLength w.cfg w.st (webCount w s), lastReserve := reserveOf w.cfg w.st })) := by
      refine of_adjustWeb fun v hv => ?_
      obtain rfl : w = v := Option.some.inj (hw.symm.trans hv)
      rw [← WebState.reel_measured]
      exact congrArg WebState.reel (if_pos hk).symm
    unfold Machine.evaluateWeb
    rw [hw]
    dsimp only
    rw [if_pos (by rw [hrun, hk]; rfl)]
    split
    · split
      · exact hlength.trans (planRunout refl)
      · split
        · exact hlength.trans (advanceGrade refl)
        · exact hlength
    · exact hlength
  · have hidle : Machine.evaluateWeb i s = s := by
      unfold Machine.evaluateWeb
      rw [hw]
      exact if_neg (by rw [hrun, Bool.true_and]; exact hk)
    rw [hidle]
    refine { refl with own := fun v hv => ⟨v.st, hv, ?_⟩ }
    obtain rfl : w = v := Option.some.inj (hw.symm.trans hv)
    exact (if_neg hk).symm

end WebStep

/-! ### A diameter (R97) -/

theorem WebState.reel_countArrival (n : Half) (x : WebState) : (x.countArrival n).reel = x.reel := by
  unfold WebState.countArrival
  dsimp only
  split
  · rfl
  · rw [apply_ite WebState.reel, apply_ite WebState.reel]
    exact ite_eq_iff'.mpr ⟨fun _ => rfl, fun _ => ite_eq_iff'.mpr ⟨fun _ => rfl, fun _ => rfl⟩⟩

/-- R101, R112: a value for a web's standby and count slots. -/
def webSlots (slot i : Nat) (w : Web) (s : State) : State :=
  let s := if w.cfg.standbySlot = slot ∧ w.st.blocked then evaluateWeb i s else s
  if w.cfg.countSlot = some slot then s.adjustWeb i (WebState.countArrival ((s.slotAux slot).truncate 16)) else s

theorem webCount_congr {s t : State} (h : t.pt = s.pt) (w : Web) : webCount w t = webCount w s := by
  unfold webCount State.count State.sectionAt
  rw [h]

section
variable {i slot : Nat} {s : State} {w : Web} (hr : s.mu.mode = .run) (hw : s.webAt i = some w)
include hr hw

/-- R101, R112: the other slots of a web measure the reel again at most. -/
theorem webSlots_step {g : WebState → WebState} {t : State} (ht : WebStep i g s t) :
    ∃ h : WebState → WebState, WebStep i (fun x => h (g x)) s (webSlots slot i w t) ∧
      ∀ x : WebState, h (x.measured w.cfg (webCount w s)) = x.measured w.cfg (webCount w s) := by
  have hcount {h : WebState → WebState} {u : State} (hu : WebStep i h s u) : WebStep i h s
      (if w.cfg.countSlot = some slot then u.adjustWeb i (WebState.countArrival ((u.slotAux slot).truncate 16)) else u) := by
    split
    · exact hu.trans (h := id) (.of_adjustWeb fun v _ => WebState.reel_countArrival _ v.st)
    · exact hu
  unfold webSlots
  split
  · obtain ⟨x, hx, -⟩ := ht.own w hw
    have hagain := WebStep.evaluateWeb (ht.mode.trans hr) hx
    rw [webCount_congr ht.pt] at hagain
    exact ⟨_, hcount (ht.trans hagain), WebState.measured_measured w.cfg (webCount w s)⟩
  · exact ⟨id, hcount ht, fun _ => rfl⟩

/-- R97, R100: a value in the diameter's slot of a web. -/
theorem webArrival_diameter (hd : w.cfg.diamSlot = slot) : WebStep i (fun x =>
    (x.takeDiameter w.cfg (s.held w.cfg.sec) s.fr.cycle (webCount w s) (s.slotValue slot).toNat).measured w.cfg
      (webCount w s)) s (webArrival slot i s) := by
  have htaken : WebStep i (WebState.takeDiameter w.cfg (s.held w.cfg.sec) s.fr.cycle (webCount w s)
      (s.slotValue slot).toNat) s (s.adjustWeb i (WebState.takeDiameter w.cfg (s.held w.cfg.sec) s.fr.cycle (webCount w s)
        (s.slotValue slot).toNat)) := .of_adjustWeb fun v _ => WebState.reel_takeDiameter ..
  obtain ⟨x, hx, -⟩ := htaken.own w hw
  have hmeasured := WebStep.evaluateWeb (htaken.mode.trans hr) hx
  rw [webCount_congr htaken.pt] at hmeasured
  obtain ⟨h, hstep, hidem⟩ := webSlots_step (slot := slot) hr hw (htaken.trans hmeasured)
  have heq : webArrival slot i s = webSlots slot i w (evaluateWeb i (s.adjustWeb i (WebState.takeDiameter w.cfg
      (s.held w.cfg.sec) s.fr.cycle (webCount w s) (s.slotValue slot).toNat))) := by
    unfold webArrival
    rw [hw]
    dsimp only
    rw [if_pos hd]
    rfl
  rw [heq]
  exact { hstep with own := fun v hv => (hstep.own v hv).imp fun y hy => ⟨hy.1, hy.2.trans (hidem _)⟩ }

end

/-- A value in a slot is a matter of each web for itself. -/
theorem webArrival_step {s : State} (hr : s.mu.mode = .run) (slot i : Nat) : ∃ g, WebStep i g s (webArrival slot i s) := by
  cases hw : s.webAt i with
  | none =>
    have hidle : webArrival slot i s = s := by
      unfold webArrival
      rw [hw]
    exact ⟨id, hidle.symm ▸ .refl⟩
  | some w =>
    by_cases hd : w.cfg.diamSlot = slot
    · exact ⟨_, webArrival_diameter hr hw hd⟩
    · obtain ⟨h, hstep, -⟩ := webSlots_step (slot := slot) hr hw .refl
      have heq : webArrival slot i s = webSlots slot i w s := by
        unfold webArrival
        rw [hw]
        dsimp only
        rw [if_neg hd]
        rfl
      exact ⟨_, heq.symm ▸ hstep⟩

/-- What a web does not see of the reactions of the others. -/
structure WebFrame (i : Nat) (s t : State) : Prop where
  mode : t.mu.mode = s.mu.mode
  fr : t.fr = s.fr
  pt : t.pt = s.pt
  wm : t.wm = s.wm
  op : t.op = s.op
  cp : t.cp = s.cp
  web : t.webAt i = s.webAt i

theorem foldl_webArrival {slot i : Nat} {s : State} {l : List Nat} (hr : s.mu.mode = .run) (hl : i ∉ l) :
    WebFrame i s (l.foldl (fun s j => webArrival slot j s) s) := by
  induction l generalizing s with
  | nil => exact ⟨rfl, rfl, rfl, rfl, rfl, rfl, rfl⟩
  | cons j l ih =>
    obtain ⟨hj, hl⟩ := not_or.mp (mt List.mem_cons.mpr hl)
    obtain ⟨g, hg⟩ := webArrival_step hr slot j
    obtain ⟨hmode, hfr, hpt, hwm, hop, hcp, hweb⟩ := ih (hg.mode.trans hr) hl
    exact ⟨hmode.trans hg.mode, hfr.trans hg.fr, hpt.trans hg.pt, hwm.trans hg.wm, hop.trans hg.op, hcp.trans hg.cp,
      hweb.trans (hg.others i hj)⟩

/-- R97, R100: a value in the diameter's slot of a web, whatever other webs make of it. -/
theorem spliceArrival_diameter {i slot : Nat} {s : State} {w : Web} (hr : s.mu.mode = .run) (hi : i ≤ 5)
    (hw : s.webAt i = some w) (hd : w.cfg.diamSlot = slot) : ∃ x, (spliceArrival slot s).webAt i = some { w with st := x } ∧
      x.reel = (w.st.reel.takeDiameter w.cfg (s.held w.cfg.sec) s.fr.cycle (webCount w s) (s.slotValue slot).toNat).measured
        w.cfg (webCount w s) ∧
      (spliceArrival slot s).wm = s.wm ∧ (spliceArrival slot s).pt = s.pt ∧ (spliceArrival slot s).op = s.op ∧
      (spliceArrival slot s).cp = s.cp := by
  obtain ⟨front, back, hsplit⟩ := List.append_of_mem (List.mem_range.mpr (show i < 6 by omega))
  have hnodup : (front ++ i :: back).Nodup := hsplit ▸ List.nodup_range
  rw [List.nodup_middle, List.nodup_cons, List.mem_append, not_or] at hnodup
  obtain ⟨⟨hfront, hback⟩, -⟩ := hnodup
  have heq : spliceArrival slot s =
      back.foldl (fun s j => webArrival slot j s) (webArrival slot i (front.foldl (fun s j => webArrival slot j s) s)) := by
    unfold spliceArrival
    rw [if_pos (State.running_iff.mpr hr), hsplit, List.foldl_append, List.foldl_cons]
  have hbefore := foldl_webArrival (slot := slot) hr hfront
  generalize front.foldl (fun s j => webArrival slot j s) s = t at heq hbefore
  have hown := webArrival_diameter (hbefore.mode.trans hr) (hbefore.web.trans hw) hd
  have hafter := foldl_webArrival (slot := slot) (hown.mode.trans (hbefore.mode.trans hr)) hback
  generalize back.foldl (fun s j => webArrival slot j s) (webArrival slot i t) = u at heq hafter
  obtain ⟨x, hx, hreel⟩ := hown.own w (hbefore.web.trans hw)
  have hheld : t.held w.cfg.sec = s.held w.cfg.sec := by
    unfold State.held State.sectionAt
    rw [hbefore.pt]
  have hvalue : t.slotValue slot = s.slotValue slot := by
    unfold State.slotValue State.slotAt
    rw [hbefore.fr]
  rw [webCount_congr hbefore.pt, hheld, hvalue, hbefore.fr] at hreel
  rw [heq]
  exact ⟨x, hafter.web.trans hx, hreel, hafter.wm.trans (hown.wm.trans hbefore.wm), hafter.pt.trans (hown.pt.trans hbefore.pt),
    hafter.op.trans (hown.op.trans hbefore.op), hafter.cp.trans (hown.cp.trans hbefore.cp)⟩

end Sys2Proof.Machine

/-! What a diameter makes of a reel (R97, R98, R100). -/
namespace Sys2Proof.Machine

/-- R97: a diameter is accepted as a sample. -/
def WebState.accepts (x : WebState) (cfg : WebCfg) (held : Bool) (cycle : Half) (d : Nat) : Prop :=
  held = false ∧ x.holdCycle ≠ some cycle ∧ ∀ newest, x.samples.getLast? = some newest → d + cfg.dMin ≤ newest.2

theorem acceptsSample_iff {n d : Nat} {x : WebState} :
    acceptsSample n x d = true ↔ ∀ newest, x.samples.getLast? = some newest → d + n ≤ newest.2 := by
  unfold acceptsSample
  cases x.samples.getLast? with
  | none => simp
  | some p => simp

section
variable {x : WebState} {cfg : WebCfg} {held : Bool} {cycle : Half} {c : Word} {d : Nat}

/-- R97: the diameter is recorded, no more. -/
theorem takeDiameter_refused (h : ¬x.accepts cfg held cycle d) :
    x.takeDiameter cfg held cycle c d = { x with diameter := d, cD := c } := by
  unfold WebState.takeDiameter
  refine if_pos ?_
  rw [WebState.accepts, ← acceptsSample_iff] at h
  show (held || x.holdCycle == some cycle || !acceptsSample cfg.dMin x d) = true
  by_contra hn
  refine h ⟨?_, ?_, ?_⟩ <;> simp_all

/-- R97: the diameter becomes the newest sample. -/
theorem takeDiameter_accepted (h : x.accepts cfg held cycle d) : x.takeDiameter cfg held cycle c d =
    WebState.learn cfg.tol { x with diameter := d, cD := c, samples := pushSample (c, d) x.samples, reelKnown := true } := by
  unfold WebState.takeDiameter
  refine if_neg ?_
  obtain ⟨hheld, hcycle, hnewest⟩ := h
  show ¬(held || x.holdCycle == some cycle || !acceptsSample cfg.dMin x d) = true
  rw [acceptsSample_iff.mpr hnewest, hheld]
  simpa using hcycle

end

theorem pushSample_eq (p : Word × Nat) (l : List (Word × Nat)) :
    pushSample p l = (if l.length < 4 then l else l.tail) ++ [p] := by
  unfold pushSample
  split <;> rfl

theorem pushSample_last (p : Word × Nat) (l : List (Word × Nat)) : (pushSample p l).getLast? = some p := by
  rw [pushSample_eq, List.getLast?_concat]

/-- R98: the estimate from the oldest sample to a newest one. -/
def estimateTo (oldest : Word × Nat) (c : Word) (d : Nat) : Int :=
  max 2048 (min 65535 (65536 * sdist oldest.1 c / ((oldest.2 : Int) ^ 2 - (d : Int) ^ 2)))

/-- R98: the estimate confirms K. -/
def confirmsK (tol k : Nat) (e : Int) : Prop := (e - k).natAbs ≤ k * tol / 256

theorem estimateK_single {l : List (Word × Nat)} (h : l.length = 1) : estimateK l = none := by
  unfold estimateK
  split
  · exact if_pos (.inl (by omega))
  · rfl

section
variable {l more : List (Word × Nat)} {oldest : Word × Nat} {c : Word} {d : Nat} (hl : l = oldest :: more) (hm : more ≠ [])
  (hlast : l.getLast? = some (c, d))
include hl hlast

theorem estimateK_back (h : sdist oldest.1 c ≤ 0) : estimateK l = none := by
  unfold estimateK
  rw [hlast, hl]
  exact if_pos (.inr h)

include hm

theorem estimateK_ahead (h : 0 < sdist oldest.1 c) : estimateK l = some (estimateTo oldest c d).toNat := by
  have hlength : ¬(l.length < 2 ∨ sdist oldest.1 c ≤ 0) := by
    have hmore := List.length_pos_iff.mpr hm
    rw [hl, List.length_cons]
    omega
  unfold estimateK
  rw [hlast, show l.head? = some oldest by rw [hl]; rfl]
  dsimp only
  rw [if_neg hlength]
  refine congrArg (fun e : Int => some e.toNat) ?_
  unfold clampInt estimateTo
  generalize 65536 * sdist oldest.1 c / ((oldest.2 : Int) ^ 2 - (d : Int) ^ 2) = e
  split <;> [skip; split] <;> omega

end

theorem estimateTo_toNat (oldest : Word × Nat) (c : Word) (d : Nat) :
    ((estimateTo oldest c d).toNat : Int) = estimateTo oldest c d :=
  Int.toNat_of_nonneg (le_trans (by decide) (le_max_left 2048 _))

/-- R98: K and its confidence alone are learnt. -/
theorem learn_eq (tol : Nat) (x : WebState) : ∃ k n, x.learn tol = { x with k := k, confidence := n } ∧
    (x.samples.length = 1 → k = x.k ∧ n = x.confidence) ∧
    ∀ oldest more c d, x.samples = oldest :: more → more ≠ [] → x.samples.getLast? = some (c, d) →
      (sdist oldest.1 c ≤ 0 → k = x.k ∧ n = x.confidence) ∧
      (0 < sdist oldest.1 c → confirmsK tol x.k (estimateTo oldest c d) → k = x.k ∧ n = min 3 (x.confidence + 1)) ∧
      (0 < sdist oldest.1 c → ¬confirmsK tol x.k (estimateTo oldest c d) → (k : Int) = estimateTo oldest c d ∧ n = 0) := by
  unfold WebState.learn
  cases he : estimateK x.samples with
  | none =>
    refine ⟨x.k, x.confidence, rfl, fun _ => ⟨rfl, rfl⟩, fun oldest more c d hs hm hl => ⟨fun _ => ⟨rfl, rfl⟩, ?_, ?_⟩⟩
    all_goals
      intro hrun
      rw [estimateK_ahead hs hm hl hrun] at he
      cases he
  | some e =>
    have hahead {oldest more c d} (hs : x.samples = oldest :: more) (hm : more ≠ []) (hl : x.samples.getLast? = some (c, d)) :
        0 < sdist oldest.1 c ∧ (e : Int) = estimateTo oldest c d := by
      have hrun : 0 < sdist oldest.1 c := by
        by_contra hn
        rw [estimateK_back hs hl (not_lt.mp hn)] at he
        cases he
      rw [estimateK_ahead hs hm hl hrun] at he
      exact ⟨hrun, Option.some.inj he ▸ estimateTo_toNat oldest c d⟩
    have hsingle (h : x.samples.length = 1) : False := by
      rw [estimateK_single h] at he
      cases he
    dsimp only
    by_cases hc : ((e : Int) - x.k).natAbs ≤ x.k * tol / 256
    · rw [if_pos hc]
      refine ⟨_, _, rfl, fun h => (hsingle h).elim, fun oldest more c d hs hm hl => ?_⟩
      obtain ⟨hrun, heq⟩ := hahead hs hm hl
      rw [heq] at hc
      exact ⟨fun h => by omega, fun _ _ => ⟨rfl, rfl⟩, fun _ h => absurd hc h⟩
    · rw [if_neg hc]
      refine ⟨_, _, rfl, fun h => (hsingle h).elim, fun oldest more c d hs hm hl => ?_⟩
      obtain ⟨hrun, heq⟩ := hahead hs hm hl
      rw [heq] at hc
      exact ⟨fun h => by omega, fun _ h => absurd h hc, fun _ _ => ⟨heq, rfl⟩⟩

/-- R100: an evaluation changes length and reserve alone. -/
theorem measured_eq (cfg : WebCfg) (x : WebState) : ∃ a b, x.measured cfg x.cD = { x with lastLength := a, lastReserve := b } ∧
    (x.reelKnown = true → a = (if x.diameter ≤ cfg.core then 0 else (x.diameter ^ 2 - cfg.core ^ 2) * x.k / 65536) ∧
      b = reserveOf cfg x) := by
  have hlength : remainingLength cfg x x.cD =
      if x.diameter ≤ cfg.core then 0 else (x.diameter ^ 2 - cfg.core ^ 2) * x.k / 65536 := by
    have hnone : sdist x.cD x.cD = 0 := by simp [sdist]
    unfold remainingLength
    rw [hnone]
    dsimp only
    rw [Int.sub_zero, Int.toNat_natCast]
  unfold WebState.measured
  by_cases h : x.reelKnown = true
  · rw [if_pos h]
    exact ⟨_, _, rfl, fun _ => ⟨hlength, rfl⟩⟩
  · rw [if_neg h]
    exact ⟨_, _, rfl, fun hk => absurd hk h⟩

/-- R97, R98, R100: what a diameter makes of a web's reel. -/
theorem reel_of_diameter {cfg : WebCfg} {held : Bool} {cycle : Half} {c : Word} {d : Nat} {v x : WebState}
    (h : x.reel = (v.reel.takeDiameter cfg held cycle c d).measured cfg c) : x.diameter = d ∧ x.cD = c ∧
      (¬v.accepts cfg held cycle d → x.samples = v.samples ∧ x.reelKnown = v.reelKnown ∧ x.k = v.k ∧
        x.confidence = v.confidence) ∧
      (v.accepts cfg held cycle d → x.reelKnown = true ∧ x.samples = pushSample (c, d) v.samples ∧
        (x.samples.length = 1 → x.k = v.k ∧ x.confidence = v.confidence) ∧
        ∀ oldest more, x.samples = oldest :: more → more ≠ [] →
          (sdist oldest.1 c ≤ 0 → x.k = v.k ∧ x.confidence = v.confidence) ∧
          (0 < sdist oldest.1 c → confirmsK cfg.tol v.k (estimateTo oldest c d) →
            x.k = v.k ∧ x.confidence = min 3 (v.confidence + 1)) ∧
          (0 < sdist oldest.1 c → ¬confirmsK cfg.tol v.k (estimateTo oldest c d) →
            (x.k : Int) = estimateTo oldest c d ∧ x.confidence = 0)) ∧
      (x.reelKnown = true →
        x.lastLength = (if d ≤ cfg.core then 0 else (d ^ 2 - cfg.core ^ 2) * x.k / 65536) ∧
        x.lastReserve = reserveOf cfg x) := by
  by_cases ha : v.accepts cfg held cycle d
  · rw [takeDiameter_accepted (x := v.reel) ha] at h
    obtain ⟨k, n, hlearn, hsingle, hmore⟩ := learn_eq cfg.tol { v.reel with
      diameter := d, cD := c, samples := pushSample (c, d) v.reel.samples, reelKnown := true }
    rw [hlearn] at h
    obtain ⟨a, b, hmeasured, hlength⟩ := measured_eq cfg { v.reel with
      diameter := d, cD := c, samples := pushSample (c, d) v.reel.samples, reelKnown := true, k := k, confidence := n }
    rw [hmeasured] at h
    have hk : x.k = k := congrArg WebState.k h
    have hn : x.confidence = n := congrArg WebState.confidence h
    have hs : x.samples = pushSample (c, d) v.samples := congrArg WebState.samples h
    have ha' : x.lastLength = a := congrArg WebState.lastLength h
    have hb : x.lastReserve = b := congrArg WebState.lastReserve h
    obtain ⟨hl, hr⟩ := hlength rfl
    refine ⟨congrArg WebState.diameter h, congrArg WebState.cD h, fun hn => absurd ha hn, fun _ =>
      ⟨congrArg WebState.reelKnown h, hs, ?_, ?_⟩, fun _ => ⟨?_, ?_⟩⟩
    · rw [hs, hk, hn]
      exact hsingle
    · rw [hs, hk, hn]
      exact fun oldest more hsamples hne => hmore oldest more c d hsamples hne (pushSample_last ..)
    · rw [ha', hl, hk]
    · rw [hb, hr]
      unfold reserveOf
      rw [hn]
  · rw [takeDiameter_refused (x := v.reel) ha] at h
    obtain ⟨a, b, hmeasured, hlength⟩ := measured_eq cfg { v.reel with diameter := d, cD := c }
    rw [hmeasured] at h
    have hk : x.k = v.k := (congrArg WebState.k h :)
    have hn : x.confidence = v.confidence := (congrArg WebState.confidence h :)
    have hknown : x.reelKnown = v.reelKnown := (congrArg WebState.reelKnown h :)
    have ha' : x.lastLength = a := (congrArg WebState.lastLength h :)
    have hb : x.lastReserve = b := (congrArg WebState.lastReserve h :)
    refine ⟨congrArg WebState.diameter h, congrArg WebState.cD h, fun _ => ⟨(congrArg WebState.samples h :), hknown, hk, hn⟩,
      fun h => absurd h ha, fun hx => ?_⟩
    obtain ⟨hl, hr⟩ := hlength (hknown.symm.trans hx)
    refine ⟨by rw [ha', hl, hk]; rfl, ?_⟩
    rw [hb, hr]
    unfold reserveOf
    rw [hn]
    rfl

end Sys2Proof.Machine

/-! Reports that the Slitter Pair Controller is told (R117, R119, R123). -/
namespace Sys2Proof.Machine

/-! ### The station of a slot -/

theorem stationSlot_of_kept {s t : State} (h : t.kept = s.kept) (j slot : Nat) :
    (t.stationAt j).any (·.cfg.slot == slot) = (s.stationAt j).any (·.cfg.slot == slot) := by
  have hcfg : t.sp.stations.map (Option.map (·.cfg)) = s.sp.stations.map (Option.map (·.cfg)) :=
    congrArg (fun x => x.tables.pair.stations) h
  have hlookup (u : State) : (u.stationAt j).any (·.cfg.slot == slot) =
      (lookup (u.sp.stations.map (Option.map (·.cfg))) j).any (·.slot == slot) := by
    unfold State.stationAt lookup
    rw [List.getElem?_map]
    cases u.sp.stations[j]? with
    | none => rfl
    | some o => cases o <;> rfl
  rw [hlookup, hlookup, hcfg]

/-- A slot that one station alone names. -/
theorem slitterArrival_single {slot j : Nat} {s : State} {y : Slitter} (hr : s.mu.mode = .run) (hj : j ≤ 1)
    (hy : s.stationAt j = some y) (hslot : y.cfg.slot = slot)
    (hone : ∀ j' z, s.stationAt j' = some z → z.cfg.slot = slot → j' = j) :
    slitterArrival slot s = stationReport j (s.slotValue slot) (s.slotAux slot) s := by
  have hact : (if (s.stationAt j).any (·.cfg.slot == slot) = true then
      stationReport j (s.slotValue slot) (s.slotAux slot) s else s) =
      stationReport j (s.slotValue slot) (s.slotAux slot) s := if_pos (by rw [hy]; simpa using hslot)
  have hothers {i : Nat} (hi : i ≠ j) : ¬(s.stationAt i).any (·.cfg.slot == slot) = true := by
    rw [Option_any_eq_false fun v hv => by simpa using fun h => hi (hone i v hv h)]
    exact Bool.false_ne_true
  unfold slitterArrival
  rw [if_pos (State.running_iff.mpr hr)]
  refine (foldl_single List.nodup_range (List.mem_range.mpr (by omega)) (fun i hi => ?_) (fun i hi => ?_)).trans hact
  · exact if_neg (hothers hi)
  · rw [hact]
    refine if_neg ?_
    rw [stationSlot_of_kept (kept_stationReport ..)]
    exact hothers hi

/-! ### What a report shows (R117, R119) -/

/-- R117, R119: the report that shows a live command complete. -/
def LiveCommand.shownBy (l : LiveCommand) (value aux : Word) : Prop :=
  match l.verb with
  | .preset => value = natWord l.tag.toNat
  | .lift => aux = 1
  | .slitterDrop => aux = 2
  | _ => False

theorem reportShows_iff {l : LiveCommand} {value aux : Word} : reportShows l value aux = true ↔ l.shownBy value aux := by
  unfold reportShows LiveCommand.shownBy
  cases l.verb <;> simp

section
variable {j : Nat} {value aux : Word} {s : State} {y : Slitter} (hy : s.stationAt j = some y)
include hy

/-- R123: a station in FAULT, or a report that shows nothing, changes nothing. -/
theorem stationReport_quiet (h : y.state = .fault ∨ aux ≠ 4 ∧ ∀ l, y.live = some l → ¬l.shownBy value aux) :
    stationReport j value aux s = s := by
  unfold stationReport
  rw [hy]
  dsimp only
  rcases h with hf | ⟨ha, hshow⟩
  · exact if_pos hf
  · rw [if_neg ha]
    refine ite_eq_left_iff.mpr fun _ => ?_
    cases hl : y.live with
    | none => rfl
    | some l => exact if_neg (mt reportShows_iff.mp (hshow l hl))

/-- R123: a reported FAULT is taken first (log 33). -/
theorem stationReport_fault (hs : y.state ≠ .fault) (ha : aux = 4) : stationReport j value aux s = stationFault j 4 s := by
  unfold stationReport
  rw [hy]
  dsimp only
  rw [if_neg hs, if_pos ha]

/-- R117, R119: a report that shows the live command complete settles it. -/
theorem stationReport_shows {l : LiveCommand} (hs : y.state ≠ .fault) (ha : aux ≠ 4) (hl : y.live = some l)
    (hshow : l.shownBy value aux) : stationReport j value aux s = settleLive j l s := by
  unfold stationReport
  rw [hy]
  dsimp only
  rw [if_neg hs, if_neg ha, hl]
  exact if_pos (reportShows_iff.mpr hshow)

end

/-! ### The settled command (R117, R119, R68) -/

theorem adjustStation_congr {s : State} {i : Nat} {x : Slitter} {f g : Slitter → Slitter} (hx : s.stationAt i = some x)
    (h : f x = g x) : s.adjustStation i f = s.adjustStation i g := by
  have hx' : lookup s.sp.stations i = some x := hx
  unfold State.adjustStation adjust
  rw [hx']
  dsimp only
  rw [h]

/-- R117, R119: where a station stands when its live command is complete. -/
def Slitter.movedBy (y : Slitter) (v : Verb) : Slitter :=
  match v with
  | .preset => { y with state := .preset }
  | .lift => { y with state := .idle, pattern := none }
  | _ => { y with state := .engaged }

/-- R68: a command of a channel is to be aborted. -/
def Channel.abortTag (c : Channel) (tag : Half) : Channel :=
  { c with outstanding := c.outstanding.map (fun x => if x.tag == tag then { x with abort := true } else x) }

/-- R117, R119: the command is settled, its abort asked for, and the station moved on. -/
def State.settled (s : State) (j : Nat) (y : Slitter) (l : LiveCommand) : State :=
  (s.adjustChannel y.cfg.channel (Channel.abortTag · l.tag)).adjustStation j (fun _ =>
    { y.movedBy l.verb with live := none, settled := some l.tag })

theorem cancelOwn_outstanding {ch : Nat} {tag : Half} {s : State} {c : Channel} (hc : s.channelAt ch = some c)
    (hp : c.pend.map (·.tag) ≠ some tag) (ho : c.outstanding.any (·.tag == tag) = true) :
    cancelOwn ch tag s = s.adjustChannel ch (Channel.abortTag · tag) := by
  unfold cancelOwn cancelCommand
  rw [hc]
  dsimp only
  rw [if_neg (by simpa using hp), if_pos ho]
  rfl

section
variable {j : Nat} {s : State} {y : Slitter} {l : LiveCommand} {c : Channel} (hy : s.stationAt j = some y)
  (hc : s.channelAt y.cfg.channel = some c) (hp : c.pend.map (·.tag) ≠ some l.tag)
  (ho : c.outstanding.any (·.tag == l.tag) = true)
include hy hc hp ho

theorem settleLive_eq : settleLive j l s = liveComplete j l.verb
    ((s.adjustChannel y.cfg.channel (Channel.abortTag · l.tag)).adjustStation j (fun x => { x with settled := some l.tag })) := by
  unfold settleLive
  rw [hy]
  dsimp only
  rw [cancelOwn_outstanding (s := s.adjustStation j _) hc hp ho, adjustChannel_adjustStation]

omit hc hp ho in
/-- The step that a completion begins with. -/
theorem adjustStation_settled {g : Slitter → Slitter}
    (hg : g { y with settled := some l.tag } = { y.movedBy l.verb with live := none, settled := some l.tag }) :
    ((s.adjustChannel y.cfg.channel (Channel.abortTag · l.tag)).adjustStation j (fun x =>
      { x with settled := some l.tag })).adjustStation j g = s.settled j y l := by
  rw [adjustStation_adjustStation]
  refine adjustStation_congr (x := y) ?_ hg
  unfold State.stationAt
  rw [State.adjustChannel_sp]
  exact hy

/-- R117: a PRESET is complete. -/
theorem settleLive_preset (hv : l.verb = .preset) : settleLive j l s = endLateness (s.settled j y l) := by
  rw [settleLive_eq hy hc hp ho, hv]
  exact congrArg endLateness (adjustStation_settled (l := l) hy (by rw [hv]; rfl))

/-- R119: a LIFT is complete. -/
theorem settleLive_lift (hv : l.verb = .lift) :
    settleLive j l s = swapEndCheck ((s.settled j y l).adjustSwap (fun w => { w with lift := .done })) := by
  rw [settleLive_eq hy hc hp ho, hv]
  exact congrArg (fun u : State => swapEndCheck (u.adjustSwap (fun w => { w with lift := .done })))
    (adjustStation_settled (l := l) hy (by rw [hv]; rfl))

/-- R119: a DROP is complete. -/
theorem settleLive_drop (hv : l.verb = .slitterDrop) :
    settleLive j l s = swapEndCheck ((s.settled j y l).adjustSwap (fun w => { w with drop := .done })) := by
  rw [settleLive_eq hy hc hp ho, hv]
  exact congrArg (fun u : State => swapEndCheck (u.adjustSwap (fun w => { w with drop := .done })))
    (adjustStation_settled (l := l) hy (by rw [hv]; rfl))

end

/-! ### The swap (R119, R122) -/

theorem endLateness_idle {s : State} (h : ∀ q, s.sp.swap = some q → q.stage ≠ .late) : endLateness s = s := by
  unfold endLateness
  cases hq : s.sp.swap with
  | none => rfl
  | some q => exact if_neg fun hl => h q hq hl.1

theorem swapEndCheck_none {s : State} {f : Swap → Swap} (h : s.sp.swap = none) : swapEndCheck (s.adjustSwap f) = s := by
  have hsp : s.adjustSwap f = s := by
    have hnone : { s.sp with swap := s.sp.swap.map f } = s.sp := by
      rw [h, Option.map_none, ← h]
    unfold State.adjustSwap
    rw [hnone]
    rfl
  unfold swapEndCheck
  rw [hsp, h]

theorem adjustSwap_some {s : State} {f : Swap → Swap} {q : Swap} (h : s.sp.swap = some q) :
    s.adjustSwap f = s.withSp { s.sp with swap := some (f q) } := by
  unfold State.adjustSwap
  rw [h]
  rfl

/-- R119: what a swap makes of a command done. -/
def Swap.doneBy (q : Swap) (v : Verb) : Swap := if v = .lift then { q with lift := .done } else { q with drop := .done }

/-- R119: both commands of a swap are done. -/
def Swap.ended (q : Swap) : Prop := q.drop = .done ∧ (q.lift = .done ∨ q.lift = .failed ∨ q.lift = .notNeeded)

theorem swapEndCheck_open {s : State} {q : Swap} (h : s.sp.swap = some q) (hq : ¬q.ended) : swapEndCheck s = s := by
  unfold swapEndCheck
  rw [h]
  exact if_neg hq

theorem swapEndCheck_ended {s : State} {q : Swap} {pos : Word} (h : s.sp.swap = some q) (hq : q.ended)
    (hpos : q.boundary.map (·.pos) = some pos ∨ q.boundary = none ∧ q.lateStart = some pos) : swapEndCheck s =
      raise .swapDone (natWord q.newStation) pos (match q.lateStart with
        | some p => wordOf (sdist p s.sp.cover.rear)
        | none => 0) (s.withSp { s.sp with swap := none }) := by
  have hplace : (match q.boundary with
      | some b => b.pos
      | none => q.lateStart.getD 0) = pos := by
    rcases hpos with hb | ⟨hb, hl⟩
    · obtain ⟨b, hb, hp⟩ := Option.map_eq_some_iff.mp hb
      rw [hb]
      exact hp
    · rw [hb, hl]
      rfl
  unfold swapEndCheck
  rw [h]
  exact (if_pos hq).trans (congrArg (fun p => raise .swapDone (natWord q.newStation) p _ _) hplace)

end Sys2Proof.Machine

/-! Joint sensors outside BOARD (R35 to R38): what an event of their slot leaves. -/
namespace Sys2Proof.Machine

/-- R35: a point's baseline is set. -/
def State.baselined (s : State) (sec point : Nat) (seen : Half) : State :=
  s.adjustMap sec (fun m => { m with baselines := m.baselines.set point (some seen) })

theorem marks_baselined {s : State} {sec point : Nat} {seen : Half} (h : sec < s.wm.maps.length) :
    ((s.baselined sec point seen).mapAt sec).marks = (s.mapAt sec).marks := by
  unfold State.baselined
  rw [mapAt_adjustMap h, if_pos rfl]

/-- R38: the zone of a detection that no splice matches. -/
def State.jointZone (s : State) (sec : Nat) (pj : Word) (lead trail widening : Nat) : Mark :=
  { slot := s.freeSlot, serial := s.wm.nextSerial, kind := .zone, cause := some .jointUnknown, sec := sec
    pos := pj, lead := fitLength lead, trail := fitLength trail, widening := fitLength widening
    conf := .confirmed, reckoned := s.uncertain sec, via := none, verifiedAt := none, origin := none
    order := none, patternChange := false }

section
variable {r : State} {sec point k window link lead trail : Nat} {c : Section} {p : Point} {seen : Half}
  (hsec : sec ≤ 11) (hc : r.sectionAt sec = some c) (hp : c.cfg.points[point]? = some p)
  (hu : p.use = .jointSensor k window link lead trail)
  (hone : ∀ (sec' : Nat) (c' : Section) (point' : Nat) (p' : Point) a b d e, r.sectionAt sec' = some c' →
    c'.cfg.points[point']? = some p' → p'.use = .jointSensor k a b d e → sec' = sec ∧ point' = point)
  (hb : r.wm.boardChange = none) (hseen : (r.slotAux k).truncate 16 = seen)
include hsec hc hp hu hone hb hseen

/-- R35: a count that tells of no new joint, or in SETUP. -/
theorem jointReport_quiet (h : r.mu.mode = .setup ∨ ((r.mapAt sec).baselines[point]?).join = none ∨
    ((r.mapAt sec).baselines[point]?).join = some seen) :
    event (ownerArrival .wm k) r = r.baselined sec point seen :=
  event_mapArrival (mapArrival_single hsec hc hp hu hone) (jointArrival_quiet hu hseen h) hb rfl rfl rfl

variable {before : Half} {pj : Word} (hm : r.mu.mode = .run) (hold : ((r.mapAt sec).baselines[point]?).join = some before)
  (hne : before ≠ seen) (hboard : r.isBoard sec = false)
  (hpj : shiftBy (toTrack r ⟨sec, .primary⟩ (r.slotValue k)) (-p.dist) = pj)
include hm hold hne hboard hpj

omit hsec hc hp hone hb hboard in
theorem jointArrival_detected : jointArrival sec point p k r = jointDetection sec point p.dist window lead trail
    (seen - before).toNat pj (r.baselined sec point seen) := by
  rw [jointArrival_detects hu hseen rfl hm hold hne, hpj]
  rfl

section
variable {m v : Mark} (hmem : m ∈ (r.mapAt sec).marks) (hmeets : m.meets point window pj) (hmsec : m.sec = sec)
  (hnear : ∀ y ∈ (r.mapAt sec).marks, y.meets point window pj →
    y = m ∨ (sdist pj m.pos).natAbs < (sdist pj y.pos).natAbs)
  (hv : m.verified point pj (r.reckonWidening sec) (r.uncertain sec) = v)
include hmem hmeets hmsec hnear hv

omit hsec hc hp hone hb in
/-- R36: the nearest splice is matched. -/
theorem jointArrival_matched : jointArrival sec point p k r =
    correctVia sec p.dist pj m ((r.baselined sec point seen).matched sec m v) := by
  have hmarks := marks_baselined (point := point) (seen := seen) (lt_of_mem_marks hmem)
  rw [jointArrival_detected hu hseen hm hold hne hpj]
  unfold jointDetection
  rw [hmarks, matchJoint_some hmem hmeets hnear]
  exact matchedJoint_eq (s := r.baselined sec point seen) (hmarks.symm ▸ hmem) hmsec hboard hv

/-- R36: a matched mark without a via-link. -/
theorem jointReport_matched (hvia : m.via = none) :
    event (ownerArrival .wm k) r = (r.baselined sec point seen).matched sec m v := by
  have harrival : jointArrival sec point p k r = (r.baselined sec point seen).matched sec m v := by
    rw [jointArrival_matched hu hseen hm hold hne hboard hpj hmem hmeets hmsec hnear hv]
    unfold correctVia
    rw [hvia]
  refine event_mapArrival (mapArrival_single hsec hc hp hu hone) harrival ?_ ?_ ?_ ?_
  · exact (congrArg WebMap.boardChange (raise_wm ..)).trans hb
  · exact raise_pt ..
  · exact raise_op ..
  · exact raise_cp ..

/-- R37: a matched mark whose via-link is corrected. -/
theorem jointReport_corrects {via : Nat} {l : Link} (hvia : m.via = some via) (hl : r.linkAt via = some l)
    (hcorr : (sdist m.pos pj).natAbs ≤ l.maxCorr)
    (hother : ∀ y ∈ (r.mapAt sec).marks, y.slot ≠ m.slot → y.via ≠ some via) :
    event (ownerArrival .wm k) r = ((r.baselined sec point seen).matched sec m v).adjustLink via (fun l =>
      { l with aDown := shiftBy l.aDown (sdist m.pos pj) }) := by
  have hlt := lt_of_mem_marks hmem
  have hpt : ((r.baselined sec point seen).matched sec m v).pt = r.pt := raise_pt ..
  have hmarks : (((r.baselined sec point seen).matched sec m v).mapAt sec).marks =
      insertMark v ((r.mapAt sec).marks.filter (·.slot != m.slot)) := by
    have hmatched : ((r.baselined sec point seen).matched sec m v).mapAt sec = ((r.baselined sec point seen).adjustMap sec
        (fun x => { x with marks := insertMark v (((r.baselined sec point seen).mapAt sec).marks.filter (·.slot != m.slot)) })).mapAt
          sec := by
      unfold State.matched State.mapAt
      rw [raise_wm]
    rw [hmatched, mapAt_adjustMap (by simpa [State.baselined, State.adjustMap] using hlt), if_pos rfl, marks_baselined hlt]
  have harrival : jointArrival sec point p k r = ((r.baselined sec point seen).matched sec m v).adjustLink via (fun l =>
      { l with aDown := shiftBy l.aDown (sdist m.pos pj) }) := by
    rw [jointArrival_matched hu hseen hm hold hne hboard hpj hmem hmeets hmsec hnear hv]
    refine correctVia_link hvia ?_ hcorr fun y hy hslot => ?_
    · unfold State.linkAt
      rw [hpt]
      exact hl
    · rw [hmarks, (insertMark_perm ..).mem_iff, List.mem_cons, List.mem_filter] at hy
      rcases hy with rfl | ⟨hy, -⟩
      · exact absurd (by rw [← hv]; rfl) hslot
      · exact hother y hy hslot
  refine event_sameSignature ((mapArrival_single hsec hc hp hu hone).trans harrival) ?_ ?_ ?_
  · exact (congrArg WebMap.boardChange (raise_wm ..)).trans hb
  · exact (signature_adjustLink ..).trans (signature_congr hpt (raise_op ..) (raise_cp ..))
  · exact (boardCount_congr hpt :)

end

/-- R38: a detection that no splice matches. -/
theorem jointReport_unexpected (hmeets : ∀ y ∈ (r.mapAt sec).marks, ¬y.meets point window pj) (hlt : sec < r.wm.maps.length)
    (hroom : Config.boundaryLimit - r.boundaryCount < r.freeCount) :
    let zone := r.jointZone sec pj lead trail (r.reckonWidening sec)
    let listed := (r.baselined sec point seen).adjustMap sec (fun x => { x with marks := insertMark zone (r.mapAt sec).marks })
    event (ownerArrival .wm k) r = raise .jointUnexpected (natWord (sec * 8 + point)) pj (natWord (seen - before).toNat)
      (listed.withWm { listed.wm with nextSerial := serialAfter r.wm.nextSerial }) := by
  intro zone listed
  have hmarks := marks_baselined (point := point) (seen := seen) hlt
  have hall : (r.baselined sec point seen).allMarks = r.allMarks := allMarks_baselines
  have hzone : requestedMark (unmatchedZone sec pj lead trail) (r.baselined sec point seen) = zone := by
    unfold requestedMark
    rw [freeSlot_congr hall rfl]
    simp only [zone, State.jointZone, unmatchedZone, Nat.zero_add]
    rfl
  have hlisted : listMark zone (r.baselined sec point seen) = listed := adjustMap_congr
    (congrArg (fun l => ({ (r.baselined sec point seen).mapAt sec with marks := insertMark zone l } : SectionMap)) hmarks)
  have harrival : jointArrival sec point p k r = raise .jointUnexpected (natWord (sec * 8 + point)) pj
      (natWord (seen - before).toNat) (listed.withWm { listed.wm with nextSerial := serialAfter r.wm.nextSerial }) := by
    rw [jointArrival_detected hu hseen hm hold hne hpj, jointDetection_unexpected
      (s := r.baselined sec point seen) (by rw [hmarks]; exact hmeets) hboard ((room_congr hall).mpr hroom), hzone]
    unfold State.entered
    rw [hlisted]
    rfl
  refine event_mapArrival (mapArrival_single hsec hc hp hu hone) harrival ?_ ?_ ?_ ?_
  · exact (congrArg WebMap.boardChange (raise_wm ..)).trans hb
  · exact raise_pt ..
  · exact raise_op ..
  · exact raise_cp ..

end

end Sys2Proof.Machine

/-! What an in-time frame of a station does (R51): the statement. -/
namespace Sys2Proof.Machine

theorem matched_baselined {s : State} {sec point : Nat} {seen : Half} {m v : Mark} (h : sec < s.wm.maps.length) :
    (s.baselined sec point seen).matched sec m v = raise .jointMatched (natWord m.slot) v.pos (wordOf (sdist m.pos v.pos))
      ((s.baselined sec point seen).adjustMap sec (fun x =>
        { x with marks := insertMark v ((s.mapAt sec).marks.filter (·.slot != m.slot)) })) := by
  unfold State.matched
  rw [marks_baselined h]

theorem reckonWidening_eq {s : State} {sec : Nat} {c : Section} (h : s.sectionAt sec = some c) :
    s.reckonWidening sec = if s.uncertain sec then c.cfg.margin else 0 := by
  unfold State.reckonWidening State.margin
  rw [h]

/-- What the settling of a station's command leaves alone. -/
theorem settled_frame (s : State) (j : Nat) (x : Slitter) (l : LiveCommand) : (s.settled j x l).wm = s.wm ∧
    (s.settled j x l).pt = s.pt ∧ (s.settled j x l).op = s.op ∧ (s.settled j x l).cp = s.cp ∧
    (s.settled j x l).sp.swap = s.sp.swap ∧ (s.settled j x l).sp.cover = s.sp.cover := by
  obtain ⟨u, hu⟩ := adjustChannel_eq_withCcu x.cfg.channel (Channel.abortTag · l.tag) s
  unfold State.settled
  rw [hu]
  exact ⟨rfl, rfl, rfl, rfl, rfl, rfl⟩

section
variable {r : State} {j k : Nat} {value aux : Word} {x : Slitter}
  (hsingle : ownerArrival .sp k r = stationReport j value aux r) (hx : r.stationAt j = some x) (hb : r.wm.boardChange = none)
include hsingle hx

/-- R123: a station's fault at the end of its event. -/
theorem stationReport_faults {b : Nat} (hj : j ≤ 1) (hs : x.state ≠ .fault) (ha : aux = 4) (hbi : r.boardIndex = some b)
    (hev : r.mu.events.length < Config.eventCapacity) (hroom : Config.boundaryLimit - r.boundaryCount < r.freeCount) :
    (event (ownerArrival .sp k) r).stationAt j = some x.faulted ∧ ∃ later, (event (ownerArrival .sp k) r).mu.events =
      r.mu.events ++ ⟨.slitterFault, natWord j, materialAtStation j r, 4, r.fr.cycle⟩ :: later := by
  obtain ⟨hset, hpre⟩ := stationFault_spec (v := 4) hx hbi hev hroom
  rw [show wordOf 4 = 4 from natWord_eq (n := 4) (by decide)] at hpre
  have harrival := hsingle.trans (stationReport_fault hx hs ha)
  have hself : (stationFault j 4 r).stationAt j = some x.faulted := by
    unfold State.stationAt lookup
    rw [hset, List.getElem?_set_self (List.getElem?_eq_some_iff.mp (lookup_eq_some.mp hx)).1]
    rfl
  obtain ⟨hz, hl⟩ := (settleSteps_fault hj (z := x.faulted) rfl).on_eventEnd (s := r) (f := ownerArrival .sp k)
    ⟨harrival ▸ hself, harrival ▸ hpre⟩
  exact ⟨hz, prefix_cons hl⟩

include hb

/-- R123: a report that shows nothing. -/
theorem stationReport_ignored (h : x.state = .fault ∨ aux ≠ 4 ∧ ∀ l, x.live = some l → ¬l.shownBy value aux) :
    event (ownerArrival .sp k) r = r :=
  event_sameRecords (hsingle.trans (stationReport_quiet hx h)) hb rfl rfl rfl

variable {l : LiveCommand} {c : Channel} (hs : x.state ≠ .fault) (ha : aux ≠ 4) (hl : x.live = some l)
  (hshow : l.shownBy value aux) (hc : r.channelAt x.cfg.channel = some c) (hp : c.pend.map (·.tag) ≠ some l.tag)
  (ho : c.outstanding.any (·.tag == l.tag) = true)
include hs ha hl hshow hc hp ho

/-- R117, R119: with no swap, or a PRESET of a swap that is not LATE, the command is settled, no more. -/
theorem stationReport_settles (h : r.sp.swap = none ∨ l.verb = .preset ∧ ∀ q, r.sp.swap = some q → q.stage ≠ .late) :
    event (ownerArrival .sp k) r = r.settled j x l := by
  obtain ⟨hwm, hpt, hop, hcp, hswap, -⟩ := settled_frame r j x l
  refine event_sameRecords (hsingle.trans ((stationReport_shows hx hs ha hl hshow).trans ?_)) (by rw [hwm]; exact hb) hpt hop hcp
  have hpreset (hv : l.verb = .preset) (hlate : ∀ q, r.sp.swap = some q → q.stage ≠ .late) :
      settleLive j l r = r.settled j x l :=
    (settleLive_preset hx hc hp ho hv).trans (endLateness_idle fun q hq => hlate q (hswap ▸ hq))
  rcases h with hnone | ⟨hv, hlate⟩
  · cases hv : l.verb with
    | preset => exact hpreset hv fun q hq => nomatch hnone.symm.trans hq
    | lift => exact (settleLive_lift hx hc hp ho hv).trans (swapEndCheck_none (hswap.trans hnone))
    | slitterDrop => exact (settleLive_drop hx hc hp ho hv).trans (swapEndCheck_none (hswap.trans hnone))
    | _ => simp [LiveCommand.shownBy, hv] at hshow
  · exact hpreset hv hlate

omit hsingle hb ha hs hl in
/-- R119: a LIFT or DROP done. -/
theorem settleLive_swap {q : Swap} (hq : r.sp.swap = some q) (hv : l.verb ≠ .preset) : settleLive j l r =
    swapEndCheck ((r.settled j x l).withSp { (r.settled j x l).sp with swap := some (q.doneBy l.verb) }) := by
  obtain ⟨-, -, -, -, hswap, -⟩ := settled_frame r j x l
  cases hverb : l.verb with
  | preset => exact absurd hverb hv
  | lift => rw [settleLive_lift hx hc hp ho hverb, adjustSwap_some (hswap.trans hq)]; rfl
  | slitterDrop => rw [settleLive_drop hx hc hp ho hverb, adjustSwap_some (hswap.trans hq)]; rfl
  | _ => simp [LiveCommand.shownBy, hverb] at hshow

/-- R119: the swap goes on. -/
theorem stationReport_swapOpen {q : Swap} (hq : r.sp.swap = some q) (hv : l.verb ≠ .preset) (hend : ¬(q.doneBy l.verb).ended) :
    event (ownerArrival .sp k) r =
      (r.settled j x l).withSp { (r.settled j x l).sp with swap := some (q.doneBy l.verb) } := by
  obtain ⟨hwm, hpt, hop, hcp, -, -⟩ := settled_frame r j x l
  refine event_sameRecords (hsingle.trans ((stationReport_shows hx hs ha hl hshow).trans
    ((settleLive_swap hx hshow hc hp ho hq hv).trans (swapEndCheck_open rfl hend)))) ?_ hpt hop hcp
  exact (congrArg WebMap.boardChange hwm).trans hb

/-- R119: the swap ends. -/
theorem stationReport_swapEnded {q : Swap} {pos : Word} (hq : r.sp.swap = some q) (hv : l.verb ≠ .preset)
    (hend : (q.doneBy l.verb).ended)
    (hpos : q.boundary.map (·.pos) = some pos ∨ q.boundary = none ∧ q.lateStart = some pos) :
    event (ownerArrival .sp k) r = raise .swapDone (natWord q.newStation) pos (match q.lateStart with
      | some p => wordOf (sdist p r.sp.cover.rear)
      | none => 0) ((r.settled j x l).withSp { (r.settled j x l).sp with swap := none }) := by
  obtain ⟨hwm, hpt, hop, hcp, -, hcover⟩ := settled_frame r j x l
  have hstays : (q.doneBy l.verb).newStation = q.newStation ∧ (q.doneBy l.verb).boundary = q.boundary ∧
      (q.doneBy l.verb).lateStart = q.lateStart := by
    unfold Swap.doneBy
    split <;> exact ⟨rfl, rfl, rfl⟩
  obtain ⟨hnew, hboundary, hlate⟩ := hstays
  have hdone := swapEndCheck_ended (s := (r.settled j x l).withSp
    { (r.settled j x l).sp with swap := some (q.doneBy l.verb) }) (pos := pos) rfl hend (by rw [hboundary, hlate]; exact hpos)
  rw [hnew, hlate, State.withSp_sp, hcover] at hdone
  refine event_sameRecords (hsingle.trans ((stationReport_shows hx hs ha hl hshow).trans
    ((settleLive_swap hx hshow hc hp ho hq hv).trans hdone))) ?_ ?_ ?_ ?_
  · exact (congrArg WebMap.boardChange (raise_wm ..)).trans ((congrArg WebMap.boardChange hwm).trans hb)
  · exact (raise_pt ..).trans hpt
  · exact (raise_op ..).trans hop
  · exact (raise_cp ..).trans hcp

end

/-- Settles O9, by what the frame holds and the owner of the report's slot. -/
theorem inTimeReturnTaken : Obligations.InTimeReturnTaken := by
  intro bytes f s hg ho hcy hself hbc heard
  refine ⟨fun h hitems hh hsus => ?_, ?_⟩
  · rw [exec_returnFrame_inTime hg ho hcy hself hh, hitems, hsus]
    rfl
  · intro i k w h hi hst hkind hk hw hh hs aux stored
    have hexec := exec_returnFrame_report hh hk hw hg ho hcy hself hi hst hkind hs
    have hslot := slotAt_reported (bytes := bytes) (k := k) (i := i) hh hw
    obtain ⟨y, hy, hcycle⟩ := reported_withFr (bytes := bytes) (k := k) (i := i) hh
    have hstored : stored = s.withFr y := hy
    rw [hy] at hexec hslot
    have hvalue : (s.withFr y).slotValue k = i.value := by
      unfold State.slotValue
      rw [hslot]
    have haux : (s.withFr y).slotAux k = aux := by
      unfold State.slotAux
      rw [hslot]
      rfl
    clear_value stored
    subst hstored
    clear hslot hy
    refine ⟨fun how => ?_, ?_, ?_, ?_⟩
    · exact hexec.trans (congrArg _ (event_sameRecords (ownerArrival_idle how) hbc rfl rfl rfl))
    · intro sec c point p window link lead trail how hsec hc hp hu hone seen old based pj widening marks meets
      rw [how] at hexec
      have hseen : ((s.withFr y).slotAux k).truncate 16 = seen := by rw [haux]
      have hpj : shiftBy (toTrack (s.withFr y) ⟨sec, .primary⟩ ((s.withFr y).slotValue k)) (-p.dist) = pj := by
        rw [hvalue]
        rfl
      have hwiden : (s.withFr y).reckonWidening sec = widening := reckonWidening_eq hc
      have hnext (t : State) (ht : event (ownerArrival .wm k) (s.withFr y) = t) : exec (.returnFrame bytes) s = .next t :=
        hexec.trans (congrArg _ ht)
      refine ⟨fun h => hnext _ (jointReport_quiet (r := s.withFr y) hsec hc hp hu hone hbc hseen h), fun before hm hold hne hboard => ⟨?_, ?_⟩⟩
      · intro m hmem hmeets hmsec hnear e verified matched
        have hv : m.verified point pj ((s.withFr y).reckonWidening sec) ((s.withFr y).uncertain sec) = verified := by
          rw [hwiden]
          rfl
        have hmatched : ((s.withFr y).baselined sec point seen).matched sec m verified = matched :=
          matched_baselined (s := s.withFr y) (lt_of_mem_marks hmem)
        refine ⟨fun hvia => hnext _ ?_, fun via l hvia hl hcorr hother => hnext _ ?_⟩
        · rw [← hmatched]
          exact jointReport_matched (r := s.withFr y) hsec hc hp hu hone hbc hseen hm hold hne hboard hpj hmem hmeets hmsec hnear hv hvia
        · rw [← hmatched]
          exact jointReport_corrects (r := s.withFr y) hsec hc hp hu hone hbc hseen hm hold hne hboard hpj hmem hmeets hmsec hnear hv hvia hl
            hcorr hother
      · intro hnone hlt hroom zone listed
        have hzone : (s.withFr y).jointZone sec pj lead trail ((s.withFr y).reckonWidening sec) = zone := by
          rw [hwiden]
          rfl
        refine hnext _ ((jointReport_unexpected (r := s.withFr y) hsec hc hp hu hone hbc hseen hm hold hne hboard hpj hnone hlt hroom).trans ?_)
        rw [hzone]
        rfl
    · intro j v how hm hj hv hd now d accepted
      rw [how] at hexec
      obtain ⟨x, hx, hreel, hwm, hpt, hop, hcp⟩ := spliceArrival_diameter (s := s.withFr y) hm hj hv hd
      rw [hvalue, State.withFr_fr, hcycle] at hreel
      have hend : event (ownerArrival .sc k) (s.withFr y) = spliceArrival k (s.withFr y) :=
        event_sameRecords rfl (by rw [hwm]; exact hbc) hpt hop hcp
      rw [hend] at hexec
      obtain ⟨hdiameter, hcd, hrefused, haccepted, hlength⟩ := reel_of_diameter hreel
      refine ⟨_, { v with st := x }, hexec, (tablesChangeOnlyByWrites _ s _ hexec).2 rfl, (exec_mode rfl hexec).trans hm,
        congrArg Kept.replies (kept_spliceArrival ..), hx, rfl, hdiameter, hcd, hrefused, fun ha => ?_, hlength⟩
      obtain ⟨hknown, hsamples, hsingle, hmore⟩ := haccepted ha
      exact ⟨hknown, hsamples.trans (pushSample_eq ..), hsingle, hmore⟩
    · intro j x how hm hj hx hslot hone shows
      rw [how] at hexec
      have hsingle : ownerArrival .sp k (s.withFr y) = stationReport j i.value aux (s.withFr y) := by
        rw [← hvalue, ← haux]
        exact slitterArrival_single (s := s.withFr y) hm hj hx hslot hone
      have hnext (t : State) (ht : event (ownerArrival .sp k) (s.withFr y) = t) : exec (.returnFrame bytes) s = .next t :=
        hexec.trans (congrArg _ ht)
      refine ⟨fun h => hnext _ (stationReport_ignored (r := s.withFr y) hsingle hx hbc h), ?_, ?_⟩
      · intro b hs ha hbi hev hroom
        obtain ⟨hz, later, hlater⟩ := stationReport_faults (r := s.withFr y) hsingle hx hj hs ha hbi hev hroom
        rw [State.withFr_fr, hcycle] at hlater
        exact ⟨_, x.faulted, later, hexec, hz, rfl, rfl, by simp [Slitter.faulted, beq_eq_decide], rfl, hlater⟩
      · intro l c hs ha hl hshow hc hp ho moved told
        have htold : (s.withFr y).settled j x l = told := rfl
        clear_value told
        subst htold
        refine ⟨fun hnone => hnext _ ?_, fun q hq => ⟨fun hv hlate => hnext _ ?_, ?_⟩⟩
        · exact stationReport_settles (r := s.withFr y) hsingle hx hbc hs ha hl hshow hc hp ho (.inl hnone)
        · refine stationReport_settles (r := s.withFr y) hsingle hx hbc hs ha hl hshow hc hp ho (.inr ⟨hv, fun q2 hq2 => ?_⟩)
          exact Option.some.inj (hq.symm.trans hq2) ▸ hlate
        · intro hv q' ended
          refine ⟨fun hend => hnext _ ?_, fun pos hend hpos => hnext _ ?_⟩
          · exact stationReport_swapOpen (r := s.withFr y) hsingle hx hbc hs ha hl hshow hc hp ho hq hv hend
          · exact stationReport_swapEnded (r := s.withFr y) hsingle hx hbc hs ha hl hshow hc hp ho hq hv hend hpos

end Sys2Proof.Machine
